-- ==== Sys2Proof/Word.lean ====
section
/-! DEFINITION. The words the device moves (64 bits inside, 32 bits in registers), bit-field reading of
plain numbers, and two's-complement reading of a field. -/
namespace Sys2Proof

/-- Inside the device data moves as 64-bit words (01_architecture, "Dies"). -/
abbrev Word := BitVec 64

/-- A register is 32 bits wide (00_scope, "Reading conventions"). -/
abbrev RegWord := BitVec 32

/-- The bit field of `x` that starts at bit `lsb` and is `width` bits wide. -/
def bits (x lsb width : Nat) : Nat := (x >>> lsb) % 2 ^ width

/-- One bit of `x`. -/
def bit (x i : Nat) : Bool := (x >>> i) % 2 == 1

/-- The two's-complement value of the low `width` bits of `x`. -/
def sext (width x : Nat) : Int :=
  let y := x % 2 ^ width
  if y < 2 ^ (width - 1) then (y : Int) else (y : Int) - (2 ^ width : Nat)

/-- The two's-complement coding of `x` in `width` bits. -/
def enc (width : Nat) (x : Int) : Nat := (x % (2 ^ width : Nat)).toNat

/-- `x` held inside `lo` to `hi`. -/
def clampI (lo hi x : Int) : Int := if x < lo then lo else if hi < x then hi else x

/-- Set bit `i` of `x` to `b`. -/
def setBit (x i : Nat) (b : Bool) : Nat :=
  if bit x i = b then x else if b then x + 2 ^ i else x - 2 ^ i

/-- The numbers below `n` whose bit is set in `x`, rising. -/
def bitList (n x : Nat) : List Nat := (List.range n).filter (bit x)

/-- How many of the low `n` bits of `x` are set. -/
def popcount (n x : Nat) : Nat := (bitList n x).length

/-- The low `n` bytes of `x`, least significant first. -/
def toBytes (n x : Nat) : List (BitVec 8) := (List.range n).map fun i => BitVec.ofNat 8 (x >>> (8 * i))

/-- The number that bytes, least significant first, spell. -/
def ofBytes : List (BitVec 8) → Nat
  | [] => 0
  | b :: bs => b.toNat + 256 * ofBytes bs

/-- Round up to a multiple of `n`. -/
def roundUp (n x : Nat) : Nat := (x + n - 1) / n * n

/-- Division rounding up. -/
def ceilDiv (x n : Nat) : Nat := (x + n - 1) / n

/-- A power of two. -/
def isPow2 (n : Nat) : Bool := n != 0 && 2 ^ n.log2 == n

end Sys2Proof
end

