-- ==== Sys2Proof/Syntax.lean ====
section
/-! DEFINITION. The commands of the LQ6420: a register access, an event of a clock, a pin or a link, or a command entry
of the driver. -/
namespace Sys2Proof

/-- A command entry of the driver as the device has fetched it (Table 11.5), together with the host memory words the
command reads.  The opcode is the row's own. -/
structure HostCmd where
  /-- submission queue the entry stands in: 0 admin, 2p for command queue p -/
  q : Fin 512 := 0
  fence : Bool := false
  irqNow : Bool := false
  /-- reserved bits 15:10 of word 0 -/
  rsv : BitVec 6 := 0
  target : BitVec 16 := 0
  tag : BitVec 16 := 0
  seq : BitVec 16 := 0
  w1 : BitVec 64 := 0
  w2 : BitVec 64 := 0
  w3 : BitVec 64 := 0
  w4 : BitVec 64 := 0
  w5 : BitVec 64 := 0
  w6 : BitVec 64 := 0
  w7 : BitVec 64 := 0
  /-- what the host memory named by the payload holds, for a command that reads it -/
  data : List (BitVec 64) := []
  deriving DecidableEq, Repr, Inhabited

/-- Errors the capture-ring SRAM of a channel reports while a record is moved (R154): corrected words, and the
uncorrectable P12 groups, each by its first sample counted from the record's start. -/
structure RingEcc where
  ch : Fin 64
  corr : Nat
  groups : List Nat
  deriving DecidableEq, Repr

/-- The user of a line of SRAM outside the rings (R437): an accumulator line of a set, a pricking entry, an entry of the
measurement table (by its first line), an entry of a queue, another line. -/
inductive SramUser where
  | acc (set line : Nat) | prk (i : Nat) | meas (line : Nat) | queue (q : Nat) | other
  deriving DecidableEq, Repr

/-- An error of SRAM that a scrub step or a read meets (R154, R437): the byte offset, the user of its line, whether it was
corrected, and the channel where the line is a ring's. -/
structure SramEcc where
  offset : Nat
  user : SramUser
  ring : Option (Fin 64) := none
  corrected : Bool
  deriving DecidableEq, Repr

/-- What the error correction of a line access reports (R308, R309); the component of an uncorrectable read is 7 when it
is not known. -/
inductive MemEcc where
  | ok | corrected | uncorrectable (component : Fin 8)
  deriving DecidableEq, Repr

/-- The address spaces a register access can name (Table 11.2). -/
inductive Space where
  | pf0Bar0 | pf0Bar2 | pf0Bar4 | pf1Bar0 | pf1Bar2
  deriving DecidableEq, Repr

/-! ### Mirror frames of a pair (Table 14.2), as their sections decode -/

/-- An accepted trigger: set, T in 2^-18 ns, its EPOCH, SEGMENT, DEAD, MISSED, PRE_VALID. -/
structure FrTrig where
  set : Nat
  t : Nat
  epoch : Nat
  seg : Nat
  dead : Nat
  missed : Nat
  pre : Nat
  deriving DecidableEq, Repr, Inhabited

/-- A closed record: set, SEGMENT, POST held, TRUNCATED cause (0 none, 1 abort, 2 SPLL, 3 MPLL). -/
structure FrClose where
  set : Nat
  seg : Nat
  post : Nat
  cause : Nat
  deriving DecidableEq, Repr, Inhabited

/-- A re-arm or arm: set and instant in 2^-18 ns. -/
structure FrArm where
  set : Nat
  t : Nat
  deriving DecidableEq, Repr, Inhabited

/-- A generator decision: generator, kind (0 GUARD_TRIP, 1 GEN_STOP, 2 jump, 3 advance), the sample index, and the guard
or the entry it names. -/
structure FrGen where
  gen : Nat
  kind : Nat
  sample : Nat
  arg : Nat
  deriving DecidableEq, Repr, Inhabited

/-- A forwarded command with its PSEQ and stitch of application. -/
structure FrCmd where
  pseq : Nat
  due : Nat
  op : Nat
  h : HostCmd
  deriving DecidableEq, Repr, Inhabited

/-- A divergence report: set and T. -/
structure FrDiv where
  set : Nat
  t : Nat
  deriving DecidableEq, Repr, Inhabited

structure MirrorFrame where
  stitch : Nat := 0
  dtime : Nat := 0
  epoch : Nat := 0
  role : Nat := 0
  strap : Bool := false
  devState : Nat := 0
  splls : Nat := 0
  mplls : Nat := 0
  tplls : Nat := 0
  lasting : Nat := 0
  takeover : Bool := false
  hoopState : Nat := 0
  digest : Nat := 0
  /-- announced start stitch of a retrain, 0 none -/
  retrain : Nat := 0
  trigs : List FrTrig := []
  closes : List FrClose := []
  arms : List FrArm := []
  gens : List FrGen := []
  cmds : List FrCmd := []
  divs : List FrDiv := []
  /-- stitch at which roles exchange (R424), 0 none -/
  swap : Nat := 0
  /-- range of a twin check that the primary asks for, and the sender's digest and count (R427) -/
  twinReq : Option (Nat × Nat) := none
  twin : Option (Nat × Nat) := none
  deriving DecidableEq, Repr, Inhabited

/-- What training and the state transfer after it bring from the partner (R405–R407, R426). -/
structure Partner where
  /-- full service, no set armed, no generator armed or running -/
  ready : Bool := true
  khz : Nat := 0
  /-- MEM_CFG as a register reads -/
  memCfg : Nat := 0
  strap : Bool := false
  /-- the partner is a primary that rejoins this device -/
  rejoin : Bool := false
  /-- measured one-way delays in ps: of a frame, of trigger-bus lines 0–15 and of SYNC -/
  frameDelay : Nat := 0
  dly : List (BitVec 16) := []
  /-- the primary's DTIME with its fraction, stitch and cycle now -/
  dtime : BitVec 64 := 0
  dtSub : BitVec 40 := 0
  stitch : Nat := 0
  cyc : Fin 256 := 0
  /-- stitch at whose boundary both devices enter their roles -/
  form : Nat := 0
  /-- next PSEQ of the primary -/
  pseq : BitVec 16 := 0
  /-- configuration by place of its field, segment and sequencer tables -/
  regs : List (Nat × Nat) := []
  segs : List (Nat × List Nat) := []
  seqs : List (Nat × Nat) := []
  /-- timers that run on the primary, with the core cycle since its stitch 0 of their next period -/
  timers : List (Fin 4 × Nat) := []
  /-- sets that are ARMED on the primary, with their arm instants -/
  armed : List FrArm := []
  deriving DecidableEq, Repr, Inhabited

/-- A request of the device to host memory that can fail: a fetch for queue `q`, data of a DMA channel (`none` when the
engine cannot name the channel), a descriptor fetch. -/
inductive BusReq where
  | queue (q : Fin 512) | dmaData (ch : Option (Fin 32)) | dmaDesc (ch : Fin 32)
  deriving DecidableEq, Repr

/-- What a boot stage found when it ended (R457, R459). -/
structure BootResult where
  /-- the stage's own check: XTAL in S0, authentication in S1, the locks in S3 -/
  ok : Bool := true
  /-- time since the start began, in ms -/
  ms : Nat := 0
  /-- S0: BOOTMODE[1:0] and PAIR_ROLE -/
  bootmode : Fin 4 := 0
  strapPri : Bool := false
  /-- S2: the level of HP_STRAP_N, the store copy that authenticates (0 the newer, 1 the older, 2 neither), and whether its
  epoch is below the fuse count -/
  strapHigh : Bool := true
  copy : Fin 3 := 0
  rollback : Bool := false
  /-- S3: bands of SPLL, CPLL and MPLL -/
  bandS : Fin 64 := 0
  bandC : Fin 64 := 0
  bandM : Fin 64 := 0
  /-- S4: coefficients of the 64 slices of T0 -/
  meas : List (List Int) := []
  /-- S5: the memory fields that the configuration flash holds, by place of the field; the channels that pass verification,
  and the failing ranks and lanes of the others -/
  cfg : List (Nat × Nat) := []
  pass : BitVec 16 := 0xFFFF
  maps : List (Fin 16 × BitVec 32) := []
  deriving DecidableEq, Repr, Inhabited

/-- The supplies the device watches (Table 16.1), by number. -/
abbrev Rail := Fin 10

/-- The commands and events the part takes, one constructor for each row of the opcode table. -/
inductive Instr where
  /-- CORE_CYCLE (R22): One acquisition-core cycle moves 8 corrected samples per channel to the trigger units, the capture ring and the log decimator. -/
  | coreCycle (raw : List (Fin 64 × List (BitVec 12)))
  /-- STITCH_BOUNDARY (R25): The stitch boundary advances the stitch and fault counters, latches DTIME and applies commands and changes due at that boundary. -/
  | stitchBoundary
  /-- QUALIFICATION_SLOT (R118): In cycles 0–63 each trigger program processes the events that arrived in the preceding stitch in time order. -/
  | qualificationSlot
  /-- BOOKKEEPING_SLOT (R26): In cycles 64–127 records are opened and closed, pricking entries written and re-arms completed. -/
  | bookkeepingSlot (ecc : List RingEcc) (sram : List SramEcc)
  /-- MEASUREMENT_CLOSING_SLOT (R230): In cycles 128–159 measurement results of records ended in the preceding stitch are finalised and written. -/
  | measurementClosingSlot
  /-- MIRROR_FRAME_SLOT (R409): In cycles 160–191 each paired device assembles its mirror frame and transmits it from cycle 192. -/
  | mirrorFrameSlot
  /-- FAULT_WINDOW_SLOT (R433): In cycles 192–223 counts enter the open buckets, buckets close and each source is classed TRANSIENT or LASTING. -/
  | faultWindowSlot
  /-- MAINTENANCE_SLOT (R442): In cycles 224–247 the arbiter admits the oldest non-conflicting deferred maintenance requests and starts one step. -/
  | maintenanceSlot (ecc : List SramEcc)
  /-- MAINT_STEP_END (R441): A running maintenance step ends and its outcome is reported. -/
  | maintStepEnd (act : Fin 12) (inst : Nat)
  /-- MAINT_LONG (R443): A request deferred for DEFER_LIMIT ms counts once in source 52. -/
  | maintLong (act : Fin 12) (inst : Nat)
  /-- CHECK_SAMPLE (R61): A check-converter sample is compared with the boxcar fast value and counted as mismatch or skip. -/
  | checkSample (ch : Fin 64) (code : BitVec 18) (at_ : Nat)
  /-- TEMP_READING (R49): Every 256 stitches each tile reads its sensor and all its slices take new interpolated coefficients. -/
  | tempReading (t0 : BitVec 16) (t1 : BitVec 16) (t2 : BitVec 16) (t3 : BitVec 16)
  /-- ESTIMATOR_INTERVAL_END (R52): At the end of a background-estimation interval candidate trims are formed, checked against bands and applied or the slice frozen. -/
  | estimatorIntervalEnd (ch : Fin 64) (res : List (List Int))
  /-- CHANNEL_SETTLED (R39): After its settling stitches a channel becomes ON, ring writing starts and the command completes. -/
  | channelSettled (ch : Fin 64)
  /-- FG_CAL_DONE (R57): Foreground calibration of a tile ends, trims or table are applied and the channels start settling. -/
  | fgCalDone (tile : Fin 4) (meas : List (List Int))
  /-- LOOPBACK_SETTLED (R65): Four stitches after the switch the loopback path has settled and LOOPBACK completes. -/
  | loopbackSettled (gen : Fin 8)
  /-- SPLL_LOST (R91): SPLL loss is declared, the core moves to its fallback clock, records close, sets disarm and gaps open. -/
  | spllLost
  /-- SPLL_LOCKED (R91): SPLL locks after its band search and the core returns to SPLL at the next fallback boundary. -/
  | spllLocked (band : Fin 64)
  /-- MPLL_LOST (R92): MPLL loss makes memory unavailable, closes records, parks generators and pauses DRAM DMA. -/
  | mpllLost (late : Bool)
  /-- MPLL_LOCKED (R92): MPLL relocks and the ranks leave self-refresh before verification. -/
  | mpllLocked (band : Fin 64)
  /-- MEM_REINIT (R92): Verification after MPLL relock completes and reports whether areas are kept. -/
  | memReinit (pass : BitVec 16) (maps : List (Fin 16 × BitVec 32))
  /-- CPLL_LOST (R93): CPLL loss moves system domains to XTAL at reduced throughput. -/
  | cpllLost
  /-- CPLL_LOCKED (R93): CPLL relocks and the domains move back without a glitch. -/
  | cpllLocked (band : Fin 64)
  /-- XTAL_FAIL (R95): XTAL failure declares all loops lost and holds the device in reset. -/
  | xtalFail
  /-- XTAL_RETURN (R95): XTAL returns and the device starts with boot cause XTAL_LOST. -/
  | xtalReturn
  /-- REF_LOST (R81): A missing REFIN or PPSIN edge disqualifies the source and TPLL coasts. -/
  | refLost (pps : Bool)
  /-- REF_QUALIFIED (R83): A source completes its qualification time and the offset is pulled in or handled by the realign option. -/
  | refQualified (pps : Bool) (off : Int)
  /-- SLEW_DONE (R83): A REALIGN_SLEW brings the offset within PBO_THR. -/
  | slewDone
  /-- DTIME_WRAP (R76): DTIME wraps and EPOCH increments. -/
  | dtimeWrap
  /-- PPSIN_EDGE (R88): A PPSIN rising edge is time-stamped and compensated by PPS_DELAY. -/
  | ppsinEdge (ofs : Nat)
  /-- PPSOUT_PULSE (R90): PPSOUT rises at each whole second of DTIME for 1 ms. -/
  | ppsoutPulse
  /-- SYNCIN_PULSE (R257): A SYNCIN pulse is taken and pending MODE 1 generator starts are scheduled. -/
  | syncinPulse
  /-- MARKER_INPUT_EDGE (R111): An active edge on a marker or trigger-bus input is time-stamped and delivered as an event. -/
  | markerInputEdge (line : Fin 112) (high : Bool)
  /-- TIMER_FIRE (R132): Timer TMRt fires at its START and every PERIOD cycles. -/
  | timerFire (r : Fin 4)
  /-- TRIG_OUT_PULSE (R126): A TRIG_OUT pulse leading edge appears at T + 2 stitches + 48 ns and lasts WIDTH cycles. -/
  | trigOutPulse (t : Fin 16)
  /-- COMPARATOR_ACTIVATE (R183): A modulator comparator output becomes active and raises its SID event. -/
  | comparatorActivate (d : Fin 256)
  /-- MOD_LOST (R181): A modulator input becomes LOST on decode errors or a stuck bit. -/
  | modLost (d : Fin 256)
  /-- MOD_RESTORED (R181): A LOST modulator input recovers. -/
  | modRestored (d : Fin 256)
  /-- LOG_FLUSH_TIMEOUT (R188): A log block whose first output has waited FLUSH ms is closed. -/
  | logFlushTimeout (n : Fin 320)
  /-- LOG_BLOCK_DELIVERY (R194): A spool block is moved to the log ring when the ring has a free slot. -/
  | logBlockDelivery (r : Fin 128)
  /-- GAP_CLOSE (R189): A gap closes when no cause holds and its gap record is written. -/
  | gapClose (n : Fin 320)
  /-- RECORD_RING_DELIVERY (R158): A pricking-entry copy is written to the record ring after all DRAM writes of the record complete. -/
  | recordRingDelivery (t : Fin 16)
  /-- MSIX_COAL_TIMEOUT (R158): The oldest unsignalled entry reaches COAL_TIME and the queue's message is sent. -/
  | msixCoalTimeout (q : Fin 512)
  /-- EVENT_DELIVERY (R348): A held event entry is written to its event queue when the queue has room. -/
  | eventDelivery
  /-- ACC_FOLD (R201): A record is folded into its accumulation after the two-stitch hold-back. -/
  | accFold (t : Fin 16) (unc : List Nat)
  /-- GEN_FRAME (R238): A generator outputs one 32-sample frame, applying pass boundaries, stops and waits on the grid. -/
  | genFrame (g : Fin 8) (unc : Bool)
  /-- UNDERRUN_END (R254): Output from staging resumes and the under-run ends. -/
  | underrunEnd (g : Fin 8)
  /-- STAGING_FEED (R252): The feeder moves a stimulus-ring entry into staging when staging has room for all its bytes. -/
  | stagingFeed (g : Fin 8) (ws : List (BitVec 64)) (data : List (BitVec 8))
  /-- GUARD_TRIP (R262): A guard input reaches its TRIP_LEVEL, the sequencer stops advancing and the ramp begins. -/
  | guardTrip (g : Fin 8)
  /-- GUARD_ZERO (R262): The guard ramp reaches 0 and the generator enters TRIPPED. -/
  | guardZero (g : Fin 8)
  /-- HK_CONVERSION_END (R272): A housekeeping conversion ends and its step result, limit and VCHK check are processed. -/
  | hkConversionEnd (c : Fin 2) (raw : BitVec 16)
  /-- SELFTEST_DONE (R286): A housekeeping self-test completes with pass or failure bits. -/
  | selftestDone (c : Fin 2)
  /-- CC_SELFTEST_DONE (R451): The check-converter self-test of a tile completes after 64 check samples. -/
  | ccSelftestDone (tile : Fin 4)
  /-- SUPPLY_WARNING (R455): A rail below its warning level for 2 µs asserts its warning and starts the supply watch. -/
  | supplyWarning (rail : Rail)
  /-- SUPPLY_EVENT (R456): A warning clears without reset and the supply event is reported and counted. -/
  | supplyEvent (rail : Rail)
  /-- SUPPLY_RESET (R455): A rail below its reset level for 5 µs causes POR or PIN with cause SUPPLY. -/
  | supplyReset (rail : Rail)
  /-- MEM_ACCESS (R296): A memory controller issues one 64-byte line access by class and age. -/
  | memAccess (mc : Fin 16) (rd : Nat) (ecc : MemEcc)
  /-- REFRESH_DUE (R300): A refresh falls due and is issued, postponed or forced. -/
  | refreshDue (mc : Fin 16) (rank : Fin 4)
  /-- REFRESH_CATCH_UP (R301): A rank idle for 100 ns makes up its refresh backlog in a burst. -/
  | refreshCatchUp (mc : Fin 16) (rank : Fin 4)
  /-- REFRESH_RATE_POLL (R299): Every 16 ms the controller reads the components' refresh-rate indication. -/
  | refreshRatePoll (ask : BitVec 16)
  /-- ACT_TABLE_CLEAR (R302): All activate-counting tables are cleared every refresh window. -/
  | actTableClear
  /-- DRAM_SCRUB_STEP (R310): A DRAM scrub step of 64 lines falls due at the scrub rate. -/
  | dramScrubStep (mc : Fin 16)
  /-- MIG_DONE (R312): A rank migration completes and the rank is RETIRED. -/
  | migDone (mc : Fin 16)
  /-- SELF_REFRESH_IDLE (R317): A channel idle for IDLE_US µs enters self-refresh. -/
  | selfRefreshIdle (mc : Fin 16)
  /-- MEM_VERIFY_DONE (R307): A MEM_VERIFY run completes and memory becomes AVAILABLE when all channels pass. -/
  | memVerifyDone (pass : BitVec 16) (maps : List (Fin 16 × BitVec 32))
  /-- DOORBELL_WRITE (R331): A write to HIF_DB(q) moves the driver's pointer of a queue or is ignored as invalid. -/
  | doorbellWrite (q : Fin 512) (v : BitVec 32)
  /-- COMMAND_FETCH (R341): The device fetches and checks an entry of a driver-produced queue once a completion slot is reserved. -/
  | commandFetch (q : Fin 512) (ws : List (BitVec 64)) (data : List (BitVec 64)) (ecc : List SramEcc)
  /-- SEQUENCE_REREAD (R334): An entry with a mismatched SEQUENCE is read again 1 µs later, up to four times. -/
  | sequenceReread (q : Fin 512) (ws : List (BitVec 64)) (data : List (BitVec 64))
  /-- ADMIN_EN_WRITE (R500): Setting HIF_CTL.ADMIN_EN latches the admin queue bases and sizes or is ignored for an invalid size. -/
  | adminEnWrite (val : BitVec 32)
  /-- RWH_WRITE (R386): A write to an RWH field is applied and marks its region DIRTY, or is refused and logged. -/
  | rwhWrite (addr : BitVec 32) (val : BitVec 32)
  /-- TAB_STAGE_WRITE (R50): A write of TIL_TAB_DATA2 with SRC 1 stores one staged table entry with its check. -/
  | tabStageWrite (val : BitVec 32)
  /-- SHADOW_LATCH_READ (R8): Reading a _LO register latches the matching _HI into a shadow. -/
  | shadowLatchRead (sp : Space) (off : BitVec 32)
  /-- READ_CLEAR (R7): Reading an RC field returns its value and clears it. -/
  | readClear (sp : Space) (off : BitVec 32)
  /-- REGISTER_WRITE (R7): A write to a register without a row of its own follows its access code. -/
  | registerWrite (sp : Space) (off : BitVec 32) (val : BitVec 32) (be : BitVec 4)
  /-- SMBUS_READ (R490): A management-interface block read returns a 32-bit register. -/
  | smbusRead (off : BitVec 32)
  /-- PF0_POWER_STATE (R324): PF0 moves between D0 and D3hot, holding or releasing host writes. -/
  | pf0PowerState (d3 : Bool)
  /-- PCIE_LINK_DOWN (R324): The PCI Express link goes down and device-produced paths hold their content. -/
  | pcieLinkDown
  /-- PCIE_LINK_UP (R322): The link trains and held entries are written in queue order. -/
  | pcieLinkUp (speed : Fin 3) (width : Fin 3)
  /-- PCIE_COMPLETION_ERROR (R373): A completion with UR or CA status or a poisoned TLP arrives and DMA halts. -/
  | pcieCompletionError (req : BusReq) (poisoned : Bool) (addr : BitVec 64)
  /-- PCIE_COMPLETION_TIMEOUT (R373): A host request's completion times out, halting DMA or stalling the queue. -/
  | pcieCompletionTimeout (req : BusReq) (addr : BitVec 64)
  /-- DMA_DOORBELL_WRITE (R356): A write to DMA_DB(k) moves the tail of a descriptor ring. -/
  | dmaDoorbellWrite (k : Fin 32) (v : BitVec 32)
  /-- DMA_DESCRIPTOR_FETCH (R362): A channel fetches and checks its next descriptor. -/
  | dmaDescriptorFetch (k : Fin 32) (ws : List (BitVec 64))
  /-- DMA_TRANSFER_UNIT (R358): An active channel moves one 4 KiB unit of source data through conversion and reshuffle. -/
  | dmaTransferUnit (k : Fin 32) (data : List (BitVec 8)) (unc : List Nat)
  /-- DESC_DONE (R367): A descriptor is complete, the head advances and DESC_DONE is raised. -/
  | descDone (k : Fin 32)
  /-- DMA_PAUSE (R371): Setting DMA_CH_CTL.PAUSE puts the channel in PAUSING. -/
  | dmaPause (k : Fin 32)
  /-- DMA_PAUSED (R371): The last outstanding read returns and the channel enters PAUSED. -/
  | dmaPaused (k : Fin 32)
  /-- DMA_RESUME (R371): Clearing PAUSE resumes the channel from its exact state. -/
  | dmaResume (k : Fin 32)
  /-- HOOP_STRAP_CHANGE (R381): A debounced change of HP_STRAP_N seals, opens or breaks the Hoop. -/
  | hoopStrapChange (high : Bool)
  /-- UNSEAL_LAPSED (R381): 60 s pass after HOOP_UNSEAL without a strap fall and UNSEAL_PEND clears. -/
  | unsealLapsed
  /-- CHANGE_DONE (R387): A commit's flash record is written and its CHANGE entry completes. -/
  | changeDone
  /-- AUDIT_FLUSH (R390): Buffered audit entries are written to flash within 1 s in tagged records. -/
  | auditFlush
  /-- MIRROR_FRAME_RECEIVED (R410): A mirror frame with a matching check arrives in time and is queued for application. -/
  | mirrorFrameReceived (frame : MirrorFrame)
  /-- FRAME_MISSED (R410): A frame of stitch k has not arrived valid by cycle 255 of stitch k+1. -/
  | frameMissed
  /-- TWL_TRAINING_DONE (R403): All lanes align and the Twist link is up, continuing formation, rejoin or retrain. -/
  | twlTrainingDone (p : Partner)
  /-- TWL_TRAINING_TIMEOUT (R405): The link does not train in time and the pair command fails with PAIR_LINK_DOWN. -/
  | twlTrainingTimeout
  /-- POWER_ON_RESET (R463): Power-up or VDD_AON below reset level applies POR and starts at S0. -/
  | powerOnReset
  /-- RESET_N_PIN (R463): RESET_N low for 1 µs applies reset class PIN. -/
  | resetNPin
  /-- PERST (R323): PERST_N or a bus reset applies class PERST as a function restart. -/
  | perst
  /-- FLR_PF0 (R323): A function-level reset of PF0 applies class FLR. -/
  | flrPf0
  /-- FLR_PF1 (R323): A function-level reset of PF1 resets only PF1's configuration and MSI-X table. -/
  | flrPf1
  /-- WATCHDOG_EXPIRY (R464): The firmware watchdog or stage timer expires and applies WDOG. -/
  | watchdogExpiry
  /-- RESET_AFTER_COMPLETION (R354): 10 µs after SOFT_RESET or a Selvedge exit completes, the reset begins. -/
  | resetAfterCompletion
  /-- JTAG_TEST_EXIT (R491): Leaving a pin-driving boundary-scan instruction applies class PIN. -/
  | jtagTestExit
  /-- BOOT_STAGE_COMPLETE (R457): A boot stage completes or fails, and the start moves on, to Basting, full service or Selvedge. -/
  | bootStageComplete (r : BootResult)
  /-- RET_ENTERED (R467): Retention entry completes with memory in self-refresh and ring SRAM off. -/
  | retEntered
  /-- RET_EXITED (R469): Retention exit completes with verification done and full service restored. -/
  | retExited (pass : BitVec 16) (maps : List (Fin 16 × BitVec 32))
  /-- IDENTIFY (R354): Copies the 4 096 bytes of identify data to the host. -/
  | identify (h : HostCmd)
  /-- QUEUE_CREATE (R354): Creates a queue or command queue pair. -/
  | queueCreate (h : HostCmd)
  /-- QUEUE_DELETE (R355): Deletes a queue, discarding unfetched entries. -/
  | queueDelete (h : HostCmd)
  /-- EVENT_ROUTE (R347): Routes event classes to an event queue. -/
  | eventRoute (h : HostCmd)
  /-- DEVICE_STATE (R466): Requests Retention entry, Retention exit or Selvedge exit. -/
  | deviceState (h : HostCmd)
  /-- SOFT_RESET (R354): Completes and schedules reset class SOFT 10 µs later. -/
  | softReset (h : HostCmd)
  /-- FLASH_WRITE (R354): Writes host data to flash region 1 or 2. -/
  | flashWrite (h : HostCmd)
  /-- FLASH_ACTIVATE (R354): Activates the image of region 1 for the next start. -/
  | flashActivate (h : HostCmd)
  /-- NOP (R354): Completes with the stitch number at execution. -/
  | nop (h : HostCmd)
  /-- CH_CONFIG (R39): Configures, enables or disables a channel. -/
  | chConfig (h : HostCmd)
  /-- QUAD_COMBINE (R38): Changes the combining factor of a quad. -/
  | quadCombine (h : HostCmd)
  /-- FG_CAL (R55): Takes a tile offline for foreground calibration, optionally writing the sealed table. -/
  | fgCal (h : HostCmd)
  /-- CAL_RELEASE (R53): Clears the freeze of a channel's slices and zeroes its trims. -/
  | calRelease (h : HostCmd)
  /-- LOOPBACK (R65): Routes a generator output into FC(8n) or restores the input. -/
  | loopback (h : HostCmd)
  /-- SET_MEMBERS (R136): Sets the member mask of a set. -/
  | setMembers (h : HostCmd)
  /-- SET_CONFIG (R164): Sets mode, format, pre- and post-trigger, list and duty of a set. -/
  | setConfig (h : HostCmd)
  /-- SET_BIND (R155): Binds a set to a record area, record ring and pricking range. -/
  | setBind (h : HostCmd)
  /-- SET_ARM (R163): Checks and arms a set at its arm instant. -/
  | setArm (h : HostCmd)
  /-- SET_DISARM (R145): Disarms a set with FINISH or ABORT. -/
  | setDisarm (h : HostCmd)
  /-- SET_REARM (R164): Re-arms a Record-mode set that is DONE with REARM 0. -/
  | setRearm (h : HostCmd)
  /-- TRG_UNIT_SET (R108): Configures a trigger unit or changes only its levels. -/
  | trgUnitSet (h : HostCmd)
  /-- TRG_PROGRAM (R113): Sets the trigger program of a set. -/
  | trgProgram (h : HostCmd)
  /-- TRG_PATTERN (R114): Sets eight pattern terms and the operator of a set. -/
  | trgPattern (h : HostCmd)
  /-- TRG_IO (R128): Configures a marker or trigger-bus line. -/
  | trgIo (h : HostCmd)
  /-- TRG_QSEG (R130): Selects the units of a quad segment. -/
  | trgQseg (h : HostCmd)
  /-- TRG_TIMER (R132): Starts, restarts or disables a timer. -/
  | trgTimer (h : HostCmd)
  /-- TRG_OUT (R126): Sets the TRIG_OUT width and enable of a set. -/
  | trgOut (h : HostCmd)
  /-- TRG_SOFT (R133): Forces an accepted trigger or raises the set's software event. -/
  | trgSoft (h : HostCmd)
  /-- PRK_EXPORT (R168): Copies pricking entries of a set's range to the host. -/
  | prkExport (h : HostCmd)
  /-- BASTE_READ (R166): Copies a Basting record from the on-chip store to the host. -/
  | basteRead (h : HostCmd)
  /-- LOG_RING_SET (R196): Configures a log ring and binds its spool area. -/
  | logRingSet (h : HostCmd)
  /-- LOG_STREAM_CFG (R196): Configures a log stream's kind, format, ring and ratio. -/
  | logStreamCfg (h : HostCmd)
  /-- LOG_START (R197): Checks and starts a log stream at its stitch of application. -/
  | logStart (h : HostCmd)
  /-- LOG_STOP (R191): Ends a log stream with an END gap record. -/
  | logStop (h : HostCmd)
  /-- LOG_MG_SET (R177): Configures a modulator group's clock, edge and Manchester decoding. -/
  | logMgSet (h : HostCmd)
  /-- LOG_MD_SET (R183): Configures a modulator input's filters and comparator. -/
  | logMdSet (h : HostCmd)
  /-- LOG_FLUSH (R188): Closes the open blocks of a log ring. -/
  | logFlush (h : HostCmd)
  /-- ACC_CONFIG (R206): Sets the accumulation kind and target of a set. -/
  | accConfig (h : HostCmd)
  /-- ACC_BIND (R210): Binds SRAM banks or a DRAM area to a set's accumulation. -/
  | accBind (h : HostCmd)
  /-- ACC_READ (R220): Copies accumulation units to the host behind a header. -/
  | accRead (h : HostCmd)
  /-- ACC_CLEAR (R219): Clears an accumulation and makes it EMPTY. -/
  | accClear (h : HostCmd)
  /-- MEAS_SLOT (R227): Configures a measurement slot of a channel. -/
  | measSlot (h : HostCmd)
  /-- MEAS_BIND (R229): Binds measurement lines and a host mirror to a set. -/
  | measBind (h : HostCmd)
  /-- MEAS_EXPORT (R233): Copies measurement lines of a set to the host. -/
  | measExport (h : HostCmd)
  /-- MEAS_STATS (R232): Copies statistics records to the host, optionally clearing them. -/
  | measStats (h : HostCmd)
  /-- GEN_CONFIG (R266): Sets park value, policy, guards enable, trigger source and staging area of a generator. -/
  | genConfig (h : HostCmd)
  /-- GEN_SEG_WRITE (R240): Loads segment-table entries from host memory. -/
  | genSegWrite (h : HostCmd)
  /-- GEN_SEQ_WRITE (R244): Loads sequencer entries from host memory. -/
  | genSeqWrite (h : HostCmd)
  /-- GEN_ARM (R256): Checks and arms a generator, clearing staging. -/
  | genArm (h : HostCmd)
  /-- GEN_START (R257): Starts a mask of armed generators at a stitch or SYNC pulse. -/
  | genStart (h : HostCmd)
  /-- GEN_STOP (R258): Stops a generator at once or at the end of the entry. -/
  | genStop (h : HostCmd)
  /-- GEN_JUMP (R247): Requests a jump to a sequencer entry. -/
  | genJump (h : HostCmd)
  /-- GEN_NCO_SET (R267): Writes the NCO parameters of a segment. -/
  | genNcoSet (h : HostCmd)
  /-- GEN_SKEW (R259): Sets the integer and fractional output delay of a generator. -/
  | genSkew (h : HostCmd)
  /-- GEN_GUARD (R261): Configures the eight guards and ramp of a generator. -/
  | genGuard (h : HostCmd)
  /-- GEN_GUARD_RESET (R263): Moves a TRIPPED generator to IDLE. -/
  | genGuardReset (h : HostCmd)
  /-- GEN_SR_BIND (R264): Binds generators and a reference generator to a stimulus-response set. -/
  | genSrBind (h : HostCmd)
  /-- GEN_TRIG (R246): Registers a software trigger for a running generator. -/
  | genTrig (h : HostCmd)
  /-- TB_SOURCE (R79): Changes the sealed time-base configuration and starts qualification. -/
  | tbSource (h : HostCmd)
  /-- TB_RATE (R73): Changes the slice clock through a planned relock. -/
  | tbRate (h : HostCmd)
  /-- TB_TOD (R89): Schedules a DTIME load at the next compensated PPSIN edge. -/
  | tbTod (h : HostCmd)
  /-- TB_SPREAD (R74): Sets spread spectrum of CPLL and MPLL for their next lock. -/
  | tbSpread (h : HostCmd)
  /-- TB_OUTPUTS (R499): Enables PPSOUT and REFOUT. -/
  | tbOutputs (h : HostCmd)
  /-- TB_SYNC (R90): Schedules a SYNCOUT pulse at a stitch. -/
  | tbSync (h : HostCmd)
  /-- AREA_CREATE (R314): Carves a DRAM area. -/
  | areaCreate (h : HostCmd)
  /-- AREA_DESTROY (R315): Removes a DRAM area. -/
  | areaDestroy (h : HostCmd)
  /-- AREA_CLEAR (R315): Writes zeros to an area and clears INVALID and its poison count. -/
  | areaClear (h : HostCmd)
  /-- MEM_SCRUB (R310): Sets the scrub period or starts a fast scrub pass. -/
  | memScrub (h : HostCmd)
  /-- MEM_MIGRATE (R311): Requests migration of a rank to the spare. -/
  | memMigrate (h : HostCmd)
  /-- MEM_PASR_SET (R319): Sets the segments kept in Retention. -/
  | memPasrSet (h : HostCmd)
  /-- MEM_SR_SET (R317): Sets the idle self-refresh interval. -/
  | memSrSet (h : HostCmd)
  /-- MEM_AGE_SET (R296): Sets the age limits of classes C2–C5. -/
  | memAgeSet (h : HostCmd)
  /-- MEM_VERIFY (R320): Initialises and verifies named memory channels. -/
  | memVerify (h : HostCmd)
  /-- PAIR_FORM (R405): Forms a redundant pair with the partner. -/
  | pairForm (h : HostCmd)
  /-- PAIR_DISSOLVE (R429): Dissolves the pair, both devices becoming UNPAIRED. -/
  | pairDissolve (h : HostCmd)
  /-- PAIR_ROLE_SWAP (R424): Schedules an exchange of roles at stitch S. -/
  | pairRoleSwap (h : HostCmd)
  /-- PAIR_REJOIN (R426): Rejoins a PASSIVE or UNPAIRED partner. -/
  | pairRejoin (h : HostCmd)
  /-- PAIR_TWIN_CHECK (R427): Compares the record maps of both devices over a DTIME range. -/
  | pairTwinCheck (h : HostCmd)
  /-- PAIR_RETRAIN (R425): Requests a Twist-link retrain. -/
  | pairRetrain (h : HostCmd)
  /-- PAIR_CONFIG (R429): Sets the pair configuration of TWL_CFG. -/
  | pairConfig (h : HostCmd)
  /-- HOOP_UNSEAL (R381): Opens the Hoop at once or sets UNSEAL_PEND. -/
  | hoopUnseal (h : HostCmd)
  /-- HOOP_SEAL (R381): Commits dirty regions and seals the Hoop. -/
  | hoopSeal (h : HostCmd)
  /-- HOOP_COMMIT (R387): Commits the regions of its mask. -/
  | hoopCommit (h : HostCmd)
  /-- HOOP_LOG_EXPORT (R399): Copies audit entries to the host behind a header. -/
  | hoopLogExport (h : HostCmd)
  /-- HOOP_LOG_ACK (R399): Releases exported audit entries and burns a fuse step. -/
  | hoopLogAck (h : HostCmd)
  /-- HOOP_FW_LOAD (R389): Loads a signed Hoop firmware image into region 7. -/
  | hoopFwLoad (h : HostCmd)
  /-- HOOP_DISCARD (R50): Reverts dirty regions and reloads the table staging copy. -/
  | hoopDiscard (h : HostCmd)
  /-- HOOP_NOTE (R398): Appends a NOTE entry to the audit log. -/
  | hoopNote (h : HostCmd)
  /-- DMA_BIND (R376): Binds a DMA channel to a descriptor ring. -/
  | dmaBind (h : HostCmd)
  /-- DMA_UNBIND (R376): Unbinds a DMA channel. -/
  | dmaUnbind (h : HostCmd)
  /-- DMA_RECOVER (R374): Clears a DMA halt, resuming or abandoning descriptors. -/
  | dmaRecover (h : HostCmd)
  /-- HK_SEQ (R274): Loads a housekeeping sequence for the next pass. -/
  | hkSeq (h : HostCmd)
  /-- HK_CONVERT (R280): Requests an urgent conversion of a source. -/
  | hkConvert (h : HostCmd)
  /-- HK_SNAPSHOT (R279): Copies the latest step and VCHK values to the host. -/
  | hkSnapshot (h : HostCmd)
  /-- HK_SELFTEST (R286): Requests a housekeeping self-test. -/
  | hkSelftest (h : HostCmd)
  /-- FLT_CONFIG (R434): Configures a fault source. -/
  | fltConfig (h : HostCmd)
  /-- FLT_CLEAR (R450): Clears fault sources and releases degrade effects. -/
  | fltClear (h : HostCmd)
  /-- FLT_INJECT (R450): Injects counts into a fault source. -/
  | fltInject (h : HostCmd)
  /-- FLT_HISTORY (R450): Copies the fault history to the host. -/
  | fltHistory (h : HostCmd)
  /-- MAINT_CFG (R450): Sets DEFER_LIMIT and the SRAM scrub rate. -/
  | maintCfg (h : HostCmd)
  /-- CC_SELFTEST (R451): Requests a check-converter self-test of a tile. -/
  | ccSelftest (h : HostCmd)
  /-- SRAM_SCRUB (R450): Requests one SRAM scrub pass. -/
  | sramScrub (h : HostCmd)
  /-- MAINT_CANCEL (R450): Removes a deferred maintenance request. -/
  | maintCancel (h : HostCmd)
  /-- MCLK_EDGE (R178): At each MCLKg edge every input of the group delivers one bit, which is decoded and fed to its sinc filter, comparator filter and stuck-bit count.
`e` numbers the edge; `lead` and `trail` hold the inputs' levels at the rising and at the falling edge of MCLK, which are those of
the first and of the second half of a Manchester bit. -/
  | mclkEdge (g : Fin 16) (e : Nat) (lead : BitVec 16) (trail : BitVec 16)
  /-- TWL_INVALID_SYNC_HEADER (R403): A Twist-link receive lane takes a block with an invalid sync header, which counts in TWL_LANE_ERR and, per 256, in fault source 46. -/
  | twlInvalidSyncHeader (lane : Fin 4)
  /-- PCIE_CORRECTABLE_ERROR (R431): PF0 detects and reports a correctable PCI Express error, which counts in fault source 43. -/
  | pcieCorrectableError
  /-- RESET_N_RELEASE (R455): RESET_N rises, and stage S0 of the start begins once the internal power-on reset is also released. -/
  | resetNRelease
  /-- TPLL_LOCKED (R82): After qualification and pull-in, TPLL reaches LOCKED and TB_COAST stops marking blocks. -/
  | tpllLocked
  deriving DecidableEq, Repr

end Sys2Proof
end

