-- ==== Sys2Proof/Decode.lean ====
section
/-! DEFINITION. The commands of the block have no words of their own: no row of the opcode table gives bits.  A command
entry's fields are read where it is fetched (Machine/Fetch.lean). -/
namespace Sys2Proof

/-- No row of the table gives bits, so no word spells a command. -/
def decodeTableWord (_nbits _w : Nat) : Option Instr := none

end Sys2Proof
end

