-- ==== Sys2Proof/Machine/Digest.lean ====
section
/-! DEFINITION. The checks and digests the spec names: CRC-16 of a table entry (R47), CRC-32C (R153), SHA-256 (R393). -/
namespace Sys2Proof.Machine
open Sys2Proof

/-- One byte of the CRC-16 with polynomial 0x1021, not reflected. -/
def crc16Byte (crc : Nat) (b : BitVec 8) : Nat :=
  (List.range 8).foldl (fun c _ => if bit c 15 then ((c <<< 1) ^^^ 0x1021) % 65536 else (c <<< 1) % 65536)
    (crc ^^^ (b.toNat <<< 8))

/-- CRC-16, initial value 0xFFFF, no final XOR (R47). -/
def crc16 (l : List (BitVec 8)) : Nat := l.foldl crc16Byte 0xFFFF

/-- One byte of CRC-32C (polynomial 0x1EDC6F41 reflected). -/
def crc32cByte (crc : Nat) (b : BitVec 8) : Nat :=
  (List.range 8).foldl (fun c _ => if bit c 0 then (c >>> 1) ^^^ 0x82F63B78 else c >>> 1) (crc ^^^ b.toNat)

/-- CRC-32C over bytes. -/
def crc32c (l : List (BitVec 8)) : Nat := (l.foldl crc32cByte 0xFFFFFFFF) ^^^ 0xFFFFFFFF

/-- The primes up to 311: the sixty-four from which SHA-256 takes its constants. -/
def shaPrimes : List Nat := (List.range 312).filter fun p => decide (2 ≤ p) && (List.range p).all fun d => decide (d < 2) || p % d != 0

/-- The first 32 fraction bits of the `k`-th root of `p`: the root of `p` scaled up is found bit by bit. -/
def rootFrac (k p : Nat) : Nat :=
  (List.range 40).foldr (fun b r => r + if (r + 2 ^ b) ^ k ≤ p * 2 ^ (32 * k) then 2 ^ b else 0) 0 % 2 ^ 32

/-- The constants of the rounds and the value a digest starts from: fractions of cube roots and square roots. -/
def shaK : List Nat := shaPrimes.map (rootFrac 3)
def shaInit : List Nat := (shaPrimes.take 8).map (rootFrac 2)

/-- Rotate a 32-bit word right. -/
def rotr (x n : Nat) : Nat := (x >>> n) ||| ((x <<< (32 - n)) % 2 ^ 32)

/-- The message schedule: sixteen words extended to sixty-four, newest first. -/
def shaSchedule (w : List Nat) : List Nat :=
  ((List.range 48).foldl (fun (acc : List Nat) _ =>
    let a := acc.getD 14 0
    let b := acc.getD 1 0
    let s0 := rotr a 7 ^^^ rotr a 18 ^^^ (a >>> 3)
    let s1 := rotr b 17 ^^^ rotr b 19 ^^^ (b >>> 10)
    (acc.getD 15 0 + s0 + acc.getD 6 0 + s1) % 2 ^ 32 :: acc) w.reverse).reverse

/-- One round of the compression on the eight working words. -/
def shaRound (v : List Nat) (kw : Nat) : List Nat :=
  match v with
  | [a, b, c, d, e, f, g, h] =>
    let s1 := rotr e 6 ^^^ rotr e 11 ^^^ rotr e 25
    let ch := (e &&& f) ^^^ ((0xFFFFFFFF ^^^ e) &&& g)
    let t1 := h + s1 + ch + kw
    let s0 := rotr a 2 ^^^ rotr a 13 ^^^ rotr a 22
    let mj := (a &&& b) ^^^ (a &&& c) ^^^ (b &&& c)
    [(t1 + s0 + mj) % 2 ^ 32, a, b, c, (d + t1) % 2 ^ 32, e, f, g]
  | _ => v

def zipAdd : List Nat → List Nat → List Nat
  | a :: as, b :: bs => (a + b) % 2 ^ 32 :: zipAdd as bs
  | _, _ => []

/-- Compress one 64-byte block. -/
def shaBlock (h : List Nat) (blk : List (BitVec 8)) : List Nat :=
  let w := (List.range 16).map fun i => ofBytes ((blk.drop (4 * i)).take 4).reverse
  zipAdd h ((zipAdd shaK (shaSchedule w)).foldl shaRound h)

/-- Split into blocks of 64 bytes. -/
def blocks64 : Nat → List (BitVec 8) → List (List (BitVec 8))
  | 0, _ => []
  | n + 1, l => l.take 64 :: blocks64 n (l.drop 64)

/-- SHA-256 as eight 32-bit words. -/
def sha256 (msg : List (BitVec 8)) : List Nat :=
  let n := msg.length
  let pad := (119 - n % 64) % 64
  let full := msg ++ [0x80#8] ++ List.replicate pad 0#8 ++ (toBytes 8 (8 * n)).reverse
  (blocks64 (full.length / 64) full).foldl shaBlock shaInit

/-- The first 64 bits of SHA-256, most significant byte first (R393). -/
def digest64 (msg : List (BitVec 8)) : Nat :=
  match sha256 msg with
  | a :: b :: _ => a <<< 32 + b
  | _ => 0

end Sys2Proof.Machine
end

