-- ==== Sys2Proof/Config.lean ====
section
/-! DEFINITION. Config: the values the spec leaves open.  Each is an opaque constant, so nothing can be proved of
its value; a step takes a fresh one by applying it to a counter of the state (assumption 1). -/
namespace Sys2Proof.Config

/-- The free value number `n`, as a plain number; a step that needs a value the spec does not state reads it at
the state's counter and advances the counter. -/
opaque freeNat : Nat → Nat

/-- A free value that depends on its operands: the number names what is open (1 whether the bytes of a Hoop image carry a valid
signature, 2 the version in them, 3 the size of a flash region, 4 the device's sine within its error, 5 whether the image of
flash region 1 passes its check, 6 the version in it). -/
opaque freeFn : Nat → List Int → Int

/-- The taps of the device's fixed filters: 0 a half-band stage, 1 to 6 the bandwidth limit of that code (R498). -/
opaque taps : Nat → List Int

/-- The last 24 of the 48 symmetric taps of the FILTERED log kind, by the decimation of the CIC stage before them (R175). -/
opaque logTaps : Nat → List Int

end Sys2Proof.Config
end

