-- ==== Sys2Proof/Machine/Operands.lean ====
section
/-! DEFINITION. The operand forms of a command entry: payload fields by word and bit (Table 11.5), the target, and
the host data a command reads or writes. -/
namespace Sys2Proof

/-- A payload word by its number. -/
def HostCmd.word (h : HostCmd) : Nat → Nat
  | 1 => h.w1.toNat | 2 => h.w2.toNat | 3 => h.w3.toNat | 4 => h.w4.toNat
  | 5 => h.w5.toNat | 6 => h.w6.toNat | 7 => h.w7.toNat | _ => 0

def HostCmd.f (h : HostCmd) (w lsb width : Nat) : Nat := bits (h.word w) lsb width
def HostCmd.b (h : HostCmd) (w lsb : Nat) : Bool := bit (h.word w) lsb
def HostCmd.tgt (h : HostCmd) : Nat := h.target.toNat

/-- Word `i` of the host data a command reads; unread memory counts as 0. -/
def HostCmd.dat (h : HostCmd) (i : Nat) : Nat := (h.data.getD i 0).toNat

/-- The first `n` bytes of the host data. -/
def HostCmd.bytes (h : HostCmd) (n : Nat) : List (BitVec 8) :=
  ((List.range (ceilDiv n 8)).flatMap fun i => toBytes 8 (h.dat i)).take n

/-- Whose data a write to host memory carries, and so which entry may not go before it (R337, R367). -/
inductive DataFor where
  | nobody
  /-- data that a command of a submission queue asked for, by its queue and tag: its completion reports them -/
  | cmd (q tag : Nat)
  /-- data of a DMA channel: its events report them -/
  | dma (k : Nat)
  deriving DecidableEq, Repr

/-- The data a command asked for, as its completion reports them. -/
def HostCmd.owner (h : HostCmd) : DataFor := .cmd h.q.val h.tag.toNat

end Sys2Proof
end

