-- ==== Sys2Proof/Machine/Field.lean ====
section
/-! DEFINITION. A register field as the spec's register tables give it: where it stands, its access code
(Table 0.3), its reset value and the reset classes that load it. -/
namespace Sys2Proof.Machine
open Sys2Proof

/-- The access codes of Table 0.3 (R7). -/
inductive Acc where
  | ro | rw | rwh | w1c | w1s | wo | rl | rc
  deriving DecidableEq, Repr

/-- A field of a register.  `dims` are the (stride, count) pairs of its indices, outermost first; `by_` is the set of
reset classes that load `rst`: POR 1, PIN 2, PERST 4, FLR 8, SOFT 16, WDOG 32. -/
structure Fld where
  base : Nat
  dims : List (Nat × Nat)
  lsb : Nat
  width : Nat
  acc : Acc
  by_ : Nat
  rst : List Nat → Nat := fun _ => 0

/-- A register: its name, place and fields. -/
structure Reg where
  name : String
  base : Nat
  dims : List (Nat × Nat)
  flds : List Fld

/-- The offset an index list adds to a register's base. -/
def dimOffset : List (Nat × Nat) → List Nat → Nat
  | (s, _) :: ds, i :: is => s * i + dimOffset ds is
  | _, _ => 0

/-- The index list an offset stands for, where it stands for one. -/
def dimIndex : List (Nat × Nat) → Nat → Option (List Nat)
  | [], off => if off = 0 then some [] else none
  | (s, n) :: ds, off =>
    if off / s < n then (dimIndex ds (off % s)).map (off / s :: ·) else none

/-- The key under which the register file keeps a field. -/
def Fld.key (F : Fld) (ix : List Nat) : Nat := (F.base + dimOffset F.dims ix) * 32 + F.lsb

end Sys2Proof.Machine
end

