-- ==== Sys2Proof/Machine/RegsA.lean ====
section
/-! DEFINITION. The register fields of the sampler tiles (TIL), time base (TBS) and trigger engine (TRG) blocks,
as their register tables give them. -/
namespace Sys2Proof.Machine

def TIL_CH_CFG_ENABLE : Fld := { base := 0x200000, dims := [(64, 64)], lsb := 0, width := 1, acc := .ro, by_ := 63 }
def TIL_CH_CFG_BWL : Fld := { base := 0x200000, dims := [(64, 64)], lsb := 1, width := 3, acc := .ro, by_ := 63 }
def TIL_CH_CFG_DEC_LOG2 : Fld := { base := 0x200000, dims := [(64, 64)], lsb := 4, width := 4, acc := .ro, by_ := 63 }
def TIL_CH_CFG_EST_EN : Fld := { base := 0x200000, dims := [(64, 64)], lsb := 8, width := 1, acc := .ro, by_ := 63, rst := fun _ => 1 }
def TIL_CH_CFG_OVR_EVT : Fld := { base := 0x200000, dims := [(64, 64)], lsb := 9, width := 1, acc := .ro, by_ := 63 }
def TIL_CH_STAT_STATE : Fld := { base := 0x200004, dims := [(64, 64)], lsb := 0, width := 2, acc := .ro, by_ := 63 }
def TIL_CH_STAT_FROZEN : Fld := { base := 0x200004, dims := [(64, 64)], lsb := 2, width := 4, acc := .ro, by_ := 35 }
def TIL_CH_STAT_CHK_LASTING : Fld := { base := 0x200004, dims := [(64, 64)], lsb := 6, width := 1, acc := .ro, by_ := 63 }
def TIL_CH_STAT_FG_ACTIVE : Fld := { base := 0x200004, dims := [(64, 64)], lsb := 7, width := 1, acc := .ro, by_ := 63 }
def TIL_CH_STAT_LOOPBACK : Fld := { base := 0x200004, dims := [(64, 64)], lsb := 8, width := 1, acc := .ro, by_ := 63 }
def TIL_CH_STAT_TEMP_CLAMP : Fld := { base := 0x200004, dims := [(64, 64)], lsb := 9, width := 1, acc := .ro, by_ := 63 }
def TIL_CH_OVR_CNT_OVR_BLOCKS : Fld := { base := 0x200008, dims := [(64, 64)], lsb := 0, width := 32, acc := .rc, by_ := 63 }
def TIL_CHK_CNT_MISMATCH : Fld := { base := 0x20000C, dims := [(64, 64)], lsb := 0, width := 16, acc := .rc, by_ := 63 }
def TIL_CHK_CNT_SKIP : Fld := { base := 0x20000C, dims := [(64, 64)], lsb := 16, width := 16, acc := .rc, by_ := 63 }
def TIL_CHK_ALIGN_ALIGN : Fld := { base := 0x200010, dims := [(64, 64)], lsb := 0, width := 14, acc := .rwh, by_ := 3 }
def TIL_EST_CNT_UPDATES : Fld := { base := 0x200014, dims := [(64, 64)], lsb := 0, width := 16, acc := .rc, by_ := 63 }
def TIL_EST_CNT_SKIPS : Fld := { base := 0x200014, dims := [(64, 64)], lsb := 16, width := 16, acc := .rc, by_ := 63 }
def TIL_SLICE_BAND_A_OFF_BAND : Fld := { base := 0x201000, dims := [(16, 256)], lsb := 0, width := 16, acc := .rwh, by_ := 3 }
def TIL_SLICE_BAND_A_GAIN_BAND : Fld := { base := 0x201000, dims := [(16, 256)], lsb := 16, width := 16, acc := .rwh, by_ := 3 }
def TIL_SLICE_BAND_B_DLY_BAND : Fld := { base := 0x201004, dims := [(16, 256)], lsb := 0, width := 16, acc := .rwh, by_ := 3 }
def TIL_SLICE_BAND_B_BW_BAND : Fld := { base := 0x201004, dims := [(16, 256)], lsb := 16, width := 16, acc := .rwh, by_ := 3 }
def TIL_QUAD_CFG_FACTOR : Fld := { base := 0x202000, dims := [(64, 16)], lsb := 0, width := 2, acc := .ro, by_ := 63 }
def TIL_QUAD_CFG_PENDING : Fld := { base := 0x202000, dims := [(64, 16)], lsb := 2, width := 1, acc := .ro, by_ := 63 }
def TIL_TILE_STAT_TEMP : Fld := { base := 0x203000, dims := [(64, 4)], lsb := 0, width := 16, acc := .ro, by_ := 63 }
def TIL_TILE_STAT_POINT : Fld := { base := 0x203000, dims := [(64, 4)], lsb := 16, width := 5, acc := .ro, by_ := 63 }
def TIL_TILE_STAT_WEIGHT : Fld := { base := 0x203000, dims := [(64, 4)], lsb := 21, width := 8, acc := .ro, by_ := 63 }
def TIL_TILE_STAT_FG_ACTIVE : Fld := { base := 0x203000, dims := [(64, 4)], lsb := 29, width := 1, acc := .ro, by_ := 63 }
def TIL_TEMP_GRID_BASE : Fld := { base := 0x203004, dims := [(64, 4)], lsb := 0, width := 16, acc := .rwh, by_ := 3, rst := fun _ => 65152 }
def TIL_TEMP_GRID_STEP : Fld := { base := 0x203004, dims := [(64, 4)], lsb := 16, width := 16, acc := .rwh, by_ := 3, rst := fun _ => 68 }
def TIL_CHK_TOL_TOL_PCT : Fld := { base := 0x204000, dims := [], lsb := 0, width := 16, acc := .rwh, by_ := 3, rst := fun _ => 50 }
def TIL_CHK_TOL_TOL_LSB : Fld := { base := 0x204000, dims := [], lsb := 16, width := 16, acc := .rwh, by_ := 3, rst := fun _ => 8 }
def TIL_CHK_WIN_CHK_WIN : Fld := { base := 0x204004, dims := [], lsb := 0, width := 16, acc := .rwh, by_ := 3, rst := fun _ => 2000 }
def TIL_CHK_WIN_CHK_THR : Fld := { base := 0x204004, dims := [], lsb := 16, width := 16, acc := .rwh, by_ := 3, rst := fun _ => 100 }
def TIL_TAB_ADDR_INDEX : Fld := { base := 0x204008, dims := [], lsb := 0, width := 13, acc := .rw, by_ := 63 }
def TIL_TAB_ADDR_SRC : Fld := { base := 0x204008, dims := [], lsb := 16, width := 2, acc := .rw, by_ := 63 }
def TIL_TAB_ADDR_AUTOINC : Fld := { base := 0x204008, dims := [], lsb := 18, width := 1, acc := .rw, by_ := 63 }
def TIL_TAB_DATA0_OFFSET : Fld := { base := 0x20400C, dims := [], lsb := 0, width := 16, acc := .rw, by_ := 3 }
def TIL_TAB_DATA0_GAIN : Fld := { base := 0x20400C, dims := [], lsb := 16, width := 16, acc := .rw, by_ := 3 }
def TIL_TAB_DATA1_DELAY : Fld := { base := 0x204010, dims := [], lsb := 0, width := 16, acc := .rw, by_ := 3 }
def TIL_TAB_DATA1_BW_M : Fld := { base := 0x204010, dims := [], lsb := 16, width := 16, acc := .rw, by_ := 3 }
def TIL_TAB_DATA2_BW_P : Fld := { base := 0x204014, dims := [], lsb := 0, width := 16, acc := .rw, by_ := 3 }
def TIL_TAB_DATA2_CHECK : Fld := { base := 0x204014, dims := [], lsb := 16, width := 16, acc := .ro, by_ := 3 }
def TBS_CFG_SRC : Fld := { base := 0x400000, dims := [], lsb := 0, width := 2, acc := .rwh, by_ := 3 }
def TBS_CFG_REALIGN : Fld := { base := 0x400000, dims := [], lsb := 2, width := 2, acc := .rwh, by_ := 3 }
def TBS_CFG_QUAL : Fld := { base := 0x400000, dims := [], lsb := 4, width := 4, acc := .rwh, by_ := 3, rst := fun _ => 4 }
def TBS_CFG_TPLL_BW : Fld := { base := 0x400000, dims := [], lsb := 8, width := 3, acc := .rwh, by_ := 3 }
def TBS_CFG_HOLD_AVG : Fld := { base := 0x400000, dims := [], lsb := 11, width := 4, acc := .rwh, by_ := 3, rst := fun _ => 4 }
def TBS_CFG_PBO_THR : Fld := { base := 0x400000, dims := [], lsb := 16, width := 8, acc := .rwh, by_ := 3, rst := fun _ => 2 }
def TBS_REF_FREQ_REF_FREQ : Fld := { base := 0x400004, dims := [], lsb := 0, width := 32, acc := .rwh, by_ := 3 }
def TBS_PPS_DELAY_PPS_DELAY : Fld := { base := 0x400008, dims := [], lsb := 0, width := 32, acc := .rwh, by_ := 3 }
def TBS_SLICE_FREQ_SLICE_KHZ : Fld := { base := 0x40000C, dims := [], lsb := 0, width := 32, acc := .ro, by_ := 35, rst := fun _ => 1250000 }
def TBS_SPREAD_CPLL_MODE : Fld := { base := 0x400010, dims := [], lsb := 0, width := 2, acc := .ro, by_ := 35 }
def TBS_SPREAD_CPLL_DEPTH : Fld := { base := 0x400010, dims := [], lsb := 2, width := 3, acc := .ro, by_ := 35 }
def TBS_SPREAD_CPLL_RATE : Fld := { base := 0x400010, dims := [], lsb := 5, width := 2, acc := .ro, by_ := 35 }
def TBS_SPREAD_MPLL_MODE : Fld := { base := 0x400010, dims := [], lsb := 8, width := 2, acc := .ro, by_ := 35 }
def TBS_SPREAD_MPLL_DEPTH : Fld := { base := 0x400010, dims := [], lsb := 10, width := 3, acc := .ro, by_ := 35 }
def TBS_SPREAD_MPLL_RATE : Fld := { base := 0x400010, dims := [], lsb := 13, width := 2, acc := .ro, by_ := 35 }
def TBS_SPREAD_CPLL_ACTIVE : Fld := { base := 0x400010, dims := [], lsb := 15, width := 1, acc := .ro, by_ := 35 }
def TBS_SPREAD_MPLL_ACTIVE : Fld := { base := 0x400010, dims := [], lsb := 16, width := 1, acc := .ro, by_ := 35 }
def TBS_STATUS_SPLL_ST : Fld := { base := 0x400014, dims := [], lsb := 0, width := 2, acc := .ro, by_ := 3 }
def TBS_STATUS_CPLL_ST : Fld := { base := 0x400014, dims := [], lsb := 2, width := 2, acc := .ro, by_ := 3 }
def TBS_STATUS_MPLL_ST : Fld := { base := 0x400014, dims := [], lsb := 4, width := 2, acc := .ro, by_ := 3 }
def TBS_STATUS_TPLL_ST : Fld := { base := 0x400014, dims := [], lsb := 6, width := 3, acc := .ro, by_ := 3 }
def TBS_STATUS_REF_OK : Fld := { base := 0x400014, dims := [], lsb := 9, width := 1, acc := .ro, by_ := 3 }
def TBS_STATUS_PPS_OK : Fld := { base := 0x400014, dims := [], lsb := 10, width := 1, acc := .ro, by_ := 3 }
def TBS_STATUS_ACQ_FALLBACK : Fld := { base := 0x400014, dims := [], lsb := 11, width := 1, acc := .ro, by_ := 3 }
def TBS_STATUS_SYS_FALLBACK : Fld := { base := 0x400014, dims := [], lsb := 12, width := 1, acc := .ro, by_ := 3 }
def TBS_STATUS_MEM_UNAVAIL : Fld := { base := 0x400014, dims := [], lsb := 13, width := 1, acc := .ro, by_ := 3 }
def TBS_STATUS_TOD_PENDING : Fld := { base := 0x400014, dims := [], lsb := 14, width := 1, acc := .ro, by_ := 3 }
def TBS_PLL_BAND_SPLL_BAND : Fld := { base := 0x400018, dims := [], lsb := 0, width := 6, acc := .ro, by_ := 3 }
def TBS_PLL_BAND_CPLL_BAND : Fld := { base := 0x400018, dims := [], lsb := 8, width := 6, acc := .ro, by_ := 3 }
def TBS_PLL_BAND_MPLL_BAND : Fld := { base := 0x400018, dims := [], lsb := 16, width := 6, acc := .ro, by_ := 3 }
def TBS_LOSS_CNT_SPLL_LOSS : Fld := { base := 0x40001C, dims := [], lsb := 0, width := 8, acc := .rc, by_ := 3 }
def TBS_LOSS_CNT_CPLL_LOSS : Fld := { base := 0x40001C, dims := [], lsb := 8, width := 8, acc := .rc, by_ := 3 }
def TBS_LOSS_CNT_MPLL_LOSS : Fld := { base := 0x40001C, dims := [], lsb := 16, width := 8, acc := .rc, by_ := 3 }
def TBS_LOSS_CNT_REF_LOSS : Fld := { base := 0x40001C, dims := [], lsb := 24, width := 8, acc := .rc, by_ := 3 }
def TBS_DTIME : Fld := { base := 0x400020, dims := [], lsb := 0, width := 64, acc := .rl, by_ := 3 }
def TBS_DTIME_SH : Fld := { base := 0x400024, dims := [], lsb := 0, width := 32, acc := .ro, by_ := 3 }
def TBS_EPOCH_EPOCH : Fld := { base := 0x400028, dims := [], lsb := 0, width := 16, acc := .ro, by_ := 0 }
def TBS_STITCH : Fld := { base := 0x400030, dims := [], lsb := 0, width := 64, acc := .rl, by_ := 3 }
def TBS_STITCH_SH : Fld := { base := 0x400034, dims := [], lsb := 0, width := 32, acc := .ro, by_ := 3 }
def TBS_PBO : Fld := { base := 0x400038, dims := [], lsb := 0, width := 64, acc := .rl, by_ := 3 }
def TBS_PBO_SH : Fld := { base := 0x40003C, dims := [], lsb := 0, width := 32, acc := .ro, by_ := 3 }
def TBS_PPS_CAP : Fld := { base := 0x400040, dims := [], lsb := 0, width := 64, acc := .rl, by_ := 3 }
def TBS_PPS_CAP_SH : Fld := { base := 0x400044, dims := [], lsb := 0, width := 32, acc := .ro, by_ := 3 }
def TBS_OUT_REFOUT_SEL : Fld := { base := 0x400048, dims := [], lsb := 0, width := 2, acc := .ro, by_ := 35 }
def TBS_OUT_PPSOUT_EN : Fld := { base := 0x400048, dims := [], lsb := 2, width := 1, acc := .ro, by_ := 35 }
def TRG_UNIT_CFG_EN : Fld := { base := 0x500000, dims := [(64, 128)], lsb := 0, width := 1, acc := .ro, by_ := 63 }
def TRG_UNIT_CFG_TYPE : Fld := { base := 0x500000, dims := [(64, 128)], lsb := 1, width := 3, acc := .ro, by_ := 63 }
def TRG_UNIT_CFG_POL : Fld := { base := 0x500000, dims := [(64, 128)], lsb := 4, width := 2, acc := .ro, by_ := 63 }
def TRG_UNIT_CFG_COND : Fld := { base := 0x500000, dims := [(64, 128)], lsb := 6, width := 2, acc := .ro, by_ := 63 }
def TRG_UNIT_LEVEL_LEVEL_A : Fld := { base := 0x500004, dims := [(64, 128)], lsb := 0, width := 16, acc := .ro, by_ := 63 }
def TRG_UNIT_LEVEL_LEVEL_B : Fld := { base := 0x500004, dims := [(64, 128)], lsb := 16, width := 16, acc := .ro, by_ := 63 }
def TRG_UNIT_HYST_HYST : Fld := { base := 0x500008, dims := [(64, 128)], lsb := 0, width := 15, acc := .ro, by_ := 63 }
def TRG_UNIT_T1_T : Fld := { base := 0x50000C, dims := [(64, 128)], lsb := 0, width := 32, acc := .ro, by_ := 63 }
def TRG_UNIT_T2_T : Fld := { base := 0x500010, dims := [(64, 128)], lsb := 0, width := 32, acc := .ro, by_ := 63 }
def TRG_UNIT_STAT_STATE : Fld := { base := 0x500014, dims := [(64, 128)], lsb := 0, width := 1, acc := .ro, by_ := 63 }
def TRG_UNIT_STAT_RUNNING : Fld := { base := 0x500014, dims := [(64, 128)], lsb := 1, width := 1, acc := .ro, by_ := 63 }
def TRG_UNIT_CNT_COUNT : Fld := { base := 0x500018, dims := [(64, 128)], lsb := 0, width := 32, acc := .rc, by_ := 63 }
def TRG_UNIT_LIN_COUNT : Fld := { base := 0x50001C, dims := [(64, 128)], lsb := 0, width := 32, acc := .rc, by_ := 63 }
def TRG_SET_CFG_MODE : Fld := { base := 0x504000, dims := [(256, 16)], lsb := 0, width := 2, acc := .ro, by_ := 63 }
def TRG_SET_CFG_HO_MODE : Fld := { base := 0x504000, dims := [(256, 16)], lsb := 2, width := 2, acc := .ro, by_ := 63 }
def TRG_SET_CFG_A_QUAL : Fld := { base := 0x504000, dims := [(256, 16)], lsb := 4, width := 2, acc := .ro, by_ := 63 }
def TRG_SET_CFG_B_QUAL : Fld := { base := 0x504000, dims := [(256, 16)], lsb := 6, width := 2, acc := .ro, by_ := 63 }
def TRG_SET_CFG_PAT_OP : Fld := { base := 0x504000, dims := [(256, 16)], lsb := 8, width := 2, acc := .ro, by_ := 63 }
def TRG_SET_A01_SID_LOW : Fld := { base := 0x504004, dims := [(256, 16)], lsb := 0, width := 10, acc := .ro, by_ := 63, rst := fun _ => 1023 }
def TRG_SET_A01_SID_HIGH : Fld := { base := 0x504004, dims := [(256, 16)], lsb := 16, width := 10, acc := .ro, by_ := 63, rst := fun _ => 1023 }
def TRG_SET_A23_SID_LOW : Fld := { base := 0x504008, dims := [(256, 16)], lsb := 0, width := 10, acc := .ro, by_ := 63, rst := fun _ => 1023 }
def TRG_SET_A23_SID_HIGH : Fld := { base := 0x504008, dims := [(256, 16)], lsb := 16, width := 10, acc := .ro, by_ := 63, rst := fun _ => 1023 }
def TRG_SET_B01_SID_LOW : Fld := { base := 0x50400C, dims := [(256, 16)], lsb := 0, width := 10, acc := .ro, by_ := 63, rst := fun _ => 1023 }
def TRG_SET_B01_SID_HIGH : Fld := { base := 0x50400C, dims := [(256, 16)], lsb := 16, width := 10, acc := .ro, by_ := 63, rst := fun _ => 1023 }
def TRG_SET_B23_SID_LOW : Fld := { base := 0x504010, dims := [(256, 16)], lsb := 0, width := 10, acc := .ro, by_ := 63, rst := fun _ => 1023 }
def TRG_SET_B23_SID_HIGH : Fld := { base := 0x504010, dims := [(256, 16)], lsb := 16, width := 10, acc := .ro, by_ := 63, rst := fun _ => 1023 }
def TRG_SET_RSTN_RESET_SID : Fld := { base := 0x504014, dims := [(256, 16)], lsb := 0, width := 10, acc := .ro, by_ := 63, rst := fun _ => 1023 }
def TRG_SET_RSTN_N : Fld := { base := 0x504014, dims := [(256, 16)], lsb := 16, width := 16, acc := .ro, by_ := 63, rst := fun _ => 1 }
def TRG_SET_DMIN : Fld := { base := 0x504020, dims := [(256, 16)], lsb := 0, width := 64, acc := .rl, by_ := 63 }
def TRG_SET_DMIN_SH : Fld := { base := 0x504024, dims := [(256, 16)], lsb := 0, width := 32, acc := .ro, by_ := 63 }
def TRG_SET_DMAX : Fld := { base := 0x504028, dims := [(256, 16)], lsb := 0, width := 64, acc := .rl, by_ := 63 }
def TRG_SET_DMAX_SH : Fld := { base := 0x50402C, dims := [(256, 16)], lsb := 0, width := 32, acc := .ro, by_ := 63 }
def TRG_SET_HO : Fld := { base := 0x504030, dims := [(256, 16)], lsb := 0, width := 64, acc := .rl, by_ := 63 }
def TRG_SET_HO_SH : Fld := { base := 0x504034, dims := [(256, 16)], lsb := 0, width := 32, acc := .ro, by_ := 63 }
def TRG_SET_STAT_SEQ : Fld := { base := 0x504040, dims := [(256, 16)], lsb := 0, width := 2, acc := .ro, by_ := 63 }
def TRG_SET_STAT_ARMED : Fld := { base := 0x504040, dims := [(256, 16)], lsb := 2, width := 1, acc := .ro, by_ := 63 }
def TRG_SET_STAT_HOLDOFF : Fld := { base := 0x504040, dims := [(256, 16)], lsb := 3, width := 1, acc := .ro, by_ := 63 }
def TRG_SET_STAT_LATE : Fld := { base := 0x504040, dims := [(256, 16)], lsb := 4, width := 12, acc := .rc, by_ := 63 }
def TRG_SET_STAT_BCOUNT : Fld := { base := 0x504040, dims := [(256, 16)], lsb := 16, width := 16, acc := .ro, by_ := 63 }
def TRG_SET_MISSED_COUNT : Fld := { base := 0x504044, dims := [(256, 16)], lsb := 0, width := 32, acc := .rc, by_ := 63 }
def TRG_SET_HO_CNT_COUNT : Fld := { base := 0x504048, dims := [(256, 16)], lsb := 0, width := 32, acc := .rc, by_ := 63 }
def TRG_SET_DROP_COUNT : Fld := { base := 0x50404C, dims := [(256, 16)], lsb := 0, width := 32, acc := .rc, by_ := 63 }
def TRG_SET_ACC_COUNT : Fld := { base := 0x504050, dims := [(256, 16)], lsb := 0, width := 32, acc := .rc, by_ := 63 }
def TRG_SET_LAST : Fld := { base := 0x504058, dims := [(256, 16)], lsb := 0, width := 64, acc := .rl, by_ := 63 }
def TRG_SET_LAST_SH : Fld := { base := 0x50405C, dims := [(256, 16)], lsb := 0, width := 32, acc := .ro, by_ := 63 }
def TRG_SET_DEAD : Fld := { base := 0x504060, dims := [(256, 16)], lsb := 0, width := 64, acc := .rl, by_ := 63 }
def TRG_SET_DEAD_SH : Fld := { base := 0x504064, dims := [(256, 16)], lsb := 0, width := 32, acc := .ro, by_ := 63 }
def TRG_SET_LAST_X_TFRAC : Fld := { base := 0x504068, dims := [(256, 16)], lsb := 0, width := 8, acc := .ro, by_ := 63 }
def TRG_SET_LAST_X_EPOCH : Fld := { base := 0x504068, dims := [(256, 16)], lsb := 8, width := 16, acc := .ro, by_ := 63 }
def TRG_SET_OUT_WIDTH : Fld := { base := 0x504070, dims := [(256, 16)], lsb := 0, width := 16, acc := .ro, by_ := 63, rst := fun _ => 1 }
def TRG_SET_OUT_EN : Fld := { base := 0x504070, dims := [(256, 16)], lsb := 16, width := 1, acc := .ro, by_ := 63 }
def TRG_PAT_SID : Fld := { base := 0x508000, dims := [(256, 16), (4, 64)], lsb := 0, width := 10, acc := .ro, by_ := 63, rst := fun _ => 1023 }
def TRG_PAT_COND : Fld := { base := 0x508000, dims := [(256, 16), (4, 64)], lsb := 10, width := 2, acc := .ro, by_ := 63 }
def TRG_IO_DIR : Fld := { base := 0x50C000, dims := [(4, 112)], lsb := 0, width := 1, acc := .ro, by_ := 63 }
def TRG_IO_INV : Fld := { base := 0x50C000, dims := [(4, 112)], lsb := 1, width := 1, acc := .ro, by_ := 63 }
def TRG_IO_KIND : Fld := { base := 0x50C000, dims := [(4, 112)], lsb := 2, width := 3, acc := .ro, by_ := 63 }
def TRG_IO_INDEX : Fld := { base := 0x50C000, dims := [(4, 112)], lsb := 5, width := 4, acc := .ro, by_ := 63 }
def TRG_IO_LEVEL : Fld := { base := 0x50C000, dims := [(4, 112)], lsb := 9, width := 1, acc := .ro, by_ := 63 }
def TRG_IO_PIN_STATE : Fld := { base := 0x50C000, dims := [(4, 112)], lsb := 10, width := 1, acc := .ro, by_ := 63 }
def TRG_QSEG_MASK : Fld := { base := 0x50D000, dims := [(4, 16)], lsb := 0, width := 8, acc := .ro, by_ := 63 }
def TRG_TMR_PER_PERIOD : Fld := { base := 0x50E000, dims := [(16, 4)], lsb := 0, width := 32, acc := .ro, by_ := 63 }
def TRG_TMR_CTL_EN : Fld := { base := 0x50E004, dims := [(16, 4)], lsb := 0, width := 1, acc := .ro, by_ := 63 }
/-- The cubic least-squares fit at positions −4 to +3 (R109), each constant to the nearest 2^-16, as 18 bits. DEDUCED, log
entry 2. -/
def interpFit (i j : Nat) : Nat :=
  let rows : List (List Int) := [[-2979, 567, 7660, 15320, 20569, 20427, 11916, -7944],
    [7116, -10544, -13358, -6951, 3050, 11017, 11325, -1655], [993, 1631, 567, -1206, -2695, -2908, -851, 4468],
    [-1158, 827, 1158, 496, -496, -1158, -827, 1158]]
  (((rows.getD i []).getD j 0) % 262144).toNat
def TRG_INTERP_KC : Fld := { base := 0x50F000, dims := [(32, 4), (4, 8)], lsb := 0, width := 18, acc := .rwh, by_ := 3, rst := fun ix => interpFit (ix.headD 0) ((ix.drop 1).headD 0) }

/-- Registers of this file, part 0. -/
def regsATable0 : List Reg := [
  ⟨"TIL_CH_CFG", 0x200000, [(64, 64)], [TIL_CH_CFG_ENABLE, TIL_CH_CFG_BWL, TIL_CH_CFG_DEC_LOG2, TIL_CH_CFG_EST_EN, TIL_CH_CFG_OVR_EVT]⟩,
  ⟨"TIL_CH_STAT", 0x200004, [(64, 64)], [TIL_CH_STAT_STATE, TIL_CH_STAT_FROZEN, TIL_CH_STAT_CHK_LASTING, TIL_CH_STAT_FG_ACTIVE, TIL_CH_STAT_LOOPBACK, TIL_CH_STAT_TEMP_CLAMP]⟩,
  ⟨"TIL_CH_OVR_CNT", 0x200008, [(64, 64)], [TIL_CH_OVR_CNT_OVR_BLOCKS]⟩,
  ⟨"TIL_CHK_CNT", 0x20000C, [(64, 64)], [TIL_CHK_CNT_MISMATCH, TIL_CHK_CNT_SKIP]⟩,
  ⟨"TIL_CHK_ALIGN", 0x200010, [(64, 64)], [TIL_CHK_ALIGN_ALIGN]⟩,
  ⟨"TIL_EST_CNT", 0x200014, [(64, 64)], [TIL_EST_CNT_UPDATES, TIL_EST_CNT_SKIPS]⟩,
  ⟨"TIL_SLICE_BAND_A", 0x201000, [(16, 256)], [TIL_SLICE_BAND_A_OFF_BAND, TIL_SLICE_BAND_A_GAIN_BAND]⟩,
  ⟨"TIL_SLICE_BAND_B", 0x201004, [(16, 256)], [TIL_SLICE_BAND_B_DLY_BAND, TIL_SLICE_BAND_B_BW_BAND]⟩,
  ⟨"TIL_QUAD_CFG", 0x202000, [(64, 16)], [TIL_QUAD_CFG_FACTOR, TIL_QUAD_CFG_PENDING]⟩,
  ⟨"TIL_TILE_STAT", 0x203000, [(64, 4)], [TIL_TILE_STAT_TEMP, TIL_TILE_STAT_POINT, TIL_TILE_STAT_WEIGHT, TIL_TILE_STAT_FG_ACTIVE]⟩,
  ⟨"TIL_TEMP_GRID", 0x203004, [(64, 4)], [TIL_TEMP_GRID_BASE, TIL_TEMP_GRID_STEP]⟩,
  ⟨"TIL_CHK_TOL", 0x204000, [], [TIL_CHK_TOL_TOL_PCT, TIL_CHK_TOL_TOL_LSB]⟩,
  ⟨"TIL_CHK_WIN", 0x204004, [], [TIL_CHK_WIN_CHK_WIN, TIL_CHK_WIN_CHK_THR]⟩,
  ⟨"TIL_TAB_ADDR", 0x204008, [], [TIL_TAB_ADDR_INDEX, TIL_TAB_ADDR_SRC, TIL_TAB_ADDR_AUTOINC]⟩,
  ⟨"TIL_TAB_DATA0", 0x20400C, [], [TIL_TAB_DATA0_OFFSET, TIL_TAB_DATA0_GAIN]⟩,
  ⟨"TIL_TAB_DATA1", 0x204010, [], [TIL_TAB_DATA1_DELAY, TIL_TAB_DATA1_BW_M]⟩,
  ⟨"TIL_TAB_DATA2", 0x204014, [], [TIL_TAB_DATA2_BW_P, TIL_TAB_DATA2_CHECK]⟩,
  ⟨"TBS_CFG", 0x400000, [], [TBS_CFG_SRC, TBS_CFG_REALIGN, TBS_CFG_QUAL, TBS_CFG_TPLL_BW, TBS_CFG_HOLD_AVG, TBS_CFG_PBO_THR]⟩,
  ⟨"TBS_REF_FREQ", 0x400004, [], [TBS_REF_FREQ_REF_FREQ]⟩,
  ⟨"TBS_PPS_DELAY", 0x400008, [], [TBS_PPS_DELAY_PPS_DELAY]⟩,
  ⟨"TBS_SLICE_FREQ", 0x40000C, [], [TBS_SLICE_FREQ_SLICE_KHZ]⟩,
  ⟨"TBS_SPREAD", 0x400010, [], [TBS_SPREAD_CPLL_MODE, TBS_SPREAD_CPLL_DEPTH, TBS_SPREAD_CPLL_RATE, TBS_SPREAD_MPLL_MODE, TBS_SPREAD_MPLL_DEPTH, TBS_SPREAD_MPLL_RATE, TBS_SPREAD_CPLL_ACTIVE, TBS_SPREAD_MPLL_ACTIVE]⟩,
  ⟨"TBS_STATUS", 0x400014, [], [TBS_STATUS_SPLL_ST, TBS_STATUS_CPLL_ST, TBS_STATUS_MPLL_ST, TBS_STATUS_TPLL_ST, TBS_STATUS_REF_OK, TBS_STATUS_PPS_OK, TBS_STATUS_ACQ_FALLBACK, TBS_STATUS_SYS_FALLBACK, TBS_STATUS_MEM_UNAVAIL, TBS_STATUS_TOD_PENDING]⟩,
  ⟨"TBS_PLL_BAND", 0x400018, [], [TBS_PLL_BAND_SPLL_BAND, TBS_PLL_BAND_CPLL_BAND, TBS_PLL_BAND_MPLL_BAND]⟩]

/-- Registers of this file, part 1. -/
def regsATable1 : List Reg := [
  ⟨"TBS_LOSS_CNT", 0x40001C, [], [TBS_LOSS_CNT_SPLL_LOSS, TBS_LOSS_CNT_CPLL_LOSS, TBS_LOSS_CNT_MPLL_LOSS, TBS_LOSS_CNT_REF_LOSS]⟩,
  ⟨"TBS_DTIME_LO", 0x400020, [], [TBS_DTIME]⟩,
  ⟨"TBS_DTIME_HI", 0x400024, [], [TBS_DTIME_SH]⟩,
  ⟨"TBS_EPOCH", 0x400028, [], [TBS_EPOCH_EPOCH]⟩,
  ⟨"TBS_STITCH_LO", 0x400030, [], [TBS_STITCH]⟩,
  ⟨"TBS_STITCH_HI", 0x400034, [], [TBS_STITCH_SH]⟩,
  ⟨"TBS_PBO_LO", 0x400038, [], [TBS_PBO]⟩,
  ⟨"TBS_PBO_HI", 0x40003C, [], [TBS_PBO_SH]⟩,
  ⟨"TBS_PPS_CAP_LO", 0x400040, [], [TBS_PPS_CAP]⟩,
  ⟨"TBS_PPS_CAP_HI", 0x400044, [], [TBS_PPS_CAP_SH]⟩,
  ⟨"TBS_OUT", 0x400048, [], [TBS_OUT_REFOUT_SEL, TBS_OUT_PPSOUT_EN]⟩,
  ⟨"TRG_UNIT_CFG", 0x500000, [(64, 128)], [TRG_UNIT_CFG_EN, TRG_UNIT_CFG_TYPE, TRG_UNIT_CFG_POL, TRG_UNIT_CFG_COND]⟩,
  ⟨"TRG_UNIT_LEVEL", 0x500004, [(64, 128)], [TRG_UNIT_LEVEL_LEVEL_A, TRG_UNIT_LEVEL_LEVEL_B]⟩,
  ⟨"TRG_UNIT_HYST", 0x500008, [(64, 128)], [TRG_UNIT_HYST_HYST]⟩,
  ⟨"TRG_UNIT_T1", 0x50000C, [(64, 128)], [TRG_UNIT_T1_T]⟩,
  ⟨"TRG_UNIT_T2", 0x500010, [(64, 128)], [TRG_UNIT_T2_T]⟩,
  ⟨"TRG_UNIT_STAT", 0x500014, [(64, 128)], [TRG_UNIT_STAT_STATE, TRG_UNIT_STAT_RUNNING]⟩,
  ⟨"TRG_UNIT_CNT", 0x500018, [(64, 128)], [TRG_UNIT_CNT_COUNT]⟩,
  ⟨"TRG_UNIT_LIN", 0x50001C, [(64, 128)], [TRG_UNIT_LIN_COUNT]⟩,
  ⟨"TRG_SET_CFG", 0x504000, [(256, 16)], [TRG_SET_CFG_MODE, TRG_SET_CFG_HO_MODE, TRG_SET_CFG_A_QUAL, TRG_SET_CFG_B_QUAL, TRG_SET_CFG_PAT_OP]⟩,
  ⟨"TRG_SET_A01", 0x504004, [(256, 16)], [TRG_SET_A01_SID_LOW, TRG_SET_A01_SID_HIGH]⟩,
  ⟨"TRG_SET_A23", 0x504008, [(256, 16)], [TRG_SET_A23_SID_LOW, TRG_SET_A23_SID_HIGH]⟩,
  ⟨"TRG_SET_B01", 0x50400C, [(256, 16)], [TRG_SET_B01_SID_LOW, TRG_SET_B01_SID_HIGH]⟩,
  ⟨"TRG_SET_B23", 0x504010, [(256, 16)], [TRG_SET_B23_SID_LOW, TRG_SET_B23_SID_HIGH]⟩]

/-- Registers of this file, part 2. -/
def regsATable2 : List Reg := [
  ⟨"TRG_SET_RSTN", 0x504014, [(256, 16)], [TRG_SET_RSTN_RESET_SID, TRG_SET_RSTN_N]⟩,
  ⟨"TRG_SET_DMIN_LO", 0x504020, [(256, 16)], [TRG_SET_DMIN]⟩,
  ⟨"TRG_SET_DMIN_HI", 0x504024, [(256, 16)], [TRG_SET_DMIN_SH]⟩,
  ⟨"TRG_SET_DMAX_LO", 0x504028, [(256, 16)], [TRG_SET_DMAX]⟩,
  ⟨"TRG_SET_DMAX_HI", 0x50402C, [(256, 16)], [TRG_SET_DMAX_SH]⟩,
  ⟨"TRG_SET_HO_LO", 0x504030, [(256, 16)], [TRG_SET_HO]⟩,
  ⟨"TRG_SET_HO_HI", 0x504034, [(256, 16)], [TRG_SET_HO_SH]⟩,
  ⟨"TRG_SET_STAT", 0x504040, [(256, 16)], [TRG_SET_STAT_SEQ, TRG_SET_STAT_ARMED, TRG_SET_STAT_HOLDOFF, TRG_SET_STAT_LATE, TRG_SET_STAT_BCOUNT]⟩,
  ⟨"TRG_SET_MISSED", 0x504044, [(256, 16)], [TRG_SET_MISSED_COUNT]⟩,
  ⟨"TRG_SET_HO_CNT", 0x504048, [(256, 16)], [TRG_SET_HO_CNT_COUNT]⟩,
  ⟨"TRG_SET_DROP", 0x50404C, [(256, 16)], [TRG_SET_DROP_COUNT]⟩,
  ⟨"TRG_SET_ACC", 0x504050, [(256, 16)], [TRG_SET_ACC_COUNT]⟩,
  ⟨"TRG_SET_LAST_LO", 0x504058, [(256, 16)], [TRG_SET_LAST]⟩,
  ⟨"TRG_SET_LAST_HI", 0x50405C, [(256, 16)], [TRG_SET_LAST_SH]⟩,
  ⟨"TRG_SET_DEAD_LO", 0x504060, [(256, 16)], [TRG_SET_DEAD]⟩,
  ⟨"TRG_SET_DEAD_HI", 0x504064, [(256, 16)], [TRG_SET_DEAD_SH]⟩,
  ⟨"TRG_SET_LAST_X", 0x504068, [(256, 16)], [TRG_SET_LAST_X_TFRAC, TRG_SET_LAST_X_EPOCH]⟩,
  ⟨"TRG_SET_OUT", 0x504070, [(256, 16)], [TRG_SET_OUT_WIDTH, TRG_SET_OUT_EN]⟩,
  ⟨"TRG_PAT", 0x508000, [(256, 16), (4, 64)], [TRG_PAT_SID, TRG_PAT_COND]⟩,
  ⟨"TRG_IO", 0x50C000, [(4, 112)], [TRG_IO_DIR, TRG_IO_INV, TRG_IO_KIND, TRG_IO_INDEX, TRG_IO_LEVEL, TRG_IO_PIN_STATE]⟩,
  ⟨"TRG_QSEG", 0x50D000, [(4, 16)], [TRG_QSEG_MASK]⟩,
  ⟨"TRG_TMR_PER", 0x50E000, [(16, 4)], [TRG_TMR_PER_PERIOD]⟩,
  ⟨"TRG_TMR_CTL", 0x50E004, [(16, 4)], [TRG_TMR_CTL_EN]⟩,
  ⟨"TRG_INTERP", 0x50F000, [(32, 4), (4, 8)], [TRG_INTERP_KC]⟩]

/-- Every register of this file. -/
def regsAAll : List Reg := regsATable0 ++ regsATable1 ++ regsATable2

end Sys2Proof.Machine
end

