-- ==== Sys2Proof/Machine/RegsB.lean ====
section
/-! DEFINITION. The register fields of the capture (CAP), log path (LOG), accumulation (ACC) and generators (GEN) blocks,
as their register tables give them. -/
namespace Sys2Proof.Machine

def CAP_SET_CFG_MODE : Fld := { base := 0x600000, dims := [(64, 16)], lsb := 0, width := 2, acc := .ro, by_ := 63 }
def CAP_SET_CFG_FORMAT : Fld := { base := 0x600000, dims := [(64, 16)], lsb := 2, width := 1, acc := .ro, by_ := 63 }
def CAP_SET_CFG_REARM : Fld := { base := 0x600000, dims := [(64, 16)], lsb := 3, width := 1, acc := .ro, by_ := 63 }
def CAP_SET_CFG_AUTO_REARM : Fld := { base := 0x600000, dims := [(64, 16)], lsb := 4, width := 1, acc := .ro, by_ := 63 }
def CAP_SET_CFG_PRE_FILL_WAIT : Fld := { base := 0x600000, dims := [(64, 16)], lsb := 5, width := 1, acc := .ro, by_ := 63 }
def CAP_SET_CFG_LIST : Fld := { base := 0x600000, dims := [(64, 16)], lsb := 6, width := 1, acc := .ro, by_ := 63 }
def CAP_SET_CFG_DELIVER : Fld := { base := 0x600000, dims := [(64, 16)], lsb := 7, width := 1, acc := .ro, by_ := 63 }
def CAP_SET_MEMB : Fld := { base := 0x600004, dims := [(64, 16)], lsb := 0, width := 64, acc := .rl, by_ := 63 }
def CAP_SET_MEMB_SH : Fld := { base := 0x600008, dims := [(64, 16)], lsb := 0, width := 32, acc := .ro, by_ := 63 }
def CAP_SET_PRE_PRE : Fld := { base := 0x60000C, dims := [(64, 16)], lsb := 0, width := 24, acc := .ro, by_ := 63 }
def CAP_SET_POST : Fld := { base := 0x600010, dims := [(64, 16)], lsb := 0, width := 40, acc := .rl, by_ := 63, rst := fun _ => 1 }
def CAP_SET_POST_SH : Fld := { base := 0x600014, dims := [(64, 16)], lsb := 0, width := 8, acc := .ro, by_ := 63 }
def CAP_SET_BIND_AREA : Fld := { base := 0x600018, dims := [(64, 16)], lsb := 0, width := 8, acc := .ro, by_ := 63 }
def CAP_SET_BIND_RRING : Fld := { base := 0x600018, dims := [(64, 16)], lsb := 16, width := 9, acc := .ro, by_ := 63, rst := fun _ => 511 }
def CAP_SET_PRK_BASE_VALUE : Fld := { base := 0x60001C, dims := [(64, 16)], lsb := 0, width := 18, acc := .ro, by_ := 63 }
def CAP_SET_PRK_CNT_VALUE : Fld := { base := 0x600020, dims := [(64, 16)], lsb := 0, width := 18, acc := .ro, by_ := 63 }
def CAP_SET_LIST_N_VALUE : Fld := { base := 0x600024, dims := [(64, 16)], lsb := 0, width := 18, acc := .ro, by_ := 63 }
def CAP_SET_DUTY_DUTY : Fld := { base := 0x600028, dims := [(64, 16)], lsb := 0, width := 17, acc := .ro, by_ := 63, rst := fun _ => 65536 }
def CAP_SET_STAT_STATE : Fld := { base := 0x60002C, dims := [(64, 16)], lsb := 0, width := 3, acc := .ro, by_ := 63 }
def CAP_SET_STAT_WAIT : Fld := { base := 0x60002C, dims := [(64, 16)], lsb := 3, width := 5, acc := .ro, by_ := 63 }
def CAP_SET_STAT_OPEN : Fld := { base := 0x60002C, dims := [(64, 16)], lsb := 8, width := 1, acc := .ro, by_ := 63 }
def CAP_SET_SEG : Fld := { base := 0x600030, dims := [(64, 16)], lsb := 0, width := 48, acc := .rl, by_ := 63 }
def CAP_SET_SEG_SH : Fld := { base := 0x600034, dims := [(64, 16)], lsb := 0, width := 16, acc := .ro, by_ := 63 }
def CAP_SET_CHARGE_CHARGE : Fld := { base := 0x600038, dims := [(64, 16)], lsb := 0, width := 20, acc := .ro, by_ := 63 }
def CAP_SET_COAL_COAL_COUNT : Fld := { base := 0x60003C, dims := [(64, 16)], lsb := 0, width := 16, acc := .ro, by_ := 63, rst := fun _ => 1 }
def CAP_SET_COAL_COAL_TIME : Fld := { base := 0x60003C, dims := [(64, 16)], lsb := 16, width := 16, acc := .ro, by_ := 63 }
def CAP_COMMIT_COMMIT : Fld := { base := 0x600400, dims := [], lsb := 0, width := 20, acc := .ro, by_ := 63 }
def CAP_COMMIT_LIMIT_LIMIT : Fld := { base := 0x600404, dims := [], lsb := 0, width := 20, acc := .ro, by_ := 0, rst := fun _ => 300000 }
def CAP_SET_SLOTS_SLOTS : Fld := { base := 0x600500, dims := [(4, 16)], lsb := 0, width := 24, acc := .ro, by_ := 63 }
def CAP_RING_FILL_FILL : Fld := { base := 0x600800, dims := [(4, 64)], lsb := 0, width := 22, acc := .ro, by_ := 63 }
def CAP_RING_ECC_CORR : Fld := { base := 0x600900, dims := [(4, 64)], lsb := 0, width := 16, acc := .rc, by_ := 63 }
def CAP_RING_ECC_UNC : Fld := { base := 0x600900, dims := [(4, 64)], lsb := 16, width := 16, acc := .rc, by_ := 63 }
def LOG_STR_CFG_RUN : Fld := { base := 0x700000, dims := [(32, 320)], lsb := 0, width := 1, acc := .ro, by_ := 63 }
def LOG_STR_CFG_KIND : Fld := { base := 0x700000, dims := [(32, 320)], lsb := 1, width := 3, acc := .ro, by_ := 63 }
def LOG_STR_CFG_FORMAT : Fld := { base := 0x700000, dims := [(32, 320)], lsb := 4, width := 1, acc := .ro, by_ := 63 }
def LOG_STR_CFG_RING : Fld := { base := 0x700000, dims := [(32, 320)], lsb := 5, width := 7, acc := .ro, by_ := 63 }
def LOG_STR_CFG_BOUND : Fld := { base := 0x700000, dims := [(32, 320)], lsb := 12, width := 1, acc := .ro, by_ := 63 }
def LOG_STR_RATIO_RATIO : Fld := { base := 0x700004, dims := [(32, 320)], lsb := 0, width := 25, acc := .ro, by_ := 63, rst := fun _ => 2 }
def LOG_STR_STAT_STATE : Fld := { base := 0x700008, dims := [(32, 320)], lsb := 0, width := 2, acc := .ro, by_ := 63 }
def LOG_STR_STAT_CAUSE : Fld := { base := 0x700008, dims := [(32, 320)], lsb := 16, width := 16, acc := .ro, by_ := 63 }
def LOG_STR_OUT : Fld := { base := 0x70000C, dims := [(32, 320)], lsb := 0, width := 64, acc := .rl, by_ := 63 }
def LOG_STR_OUT_SH : Fld := { base := 0x700010, dims := [(32, 320)], lsb := 0, width := 32, acc := .ro, by_ := 63 }
def LOG_STR_LOST : Fld := { base := 0x700014, dims := [(32, 320)], lsb := 0, width := 64, acc := .rl, by_ := 63 }
def LOG_STR_LOST_SH : Fld := { base := 0x700018, dims := [(32, 320)], lsb := 0, width := 32, acc := .ro, by_ := 63 }
def LOG_STR_GAPS_GAPS : Fld := { base := 0x70001C, dims := [(32, 320)], lsb := 0, width := 32, acc := .rc, by_ := 63 }
def LOG_MG_CFG_MCLK_DIV : Fld := { base := 0x704000, dims := [(16, 16)], lsb := 0, width := 16, acc := .ro, by_ := 63, rst := fun _ => 50 }
def LOG_MG_CFG_EN : Fld := { base := 0x704000, dims := [(16, 16)], lsb := 16, width := 1, acc := .ro, by_ := 63 }
def LOG_MG_CFG_EDGE : Fld := { base := 0x704000, dims := [(16, 16)], lsb := 17, width := 1, acc := .ro, by_ := 63 }
def LOG_MG_CFG_MANCH : Fld := { base := 0x704000, dims := [(16, 16)], lsb := 18, width := 1, acc := .ro, by_ := 63 }
def LOG_MG_DELAY_DELAY : Fld := { base := 0x704004, dims := [(16, 16)], lsb := 0, width := 32, acc := .ro, by_ := 63 }
def LOG_MG_STAT_LOST : Fld := { base := 0x704008, dims := [(16, 16)], lsb := 0, width := 16, acc := .ro, by_ := 63 }
def LOG_MG_STAT_RUNNING : Fld := { base := 0x704008, dims := [(16, 16)], lsb := 16, width := 1, acc := .ro, by_ := 63 }
def LOG_MD_CFG_SINC : Fld := { base := 0x705000, dims := [(16, 256)], lsb := 0, width := 2, acc := .ro, by_ := 63, rst := fun _ => 2 }
def LOG_MD_CFG_OSR : Fld := { base := 0x705000, dims := [(16, 256)], lsb := 2, width := 11, acc := .ro, by_ := 63, rst := fun _ => 256 }
def LOG_MD_CFG_CMP_ORD : Fld := { base := 0x705000, dims := [(16, 256)], lsb := 13, width := 2, acc := .ro, by_ := 63, rst := fun _ => 2 }
def LOG_MD_CFG_CMP_OSR : Fld := { base := 0x705000, dims := [(16, 256)], lsb := 15, width := 7, acc := .ro, by_ := 63, rst := fun _ => 16 }
def LOG_MD_CFG_CMP_MODE : Fld := { base := 0x705000, dims := [(16, 256)], lsb := 22, width := 2, acc := .ro, by_ := 63 }
def LOG_MD_CFG_STUCK : Fld := { base := 0x705000, dims := [(16, 256)], lsb := 24, width := 8, acc := .ro, by_ := 63 }
def LOG_MD_CMP_HI : Fld := { base := 0x705004, dims := [(16, 256)], lsb := 0, width := 16, acc := .ro, by_ := 63, rst := fun _ => 32767 }
def LOG_MD_CMP_LO : Fld := { base := 0x705004, dims := [(16, 256)], lsb := 16, width := 16, acc := .ro, by_ := 63, rst := fun _ => 32768 }
def LOG_MD_HYST_HYST : Fld := { base := 0x705008, dims := [(16, 256)], lsb := 0, width := 15, acc := .ro, by_ := 63 }
def LOG_MD_HYST_ACTIVE : Fld := { base := 0x705008, dims := [(16, 256)], lsb := 16, width := 1, acc := .ro, by_ := 63 }
def LOG_MD_ERR_DECODE : Fld := { base := 0x70500C, dims := [(16, 256)], lsb := 0, width := 16, acc := .rc, by_ := 63 }
def LOG_MD_ERR_LOSSES : Fld := { base := 0x70500C, dims := [(16, 256)], lsb := 16, width := 16, acc := .rc, by_ := 63 }
def LOG_RING_CFG_BLOCK : Fld := { base := 0x706000, dims := [(32, 128)], lsb := 0, width := 2, acc := .ro, by_ := 63 }
def LOG_RING_CFG_AREA : Fld := { base := 0x706000, dims := [(32, 128)], lsb := 8, width := 8, acc := .ro, by_ := 63 }
def LOG_RING_CFG_FLUSH : Fld := { base := 0x706000, dims := [(32, 128)], lsb := 16, width := 16, acc := .ro, by_ := 63 }
def LOG_RING_COAL_COAL_COUNT : Fld := { base := 0x706004, dims := [(32, 128)], lsb := 0, width := 16, acc := .ro, by_ := 63, rst := fun _ => 1 }
def LOG_RING_COAL_COAL_TIME : Fld := { base := 0x706004, dims := [(32, 128)], lsb := 16, width := 16, acc := .ro, by_ := 63 }
def LOG_RING_HIGH_VALUE : Fld := { base := 0x706008, dims := [(32, 128)], lsb := 0, width := 32, acc := .ro, by_ := 63 }
def LOG_RING_SLOTS_VALUE : Fld := { base := 0x70600C, dims := [(32, 128)], lsb := 0, width := 32, acc := .ro, by_ := 63 }
def LOG_RING_FILL_VALUE : Fld := { base := 0x706010, dims := [(32, 128)], lsb := 0, width := 32, acc := .ro, by_ := 63 }
def LOG_RING_RSV_RESERVE : Fld := { base := 0x706014, dims := [(32, 128)], lsb := 0, width := 9, acc := .ro, by_ := 63 }
def ACC_SET_CFG_KIND : Fld := { base := 0x800000, dims := [(64, 16)], lsb := 0, width := 2, acc := .ro, by_ := 63 }
def ACC_SET_CFG_RES : Fld := { base := 0x800000, dims := [(64, 16)], lsb := 2, width := 1, acc := .ro, by_ := 63 }
def ACC_SET_CFG_LOC : Fld := { base := 0x800000, dims := [(64, 16)], lsb := 3, width := 1, acc := .ro, by_ := 63 }
def ACC_SET_CFG_CONTINUE : Fld := { base := 0x800000, dims := [(64, 16)], lsb := 4, width := 1, acc := .ro, by_ := 63 }
def ACC_SET_CFG_KEEP_DATA : Fld := { base := 0x800000, dims := [(64, 16)], lsb := 5, width := 1, acc := .ro, by_ := 63 }
def ACC_SET_CFG_HIT : Fld := { base := 0x800000, dims := [(64, 16)], lsb := 6, width := 2, acc := .ro, by_ := 63 }
def ACC_SET_CFG_TB_LOG2 : Fld := { base := 0x800000, dims := [(64, 16)], lsb := 8, width := 5, acc := .ro, by_ := 63 }
def ACC_SET_CFG_AB_LOG2 : Fld := { base := 0x800000, dims := [(64, 16)], lsb := 13, width := 4, acc := .ro, by_ := 63, rst := fun _ => 12 }
def ACC_SET_BIND_AREA : Fld := { base := 0x800004, dims := [(64, 16)], lsb := 0, width := 8, acc := .ro, by_ := 63 }
def ACC_SET_BIND_BANK_FIRST : Fld := { base := 0x800004, dims := [(64, 16)], lsb := 8, width := 3, acc := .ro, by_ := 63 }
def ACC_SET_BIND_BANK_CNT : Fld := { base := 0x800004, dims := [(64, 16)], lsb := 11, width := 4, acc := .ro, by_ := 63 }
def ACC_SET_TARGET : Fld := { base := 0x800008, dims := [(64, 16)], lsb := 0, width := 64, acc := .rl, by_ := 63 }
def ACC_SET_TARGET_SH : Fld := { base := 0x80000C, dims := [(64, 16)], lsb := 0, width := 32, acc := .ro, by_ := 63 }
def ACC_SET_COUNT : Fld := { base := 0x800010, dims := [(64, 16)], lsb := 0, width := 64, acc := .rl, by_ := 63 }
def ACC_SET_COUNT_SH : Fld := { base := 0x800014, dims := [(64, 16)], lsb := 0, width := 32, acc := .ro, by_ := 63 }
def ACC_SET_PART : Fld := { base := 0x800020, dims := [(64, 16)], lsb := 0, width := 64, acc := .rl, by_ := 63 }
def ACC_SET_PART_SH : Fld := { base := 0x800024, dims := [(64, 16)], lsb := 0, width := 32, acc := .ro, by_ := 63 }
def ACC_SET_STAT_STATE : Fld := { base := 0x800018, dims := [(64, 16)], lsb := 0, width := 2, acc := .ro, by_ := 63 }
def ACC_SET_STAT_FOLDING : Fld := { base := 0x800018, dims := [(64, 16)], lsb := 2, width := 1, acc := .ro, by_ := 63 }
def ACC_SET_STAT_PARTIAL : Fld := { base := 0x800018, dims := [(64, 16)], lsb := 3, width := 1, acc := .ro, by_ := 63 }
def ACC_SET_STAT_HIST_SAT : Fld := { base := 0x800018, dims := [(64, 16)], lsb := 4, width := 1, acc := .ro, by_ := 63 }
def ACC_SET_REJ_COUNT : Fld := { base := 0x80001C, dims := [(64, 16)], lsb := 0, width := 32, acc := .rc, by_ := 63 }
def ACC_SET_SAT_COUNT : Fld := { base := 0x80002C, dims := [(64, 16)], lsb := 0, width := 32, acc := .rc, by_ := 63 }
def ACC_SET_FLAGS_FLAGS : Fld := { base := 0x800028, dims := [(64, 16)], lsb := 0, width := 16, acc := .ro, by_ := 63 }
def ACC_SET_FLAGS_POISON : Fld := { base := 0x800028, dims := [(64, 16)], lsb := 16, width := 16, acc := .ro, by_ := 63 }
def ACC_MEAS_BASE_MEAS_BASE : Fld := { base := 0x800030, dims := [(64, 16)], lsb := 0, width := 16, acc := .ro, by_ := 63 }
def ACC_MEAS_BASE_ELINES : Fld := { base := 0x800030, dims := [(64, 16)], lsb := 16, width := 8, acc := .ro, by_ := 63 }
def ACC_MEAS_LINES_MEAS_LINES : Fld := { base := 0x800034, dims := [(64, 16)], lsb := 0, width := 17, acc := .ro, by_ := 63 }
def ACC_MEAS_MIR : Fld := { base := 0x800038, dims := [(64, 16)], lsb := 0, width := 64, acc := .rl, by_ := 63 }
def ACC_MEAS_MIR_SH : Fld := { base := 0x80003C, dims := [(64, 16)], lsb := 0, width := 32, acc := .ro, by_ := 63 }
def ACC_BANK_USE_USED : Fld := { base := 0x800400, dims := [], lsb := 0, width := 8, acc := .ro, by_ := 63 }
def ACC_MSLOT_CFG_EN : Fld := { base := 0x804000, dims := [(256, 64), (32, 8)], lsb := 0, width := 1, acc := .ro, by_ := 63 }
def ACC_MSLOT_CFG_TYPE : Fld := { base := 0x804000, dims := [(256, 64), (32, 8)], lsb := 1, width := 5, acc := .ro, by_ := 63 }
def ACC_MSLOT_CFG_POL : Fld := { base := 0x804000, dims := [(256, 64), (32, 8)], lsb := 6, width := 2, acc := .ro, by_ := 63 }
def ACC_MSLOT_CFG_REF_SRC : Fld := { base := 0x804000, dims := [(256, 64), (32, 8)], lsb := 8, width := 1, acc := .ro, by_ := 63 }
def ACC_MSLOT_CFG_EDGE_FROM : Fld := { base := 0x804000, dims := [(256, 64), (32, 8)], lsb := 9, width := 1, acc := .ro, by_ := 63 }
def ACC_MSLOT_CFG_PEER : Fld := { base := 0x804000, dims := [(256, 64), (32, 8)], lsb := 10, width := 6, acc := .ro, by_ := 63 }
def ACC_MSLOT_CFG_HYST : Fld := { base := 0x804000, dims := [(256, 64), (32, 8)], lsb := 16, width := 16, acc := .ro, by_ := 63 }
def ACC_MSLOT_PCT_PCT_LO : Fld := { base := 0x804004, dims := [(256, 64), (32, 8)], lsb := 0, width := 10, acc := .ro, by_ := 63, rst := fun _ => 100 }
def ACC_MSLOT_PCT_PCT_MID : Fld := { base := 0x804004, dims := [(256, 64), (32, 8)], lsb := 10, width := 10, acc := .ro, by_ := 63, rst := fun _ => 500 }
def ACC_MSLOT_PCT_PCT_HI : Fld := { base := 0x804004, dims := [(256, 64), (32, 8)], lsb := 20, width := 10, acc := .ro, by_ := 63, rst := fun _ => 900 }
def ACC_MSLOT_ABS_ABS_LO : Fld := { base := 0x804008, dims := [(256, 64), (32, 8)], lsb := 0, width := 16, acc := .ro, by_ := 63 }
def ACC_MSLOT_ABS_ABS_HI : Fld := { base := 0x804008, dims := [(256, 64), (32, 8)], lsb := 16, width := 16, acc := .ro, by_ := 63 }
def ACC_MSLOT_MID_ABS_MID : Fld := { base := 0x80400C, dims := [(256, 64), (32, 8)], lsb := 0, width := 16, acc := .ro, by_ := 63 }
def ACC_MSLOT_GOFS_GATE_OFS : Fld := { base := 0x804010, dims := [(256, 64), (32, 8)], lsb := 0, width := 32, acc := .ro, by_ := 63 }
def ACC_MSLOT_GLEN_GATE_LEN : Fld := { base := 0x804014, dims := [(256, 64), (32, 8)], lsb := 0, width := 32, acc := .ro, by_ := 63 }
def ACC_MSLOT_REF_LOW : Fld := { base := 0x804018, dims := [(256, 64), (32, 8)], lsb := 0, width := 16, acc := .ro, by_ := 63 }
def ACC_MSLOT_REF_HIGH : Fld := { base := 0x804018, dims := [(256, 64), (32, 8)], lsb := 16, width := 16, acc := .ro, by_ := 63 }
def GEN_CFG_PARK : Fld := { base := 0x900000, dims := [(256, 8)], lsb := 0, width := 16, acc := .ro, by_ := 63 }
def GEN_CFG_UNDERRUN_POLICY : Fld := { base := 0x900000, dims := [(256, 8)], lsb := 16, width := 1, acc := .ro, by_ := 63 }
def GEN_CFG_GUARD_EN : Fld := { base := 0x900000, dims := [(256, 8)], lsb := 17, width := 1, acc := .ro, by_ := 63 }
def GEN_CFG_TRIG_SID : Fld := { base := 0x900000, dims := [(256, 8)], lsb := 18, width := 10, acc := .ro, by_ := 63, rst := fun _ => 1023 }
def GEN_MK_MK_WIDTH : Fld := { base := 0x900004, dims := [(256, 8)], lsb := 0, width := 16, acc := .ro, by_ := 63, rst := fun _ => 1 }
def GEN_STAT_STATE : Fld := { base := 0x900008, dims := [(256, 8)], lsb := 0, width := 3, acc := .ro, by_ := 63 }
def GEN_STAT_ENTRY : Fld := { base := 0x900008, dims := [(256, 8)], lsb := 3, width := 12, acc := .ro, by_ := 63 }
def GEN_STAT_UNDERRUN : Fld := { base := 0x900008, dims := [(256, 8)], lsb := 15, width := 1, acc := .w1c, by_ := 63 }
def GEN_STAT_JUMP_PENDING : Fld := { base := 0x900008, dims := [(256, 8)], lsb := 16, width := 1, acc := .ro, by_ := 63 }
def GEN_STAT_WAITING : Fld := { base := 0x900008, dims := [(256, 8)], lsb := 17, width := 1, acc := .ro, by_ := 63 }
def GEN_STAT_RAMPING : Fld := { base := 0x900008, dims := [(256, 8)], lsb := 18, width := 1, acc := .ro, by_ := 63 }
def GEN_STAT_TRIP_GUARD : Fld := { base := 0x900008, dims := [(256, 8)], lsb := 19, width := 3, acc := .ro, by_ := 63 }
def GEN_STAT_CAUSE : Fld := { base := 0x900008, dims := [(256, 8)], lsb := 22, width := 3, acc := .ro, by_ := 63 }
def GEN_LOOP_PASS : Fld := { base := 0x90000C, dims := [(256, 8)], lsb := 0, width := 32, acc := .ro, by_ := 63 }
def GEN_SAMP : Fld := { base := 0x900010, dims := [(256, 8)], lsb := 0, width := 64, acc := .rl, by_ := 63 }
def GEN_SAMP_SH : Fld := { base := 0x900014, dims := [(256, 8)], lsb := 0, width := 32, acc := .ro, by_ := 63 }
def GEN_UNDER : Fld := { base := 0x900018, dims := [(256, 8)], lsb := 0, width := 64, acc := .rl, by_ := 63 }
def GEN_UNDER_SH : Fld := { base := 0x90001C, dims := [(256, 8)], lsb := 0, width := 32, acc := .ro, by_ := 63 }
def GEN_ADV : Fld := { base := 0x900068, dims := [(256, 8)], lsb := 0, width := 64, acc := .rl, by_ := 63 }
def GEN_ADV_SH : Fld := { base := 0x90006C, dims := [(256, 8)], lsb := 0, width := 32, acc := .ro, by_ := 63 }
def GEN_CNT_UNDERRUNS : Fld := { base := 0x900020, dims := [(256, 8)], lsb := 0, width := 16, acc := .rc, by_ := 63 }
def GEN_CNT_TRIG_IGN : Fld := { base := 0x900020, dims := [(256, 8)], lsb := 16, width := 16, acc := .rc, by_ := 63 }
def GEN_SKEW_FRAC : Fld := { base := 0x900024, dims := [(256, 8)], lsb := 0, width := 16, acc := .ro, by_ := 63 }
def GEN_SKEW_INT : Fld := { base := 0x900024, dims := [(256, 8)], lsb := 16, width := 8, acc := .ro, by_ := 63 }
def GEN_LB_DLY_LB_DLY : Fld := { base := 0x900028, dims := [(256, 8)], lsb := 0, width := 16, acc := .ro, by_ := 0 }
def GEN_STG_AREA_AREA : Fld := { base := 0x90002C, dims := [(256, 8)], lsb := 0, width := 8, acc := .ro, by_ := 63 }
def GEN_STG_AREA_BOUND : Fld := { base := 0x90002C, dims := [(256, 8)], lsb := 8, width := 1, acc := .ro, by_ := 63 }
def GEN_STG_WMARK_BYTES : Fld := { base := 0x900030, dims := [(256, 8)], lsb := 0, width := 23, acc := .ro, by_ := 63 }
def GEN_STG_RESUME_BYTES : Fld := { base := 0x900034, dims := [(256, 8)], lsb := 0, width := 23, acc := .ro, by_ := 63, rst := fun _ => 1048576 }
def GEN_STG_FILL_BYTES : Fld := { base := 0x900038, dims := [(256, 8)], lsb := 0, width := 23, acc := .ro, by_ := 63 }
def GEN_STG_PRIME_BYTES : Fld := { base := 0x90003C, dims := [(256, 8)], lsb := 0, width := 23, acc := .ro, by_ := 63 }
def GEN_GUARD_SID : Fld := { base := 0x900040, dims := [(256, 8), (4, 8)], lsb := 0, width := 10, acc := .ro, by_ := 63, rst := fun _ => 1023 }
def GEN_GUARD_TRIP_LEVEL : Fld := { base := 0x900040, dims := [(256, 8), (4, 8)], lsb := 10, width := 1, acc := .ro, by_ := 63 }
def GEN_GUARD_EN : Fld := { base := 0x900040, dims := [(256, 8), (4, 8)], lsb := 11, width := 1, acc := .ro, by_ := 63 }
def GEN_GUARD_RAMP_RAMP_US : Fld := { base := 0x900060, dims := [(256, 8)], lsb := 0, width := 17, acc := .ro, by_ := 63, rst := fun _ => 1000 }
def GEN_FIRST_FIRST : Fld := { base := 0x900064, dims := [(256, 8)], lsb := 0, width := 12, acc := .ro, by_ := 63 }
def GEN_SR_GEN_MASK : Fld := { base := 0x901000, dims := [(4, 16)], lsb := 0, width := 8, acc := .ro, by_ := 63 }
def GEN_SR_REF : Fld := { base := 0x901000, dims := [(4, 16)], lsb := 8, width := 3, acc := .ro, by_ := 63 }

/-- Registers of this file, part 0. -/
def regsBTable0 : List Reg := [
  ⟨"CAP_SET_CFG", 0x600000, [(64, 16)], [CAP_SET_CFG_MODE, CAP_SET_CFG_FORMAT, CAP_SET_CFG_REARM, CAP_SET_CFG_AUTO_REARM, CAP_SET_CFG_PRE_FILL_WAIT, CAP_SET_CFG_LIST, CAP_SET_CFG_DELIVER]⟩,
  ⟨"CAP_SET_MEMB_LO", 0x600004, [(64, 16)], [CAP_SET_MEMB]⟩,
  ⟨"CAP_SET_MEMB_HI", 0x600008, [(64, 16)], [CAP_SET_MEMB_SH]⟩,
  ⟨"CAP_SET_PRE", 0x60000C, [(64, 16)], [CAP_SET_PRE_PRE]⟩,
  ⟨"CAP_SET_POST_LO", 0x600010, [(64, 16)], [CAP_SET_POST]⟩,
  ⟨"CAP_SET_POST_HI", 0x600014, [(64, 16)], [CAP_SET_POST_SH]⟩,
  ⟨"CAP_SET_BIND", 0x600018, [(64, 16)], [CAP_SET_BIND_AREA, CAP_SET_BIND_RRING]⟩,
  ⟨"CAP_SET_PRK_BASE", 0x60001C, [(64, 16)], [CAP_SET_PRK_BASE_VALUE]⟩,
  ⟨"CAP_SET_PRK_CNT", 0x600020, [(64, 16)], [CAP_SET_PRK_CNT_VALUE]⟩,
  ⟨"CAP_SET_LIST_N", 0x600024, [(64, 16)], [CAP_SET_LIST_N_VALUE]⟩,
  ⟨"CAP_SET_DUTY", 0x600028, [(64, 16)], [CAP_SET_DUTY_DUTY]⟩,
  ⟨"CAP_SET_STAT", 0x60002C, [(64, 16)], [CAP_SET_STAT_STATE, CAP_SET_STAT_WAIT, CAP_SET_STAT_OPEN]⟩,
  ⟨"CAP_SET_SEG_LO", 0x600030, [(64, 16)], [CAP_SET_SEG]⟩,
  ⟨"CAP_SET_SEG_HI", 0x600034, [(64, 16)], [CAP_SET_SEG_SH]⟩,
  ⟨"CAP_SET_CHARGE", 0x600038, [(64, 16)], [CAP_SET_CHARGE_CHARGE]⟩,
  ⟨"CAP_SET_COAL", 0x60003C, [(64, 16)], [CAP_SET_COAL_COAL_COUNT, CAP_SET_COAL_COAL_TIME]⟩,
  ⟨"CAP_COMMIT", 0x600400, [], [CAP_COMMIT_COMMIT]⟩,
  ⟨"CAP_COMMIT_LIMIT", 0x600404, [], [CAP_COMMIT_LIMIT_LIMIT]⟩,
  ⟨"CAP_SET_SLOTS", 0x600500, [(4, 16)], [CAP_SET_SLOTS_SLOTS]⟩,
  ⟨"CAP_RING_FILL", 0x600800, [(4, 64)], [CAP_RING_FILL_FILL]⟩,
  ⟨"CAP_RING_ECC", 0x600900, [(4, 64)], [CAP_RING_ECC_CORR, CAP_RING_ECC_UNC]⟩,
  ⟨"LOG_STR_CFG", 0x700000, [(32, 320)], [LOG_STR_CFG_RUN, LOG_STR_CFG_KIND, LOG_STR_CFG_FORMAT, LOG_STR_CFG_RING, LOG_STR_CFG_BOUND]⟩,
  ⟨"LOG_STR_RATIO", 0x700004, [(32, 320)], [LOG_STR_RATIO_RATIO]⟩,
  ⟨"LOG_STR_STAT", 0x700008, [(32, 320)], [LOG_STR_STAT_STATE, LOG_STR_STAT_CAUSE]⟩]

/-- Registers of this file, part 1. -/
def regsBTable1 : List Reg := [
  ⟨"LOG_STR_OUT_LO", 0x70000C, [(32, 320)], [LOG_STR_OUT]⟩,
  ⟨"LOG_STR_OUT_HI", 0x700010, [(32, 320)], [LOG_STR_OUT_SH]⟩,
  ⟨"LOG_STR_LOST_LO", 0x700014, [(32, 320)], [LOG_STR_LOST]⟩,
  ⟨"LOG_STR_LOST_HI", 0x700018, [(32, 320)], [LOG_STR_LOST_SH]⟩,
  ⟨"LOG_STR_GAPS", 0x70001C, [(32, 320)], [LOG_STR_GAPS_GAPS]⟩,
  ⟨"LOG_MG_CFG", 0x704000, [(16, 16)], [LOG_MG_CFG_MCLK_DIV, LOG_MG_CFG_EN, LOG_MG_CFG_EDGE, LOG_MG_CFG_MANCH]⟩,
  ⟨"LOG_MG_DELAY", 0x704004, [(16, 16)], [LOG_MG_DELAY_DELAY]⟩,
  ⟨"LOG_MG_STAT", 0x704008, [(16, 16)], [LOG_MG_STAT_LOST, LOG_MG_STAT_RUNNING]⟩,
  ⟨"LOG_MD_CFG", 0x705000, [(16, 256)], [LOG_MD_CFG_SINC, LOG_MD_CFG_OSR, LOG_MD_CFG_CMP_ORD, LOG_MD_CFG_CMP_OSR, LOG_MD_CFG_CMP_MODE, LOG_MD_CFG_STUCK]⟩,
  ⟨"LOG_MD_CMP", 0x705004, [(16, 256)], [LOG_MD_CMP_HI, LOG_MD_CMP_LO]⟩,
  ⟨"LOG_MD_HYST", 0x705008, [(16, 256)], [LOG_MD_HYST_HYST, LOG_MD_HYST_ACTIVE]⟩,
  ⟨"LOG_MD_ERR", 0x70500C, [(16, 256)], [LOG_MD_ERR_DECODE, LOG_MD_ERR_LOSSES]⟩,
  ⟨"LOG_RING_CFG", 0x706000, [(32, 128)], [LOG_RING_CFG_BLOCK, LOG_RING_CFG_AREA, LOG_RING_CFG_FLUSH]⟩,
  ⟨"LOG_RING_COAL", 0x706004, [(32, 128)], [LOG_RING_COAL_COAL_COUNT, LOG_RING_COAL_COAL_TIME]⟩,
  ⟨"LOG_RING_HIGH", 0x706008, [(32, 128)], [LOG_RING_HIGH_VALUE]⟩,
  ⟨"LOG_RING_SLOTS", 0x70600C, [(32, 128)], [LOG_RING_SLOTS_VALUE]⟩,
  ⟨"LOG_RING_FILL", 0x706010, [(32, 128)], [LOG_RING_FILL_VALUE]⟩,
  ⟨"LOG_RING_RSV", 0x706014, [(32, 128)], [LOG_RING_RSV_RESERVE]⟩,
  ⟨"ACC_SET_CFG", 0x800000, [(64, 16)], [ACC_SET_CFG_KIND, ACC_SET_CFG_RES, ACC_SET_CFG_LOC, ACC_SET_CFG_CONTINUE, ACC_SET_CFG_KEEP_DATA, ACC_SET_CFG_HIT, ACC_SET_CFG_TB_LOG2, ACC_SET_CFG_AB_LOG2]⟩,
  ⟨"ACC_SET_BIND", 0x800004, [(64, 16)], [ACC_SET_BIND_AREA, ACC_SET_BIND_BANK_FIRST, ACC_SET_BIND_BANK_CNT]⟩,
  ⟨"ACC_SET_TARGET_LO", 0x800008, [(64, 16)], [ACC_SET_TARGET]⟩,
  ⟨"ACC_SET_TARGET_HI", 0x80000C, [(64, 16)], [ACC_SET_TARGET_SH]⟩,
  ⟨"ACC_SET_COUNT_LO", 0x800010, [(64, 16)], [ACC_SET_COUNT]⟩,
  ⟨"ACC_SET_COUNT_HI", 0x800014, [(64, 16)], [ACC_SET_COUNT_SH]⟩]

/-- Registers of this file, part 2. -/
def regsBTable2 : List Reg := [
  ⟨"ACC_SET_PART_LO", 0x800020, [(64, 16)], [ACC_SET_PART]⟩,
  ⟨"ACC_SET_PART_HI", 0x800024, [(64, 16)], [ACC_SET_PART_SH]⟩,
  ⟨"ACC_SET_STAT", 0x800018, [(64, 16)], [ACC_SET_STAT_STATE, ACC_SET_STAT_FOLDING, ACC_SET_STAT_PARTIAL, ACC_SET_STAT_HIST_SAT]⟩,
  ⟨"ACC_SET_REJ", 0x80001C, [(64, 16)], [ACC_SET_REJ_COUNT]⟩,
  ⟨"ACC_SET_SAT", 0x80002C, [(64, 16)], [ACC_SET_SAT_COUNT]⟩,
  ⟨"ACC_SET_FLAGS", 0x800028, [(64, 16)], [ACC_SET_FLAGS_FLAGS, ACC_SET_FLAGS_POISON]⟩,
  ⟨"ACC_MEAS_BASE", 0x800030, [(64, 16)], [ACC_MEAS_BASE_MEAS_BASE, ACC_MEAS_BASE_ELINES]⟩,
  ⟨"ACC_MEAS_LINES", 0x800034, [(64, 16)], [ACC_MEAS_LINES_MEAS_LINES]⟩,
  ⟨"ACC_MEAS_MIR_LO", 0x800038, [(64, 16)], [ACC_MEAS_MIR]⟩,
  ⟨"ACC_MEAS_MIR_HI", 0x80003C, [(64, 16)], [ACC_MEAS_MIR_SH]⟩,
  ⟨"ACC_BANK_USE", 0x800400, [], [ACC_BANK_USE_USED]⟩,
  ⟨"ACC_MSLOT_CFG", 0x804000, [(256, 64), (32, 8)], [ACC_MSLOT_CFG_EN, ACC_MSLOT_CFG_TYPE, ACC_MSLOT_CFG_POL, ACC_MSLOT_CFG_REF_SRC, ACC_MSLOT_CFG_EDGE_FROM, ACC_MSLOT_CFG_PEER, ACC_MSLOT_CFG_HYST]⟩,
  ⟨"ACC_MSLOT_PCT", 0x804004, [(256, 64), (32, 8)], [ACC_MSLOT_PCT_PCT_LO, ACC_MSLOT_PCT_PCT_MID, ACC_MSLOT_PCT_PCT_HI]⟩,
  ⟨"ACC_MSLOT_ABS", 0x804008, [(256, 64), (32, 8)], [ACC_MSLOT_ABS_ABS_LO, ACC_MSLOT_ABS_ABS_HI]⟩,
  ⟨"ACC_MSLOT_MID", 0x80400C, [(256, 64), (32, 8)], [ACC_MSLOT_MID_ABS_MID]⟩,
  ⟨"ACC_MSLOT_GOFS", 0x804010, [(256, 64), (32, 8)], [ACC_MSLOT_GOFS_GATE_OFS]⟩,
  ⟨"ACC_MSLOT_GLEN", 0x804014, [(256, 64), (32, 8)], [ACC_MSLOT_GLEN_GATE_LEN]⟩,
  ⟨"ACC_MSLOT_REF", 0x804018, [(256, 64), (32, 8)], [ACC_MSLOT_REF_LOW, ACC_MSLOT_REF_HIGH]⟩,
  ⟨"GEN_CFG", 0x900000, [(256, 8)], [GEN_CFG_PARK, GEN_CFG_UNDERRUN_POLICY, GEN_CFG_GUARD_EN, GEN_CFG_TRIG_SID]⟩,
  ⟨"GEN_MK", 0x900004, [(256, 8)], [GEN_MK_MK_WIDTH]⟩,
  ⟨"GEN_STAT", 0x900008, [(256, 8)], [GEN_STAT_STATE, GEN_STAT_ENTRY, GEN_STAT_UNDERRUN, GEN_STAT_JUMP_PENDING, GEN_STAT_WAITING, GEN_STAT_RAMPING, GEN_STAT_TRIP_GUARD, GEN_STAT_CAUSE]⟩,
  ⟨"GEN_LOOP", 0x90000C, [(256, 8)], [GEN_LOOP_PASS]⟩,
  ⟨"GEN_SAMP_LO", 0x900010, [(256, 8)], [GEN_SAMP]⟩,
  ⟨"GEN_SAMP_HI", 0x900014, [(256, 8)], [GEN_SAMP_SH]⟩]

/-- Registers of this file, part 3. -/
def regsBTable3 : List Reg := [
  ⟨"GEN_UNDER_LO", 0x900018, [(256, 8)], [GEN_UNDER]⟩,
  ⟨"GEN_UNDER_HI", 0x90001C, [(256, 8)], [GEN_UNDER_SH]⟩,
  ⟨"GEN_ADV_LO", 0x900068, [(256, 8)], [GEN_ADV]⟩,
  ⟨"GEN_ADV_HI", 0x90006C, [(256, 8)], [GEN_ADV_SH]⟩,
  ⟨"GEN_CNT", 0x900020, [(256, 8)], [GEN_CNT_UNDERRUNS, GEN_CNT_TRIG_IGN]⟩,
  ⟨"GEN_SKEW", 0x900024, [(256, 8)], [GEN_SKEW_FRAC, GEN_SKEW_INT]⟩,
  ⟨"GEN_LB_DLY", 0x900028, [(256, 8)], [GEN_LB_DLY_LB_DLY]⟩,
  ⟨"GEN_STG_AREA", 0x90002C, [(256, 8)], [GEN_STG_AREA_AREA, GEN_STG_AREA_BOUND]⟩,
  ⟨"GEN_STG_WMARK", 0x900030, [(256, 8)], [GEN_STG_WMARK_BYTES]⟩,
  ⟨"GEN_STG_RESUME", 0x900034, [(256, 8)], [GEN_STG_RESUME_BYTES]⟩,
  ⟨"GEN_STG_FILL", 0x900038, [(256, 8)], [GEN_STG_FILL_BYTES]⟩,
  ⟨"GEN_STG_PRIME", 0x90003C, [(256, 8)], [GEN_STG_PRIME_BYTES]⟩,
  ⟨"GEN_GUARD", 0x900040, [(256, 8), (4, 8)], [GEN_GUARD_SID, GEN_GUARD_TRIP_LEVEL, GEN_GUARD_EN]⟩,
  ⟨"GEN_GUARD_RAMP", 0x900060, [(256, 8)], [GEN_GUARD_RAMP_RAMP_US]⟩,
  ⟨"GEN_FIRST", 0x900064, [(256, 8)], [GEN_FIRST_FIRST]⟩,
  ⟨"GEN_SR", 0x901000, [(4, 16)], [GEN_SR_GEN_MASK, GEN_SR_REF]⟩]

/-- Every register of this file. -/
def regsBAll : List Reg := regsBTable0 ++ regsBTable1 ++ regsBTable2 ++ regsBTable3

end Sys2Proof.Machine
end

