-- ==== Sys2Proof/Machine/RegsC.lean ====
section
/-! DEFINITION. The register fields of the housekeeping (HKC), memory (MEM) and host interface (HIF) blocks,
as their register tables give them. -/
namespace Sys2Proof.Machine

/-- The default source of step `k` of the default sequence of a housekeeping converter (Table 9.3). -/
def hkDefaultSrc (ix : List Nat) : Nat :=
  match ix with
  | [0, k] => if k < 14 then 24 + k else 0
  | [1, k] => if k < 8 then 16 + k else 0
  | _ => 0

/-- HIF_Q_CFG.TYPE, which follows from the queue id (Table 11.4). -/
def queueType (q : Nat) : Nat :=
  if q = 0 then 1 else if q = 1 then 2
  else if q < 128 then (if q % 2 = 0 then 3 else 4)
  else if q < 256 then 5 else if q < 384 then 6 else if q < 392 then 7 else if q < 408 then 8 else 0

def HKC_CFG_EN : Fld := { base := 0xA00000, dims := [(512, 2)], lsb := 0, width := 1, acc := .ro, by_ := 63, rst := fun _ => 1 }
def HKC_CFG_LOWPWR : Fld := { base := 0xA00000, dims := [(512, 2)], lsb := 1, width := 1, acc := .ro, by_ := 63 }
def HKC_CFG_NSTEPS : Fld := { base := 0xA00000, dims := [(512, 2)], lsb := 2, width := 4, acc := .ro, by_ := 63, rst := fun ix => if ix.headD 0 = 0 then 13 else 7 }
def HKC_CFG_FORCED_LP : Fld := { base := 0xA00000, dims := [(512, 2)], lsb := 6, width := 1, acc := .ro, by_ := 63 }
def HKA_DATA_RESULT : Fld := { base := 0xA00004, dims := [], lsb := 0, width := 20, acc := .ro, by_ := 63 }
def HKA_DATA_SRC : Fld := { base := 0xA00004, dims := [], lsb := 20, width := 6, acc := .ro, by_ := 63 }
def HKA_DATA_SEQ : Fld := { base := 0xA00004, dims := [], lsb := 26, width := 4, acc := .ro, by_ := 63 }
def HKA_DATA_URG : Fld := { base := 0xA00004, dims := [], lsb := 30, width := 1, acc := .ro, by_ := 63 }
def HKA_DATA_OVR : Fld := { base := 0xA00004, dims := [], lsb := 31, width := 1, acc := .rc, by_ := 63 }
def HKB_DATA_RESULT : Fld := { base := 0xA00204, dims := [], lsb := 0, width := 20, acc := .ro, by_ := 63 }
def HKB_DATA_SRC : Fld := { base := 0xA00204, dims := [], lsb := 20, width := 6, acc := .ro, by_ := 63 }
def HKB_DATA_SEQ : Fld := { base := 0xA00204, dims := [], lsb := 26, width := 4, acc := .ro, by_ := 63 }
def HKB_DATA_URG : Fld := { base := 0xA00204, dims := [], lsb := 30, width := 1, acc := .ro, by_ := 63 }
def HKB_DATA_OVR : Fld := { base := 0xA00204, dims := [], lsb := 31, width := 1, acc := .rc, by_ := 63 }
def HKC_STAT_STATE : Fld := { base := 0xA00008, dims := [(512, 2)], lsb := 0, width := 2, acc := .ro, by_ := 63 }
def HKC_STAT_STEP : Fld := { base := 0xA00008, dims := [(512, 2)], lsb := 2, width := 4, acc := .ro, by_ := 63 }
def HKC_STAT_URG_PEND : Fld := { base := 0xA00008, dims := [(512, 2)], lsb := 6, width := 1, acc := .ro, by_ := 63 }
def HKC_STAT_LIMIT : Fld := { base := 0xA00008, dims := [(512, 2)], lsb := 7, width := 16, acc := .ro, by_ := 63 }
def HKC_CNT_URG_LOST : Fld := { base := 0xA0000C, dims := [(512, 2)], lsb := 0, width := 8, acc := .rc, by_ := 63 }
def HKC_CNT_VMISS : Fld := { base := 0xA0000C, dims := [(512, 2)], lsb := 8, width := 12, acc := .rc, by_ := 63 }
def HKC_CNT_VSKIP : Fld := { base := 0xA0000C, dims := [(512, 2)], lsb := 20, width := 12, acc := .rc, by_ := 63 }
def HKC_CAL_OFFSET : Fld := { base := 0xA00010, dims := [(512, 2)], lsb := 0, width := 16, acc := .rwh, by_ := 3 }
def HKC_CAL_GAIN : Fld := { base := 0xA00010, dims := [(512, 2)], lsb := 16, width := 16, acc := .rwh, by_ := 3 }
def HKC_VCHK_TOL_VCHK_TOL : Fld := { base := 0xA00014, dims := [], lsb := 0, width := 16, acc := .rwh, by_ := 3, rst := fun _ => 64 }
def HKC_STEP_CFG_SRC : Fld := { base := 0xA00100, dims := [(512, 2), (16, 16)], lsb := 0, width := 6, acc := .ro, by_ := 63, rst := hkDefaultSrc }
def HKC_STEP_CFG_AVG_N : Fld := { base := 0xA00100, dims := [(512, 2), (16, 16)], lsb := 6, width := 9, acc := .ro, by_ := 63, rst := fun _ => 16 }
def HKC_STEP_CFG_SHIFT : Fld := { base := 0xA00100, dims := [(512, 2), (16, 16)], lsb := 15, width := 4, acc := .ro, by_ := 63, rst := fun _ => 4 }
def HKC_STEP_CFG_DATA_EN : Fld := { base := 0xA00100, dims := [(512, 2), (16, 16)], lsb := 19, width := 1, acc := .ro, by_ := 63 }
def HKC_STEP_CFG_LIM_MODE : Fld := { base := 0xA00100, dims := [(512, 2), (16, 16)], lsb := 20, width := 2, acc := .ro, by_ := 63 }
def HKC_STEP_CFG_LIM_URG : Fld := { base := 0xA00100, dims := [(512, 2), (16, 16)], lsb := 22, width := 1, acc := .ro, by_ := 63 }
def HKC_STEP_CFG_URG_SRC : Fld := { base := 0xA00100, dims := [(512, 2), (16, 16)], lsb := 23, width := 6, acc := .ro, by_ := 63 }
def HKC_STEP_CFG_LIM_EVT : Fld := { base := 0xA00100, dims := [(512, 2), (16, 16)], lsb := 29, width := 1, acc := .ro, by_ := 63 }
def HKC_STEP_HI_VALUE : Fld := { base := 0xA00104, dims := [(512, 2), (16, 16)], lsb := 0, width := 20, acc := .ro, by_ := 63, rst := fun _ => 0xFFFFF }
def HKC_STEP_LO_VALUE : Fld := { base := 0xA00108, dims := [(512, 2), (16, 16)], lsb := 0, width := 20, acc := .ro, by_ := 63 }
def HKC_STEP_HYST_VALUE : Fld := { base := 0xA0010C, dims := [(512, 2), (16, 16)], lsb := 0, width := 20, acc := .ro, by_ := 63 }
def MEM_CFG_RATE : Fld := { base := 0xB00000, dims := [], lsb := 0, width := 2, acc := .ro, by_ := 35 }
def MEM_CFG_DENSITY : Fld := { base := 0xB00000, dims := [], lsb := 2, width := 2, acc := .ro, by_ := 35 }
def MEM_CFG_RANKS : Fld := { base := 0xB00000, dims := [], lsb := 4, width := 2, acc := .ro, by_ := 35 }
def MEM_CFG_SPARE_EN : Fld := { base := 0xB00000, dims := [], lsb := 6, width := 1, acc := .ro, by_ := 35 }
def MEM_CFG_REF_MODE : Fld := { base := 0xB00000, dims := [], lsb := 7, width := 1, acc := .ro, by_ := 35, rst := fun _ => 1 }
def MEM_CFG_RFM_EN : Fld := { base := 0xB00000, dims := [], lsb := 8, width := 1, acc := .ro, by_ := 35 }
def MEM_STAT_STATE : Fld := { base := 0xB00004, dims := [], lsb := 0, width := 3, acc := .ro, by_ := 35 }
def MEM_STAT_VFAIL : Fld := { base := 0xB00004, dims := [], lsb := 8, width := 16, acc := .ro, by_ := 35 }
def MEM_RT_LIMIT_LIMIT : Fld := { base := 0xB00008, dims := [], lsb := 0, width := 20, acc := .ro, by_ := 35, rst := fun _ => 225000 }
def MEM_AGE_AGE : Fld := { base := 0xB00010, dims := [(4, 4)], lsb := 0, width := 16, acc := .ro, by_ := 63, rst := fun ix => [20, 200, 1000, 10000].getD (ix.headD 0) 0 }
def MEM_RH_CFG_THRESH : Fld := { base := 0xB00020, dims := [], lsb := 0, width := 16, acc := .ro, by_ := 35, rst := fun _ => 2048 }
def MEM_ADJ_COND : Fld := { base := 0xB00030, dims := [(4, 4)], lsb := 0, width := 5, acc := .ro, by_ := 35, rst := fun _ => 31 }
def MEM_ADJ_MASK : Fld := { base := 0xB00030, dims := [(4, 4)], lsb := 5, width := 17, acc := .ro, by_ := 35 }
def MEM_SCRUB_CFG_HOURS : Fld := { base := 0xB00040, dims := [], lsb := 0, width := 8, acc := .ro, by_ := 35, rst := fun _ => 24 }
def MEM_SCRUB_CFG_RUNNING : Fld := { base := 0xB00040, dims := [], lsb := 8, width := 1, acc := .ro, by_ := 35 }
def MEM_SR_CFG_IDLE_US : Fld := { base := 0xB00044, dims := [], lsb := 0, width := 16, acc := .ro, by_ := 63 }
def MEM_PASR_MASK : Fld := { base := 0xB00048, dims := [], lsb := 0, width := 32, acc := .ro, by_ := 35, rst := fun _ => 4294967295 }
def MEM_MC_STAT_RANK_ST : Fld := { base := 0xB01000, dims := [(64, 16)], lsb := 0, width := 8, acc := .ro, by_ := 35 }
def MEM_MC_STAT_MIG : Fld := { base := 0xB01000, dims := [(64, 16)], lsb := 8, width := 1, acc := .ro, by_ := 35 }
def MEM_MC_STAT_MIG_RANK : Fld := { base := 0xB01000, dims := [(64, 16)], lsb := 9, width := 2, acc := .ro, by_ := 35 }
def MEM_MC_STAT_SPARE_USED : Fld := { base := 0xB01000, dims := [(64, 16)], lsb := 11, width := 1, acc := .ro, by_ := 35 }
def MEM_MC_STAT_SPARE_FOR : Fld := { base := 0xB01000, dims := [(64, 16)], lsb := 12, width := 2, acc := .ro, by_ := 35 }
def MEM_MC_STAT_SR : Fld := { base := 0xB01000, dims := [(64, 16)], lsb := 14, width := 1, acc := .ro, by_ := 35 }
def MEM_MC_STAT_BACKLOG : Fld := { base := 0xB01000, dims := [(64, 16)], lsb := 16, width := 4, acc := .ro, by_ := 35 }
def MEM_MC_MIG_POINTER : Fld := { base := 0xB01004, dims := [(64, 16)], lsb := 0, width := 29, acc := .ro, by_ := 35 }
def MEM_MC_CE_COUNT : Fld := { base := 0xB01008, dims := [(64, 16)], lsb := 0, width := 32, acc := .rc, by_ := 35 }
def MEM_MC_UE_COUNT : Fld := { base := 0xB0100C, dims := [(64, 16)], lsb := 0, width := 32, acc := .rc, by_ := 35 }
def MEM_MC_NBR_NBR : Fld := { base := 0xB01010, dims := [(64, 16)], lsb := 0, width := 16, acc := .rc, by_ := 35 }
def MEM_MC_NBR_RFM : Fld := { base := 0xB01010, dims := [(64, 16)], lsb := 16, width := 16, acc := .rc, by_ := 35 }
def MEM_MC_FORCED_FORCED : Fld := { base := 0xB01014, dims := [(64, 16)], lsb := 0, width := 32, acc := .rc, by_ := 35 }
def MEM_MC_ERR : Fld := { base := 0xB01018, dims := [(64, 16)], lsb := 0, width := 40, acc := .rl, by_ := 35 }
def MEM_MC_ERR_SH : Fld := { base := 0xB0101C, dims := [(64, 16)], lsb := 0, width := 8, acc := .ro, by_ := 35 }
/-- Beside the shadowed ADDR[39:32]: R8 shadows only the upper 32 bits of the quantity, and leaves open whether DEVICE is latched
with them; the model reads it live (DESIGN CHOICE, assumption 142). -/
def MEM_MC_ERR_HI_DEVICE : Fld := { base := 0xB0101C, dims := [(64, 16)], lsb := 8, width := 3, acc := .ro, by_ := 35, rst := fun _ => 7 }
def MEM_AREA_CFG_TYPE : Fld := { base := 0xB04000, dims := [(16, 256)], lsb := 0, width := 3, acc := .ro, by_ := 35 }
def MEM_AREA_CFG_INVALID : Fld := { base := 0xB04000, dims := [(16, 256)], lsb := 3, width := 1, acc := .ro, by_ := 35 }
def MEM_AREA_BASE_VALUE : Fld := { base := 0xB04004, dims := [(16, 256)], lsb := 0, width := 25, acc := .ro, by_ := 35 }
def MEM_AREA_SIZE_VALUE : Fld := { base := 0xB04008, dims := [(16, 256)], lsb := 0, width := 25, acc := .ro, by_ := 35 }
def MEM_AREA_PCNT_VALUE : Fld := { base := 0xB0400C, dims := [(16, 256)], lsb := 0, width := 25, acc := .ro, by_ := 35 }
def MEM_DLY_WR_DLY : Fld := { base := 0xB08000, dims := [(1024, 16), (64, 4), (4, 5)], lsb := 0, width := 10, acc := .rw, by_ := 35 }
def MEM_DLY_RD_DLY : Fld := { base := 0xB08000, dims := [(1024, 16), (64, 4), (4, 5)], lsb := 10, width := 10, acc := .rw, by_ := 35 }
def MEM_DLY_GATE : Fld := { base := 0xB08000, dims := [(1024, 16), (64, 4), (4, 5)], lsb := 20, width := 11, acc := .rw, by_ := 35 }
def MEM_CA_DLY_CA : Fld := { base := 0xB08014, dims := [(1024, 16), (64, 4)], lsb := 0, width := 10, acc := .rw, by_ := 35 }
def MEM_CA_DLY_CS : Fld := { base := 0xB08014, dims := [(1024, 16), (64, 4)], lsb := 10, width := 10, acc := .rw, by_ := 35 }
def HIF_ID_PART : Fld := { base := 0x0, dims := [], lsb := 0, width := 16, acc := .ro, by_ := 0, rst := fun _ => 25632 }
def HIF_ID_VARIANT : Fld := { base := 0x0, dims := [], lsb := 16, width := 4, acc := .ro, by_ := 0 }
def HIF_ID_REVISION : Fld := { base := 0x0, dims := [], lsb := 20, width := 8, acc := .ro, by_ := 0 }
def HIF_LINK_SPEED : Fld := { base := 0x4, dims := [], lsb := 0, width := 4, acc := .ro, by_ := 7 }
def HIF_LINK_WIDTH : Fld := { base := 0x4, dims := [], lsb := 4, width := 5, acc := .ro, by_ := 7 }
def HIF_LINK_L1 : Fld := { base := 0x4, dims := [], lsb := 9, width := 1, acc := .ro, by_ := 7 }
def HIF_DEV_STATE : Fld := { base := 0x8, dims := [], lsb := 0, width := 2, acc := .ro, by_ := 63 }
def HIF_DEV_STAGE : Fld := { base := 0x8, dims := [], lsb := 2, width := 4, acc := .ro, by_ := 63 }
def HIF_CTL_ADMIN_EN : Fld := { base := 0xC, dims := [], lsb := 0, width := 1, acc := .rw, by_ := 63 }
def HIF_ALERT_STAT_HOOP_STATE : Fld := { base := 0x10, dims := [], lsb := 0, width := 1, acc := .w1c, by_ := 3 }
def HIF_ALERT_STAT_HOOP_BROKEN : Fld := { base := 0x10, dims := [], lsb := 1, width := 1, acc := .ro, by_ := 3 }
def HIF_ALERT_STAT_AUDIT_FULL : Fld := { base := 0x10, dims := [], lsb := 2, width := 1, acc := .ro, by_ := 3 }
def HIF_ALERT_STAT_PAIR_TAKEOVER : Fld := { base := 0x10, dims := [], lsb := 3, width := 1, acc := .w1c, by_ := 3 }
def HIF_ALERT_STAT_PAIR_LINK : Fld := { base := 0x10, dims := [], lsb := 4, width := 1, acc := .ro, by_ := 3 }
def HIF_ALERT_STAT_PAIR_DIVERGE : Fld := { base := 0x10, dims := [], lsb := 5, width := 1, acc := .w1c, by_ := 3 }
def HIF_ALERT_MASK_HOOP_STATE : Fld := { base := 0x14, dims := [], lsb := 0, width := 1, acc := .rw, by_ := 3, rst := fun _ => 1 }
def HIF_ALERT_MASK_HOOP_BROKEN : Fld := { base := 0x14, dims := [], lsb := 1, width := 1, acc := .rw, by_ := 3, rst := fun _ => 1 }
def HIF_ALERT_MASK_AUDIT_FULL : Fld := { base := 0x14, dims := [], lsb := 2, width := 1, acc := .rw, by_ := 3, rst := fun _ => 1 }
def HIF_ALERT_MASK_PAIR_TAKEOVER : Fld := { base := 0x14, dims := [], lsb := 3, width := 1, acc := .rw, by_ := 3, rst := fun _ => 1 }
def HIF_ALERT_MASK_PAIR_LINK : Fld := { base := 0x14, dims := [], lsb := 4, width := 1, acc := .rw, by_ := 3, rst := fun _ => 1 }
def HIF_ALERT_MASK_PAIR_DIVERGE : Fld := { base := 0x14, dims := [], lsb := 5, width := 1, acc := .rw, by_ := 3, rst := fun _ => 1 }
def HIF_DB_ERR_COUNT : Fld := { base := 0x18, dims := [], lsb := 0, width := 16, acc := .rc, by_ := 63 }
def HIF_DB_ERR_QID : Fld := { base := 0x18, dims := [], lsb := 16, width := 9, acc := .ro, by_ := 63 }
def HIF_ACC_ERR_COUNT : Fld := { base := 0x1C, dims := [], lsb := 0, width := 32, acc := .rc, by_ := 63 }
def HIF_ADM_SQ_LO_BASE : Fld := { base := 0x20, dims := [], lsb := 0, width := 32, acc := .rw, by_ := 63 }
def HIF_ADM_SQ_HI_BASE : Fld := { base := 0x24, dims := [], lsb := 0, width := 32, acc := .rw, by_ := 63 }
def HIF_ADM_CQ_LO_BASE : Fld := { base := 0x28, dims := [], lsb := 0, width := 32, acc := .rw, by_ := 63 }
def HIF_ADM_CQ_HI_BASE : Fld := { base := 0x2C, dims := [], lsb := 0, width := 32, acc := .rw, by_ := 63 }
def HIF_ADM_SIZE_SQ_LOG2 : Fld := { base := 0x30, dims := [], lsb := 0, width := 4, acc := .rw, by_ := 63, rst := fun _ => 1 }
def HIF_ADM_SIZE_CQ_LOG2 : Fld := { base := 0x30, dims := [], lsb := 4, width := 4, acc := .rw, by_ := 63, rst := fun _ => 1 }
def HIF_EVT_ROUTE_QID : Fld := { base := 0x100, dims := [(4, 13)], lsb := 0, width := 9, acc := .ro, by_ := 63, rst := fun _ => 392 }
def HIF_EVT_ROUTE_DROPPED : Fld := { base := 0x100, dims := [(4, 13)], lsb := 16, width := 16, acc := .rc, by_ := 63 }
def HIF_Q_CFG_TYPE : Fld := { base := 0x1000, dims := [(64, 512)], lsb := 0, width := 4, acc := .ro, by_ := 0, rst := fun ix => queueType (ix.headD 0) }
def HIF_Q_CFG_CREATED : Fld := { base := 0x1000, dims := [(64, 512)], lsb := 4, width := 1, acc := .ro, by_ := 63 }
def HIF_Q_CFG_LOG2SIZE : Fld := { base := 0x1000, dims := [(64, 512)], lsb := 5, width := 5, acc := .ro, by_ := 63 }
def HIF_Q_CFG_IRQ_EN : Fld := { base := 0x1000, dims := [(64, 512)], lsb := 10, width := 1, acc := .ro, by_ := 63 }
def HIF_Q_CFG_NOSNOOP_OK : Fld := { base := 0x1000, dims := [(64, 512)], lsb := 11, width := 1, acc := .ro, by_ := 63 }
def HIF_Q_CFG_SLOT : Fld := { base := 0x1000, dims := [(64, 512)], lsb := 12, width := 2, acc := .ro, by_ := 63 }
def HIF_Q_BASE : Fld := { base := 0x1004, dims := [(64, 512)], lsb := 0, width := 64, acc := .rl, by_ := 63 }
def HIF_Q_BASE_SH : Fld := { base := 0x1008, dims := [(64, 512)], lsb := 0, width := 32, acc := .ro, by_ := 63 }
def HIF_Q_PTR_DEV_PTR : Fld := { base := 0x100C, dims := [(64, 512)], lsb := 0, width := 16, acc := .ro, by_ := 63 }
def HIF_Q_PTR_HOST_PTR : Fld := { base := 0x100C, dims := [(64, 512)], lsb := 16, width := 16, acc := .ro, by_ := 63 }
def HIF_Q_STAT_STALLED : Fld := { base := 0x1010, dims := [(64, 512)], lsb := 0, width := 1, acc := .ro, by_ := 63 }
def HIF_Q_STAT_BUS_ERR : Fld := { base := 0x1010, dims := [(64, 512)], lsb := 1, width := 1, acc := .ro, by_ := 63 }
def HIF_Q_STAT_SIZE_MISMATCH : Fld := { base := 0x1010, dims := [(64, 512)], lsb := 2, width := 1, acc := .ro, by_ := 63 }
def HIF_Q_STAT_FULL : Fld := { base := 0x1010, dims := [(64, 512)], lsb := 3, width := 1, acc := .ro, by_ := 63 }
def HIF_Q_STAT_PHASE : Fld := { base := 0x1010, dims := [(64, 512)], lsb := 4, width := 1, acc := .ro, by_ := 63, rst := fun _ => 1 }
def HIF_Q_STAT_FAULT : Fld := { base := 0x1010, dims := [(64, 512)], lsb := 16, width := 16, acc := .ro, by_ := 63 }
def HIF_Q_COAL_COAL_COUNT : Fld := { base := 0x1014, dims := [(64, 512)], lsb := 0, width := 16, acc := .ro, by_ := 63, rst := fun _ => 1 }
def HIF_Q_COAL_COAL_TIME : Fld := { base := 0x1014, dims := [(64, 512)], lsb := 16, width := 16, acc := .ro, by_ := 63 }
def HIF_Q_CNT_ENTRIES : Fld := { base := 0x1018, dims := [(64, 512)], lsb := 0, width := 32, acc := .rc, by_ := 63 }
def HIF_Q_LOST_LOST : Fld := { base := 0x101C, dims := [(64, 512)], lsb := 0, width := 32, acc := .rc, by_ := 63 }
def HIF_DB_VALUE : Fld := { base := 0x10000000, dims := [(64, 512)], lsb := 0, width := 16, acc := .rw, by_ := 63 }
def HIF_DB_DEV_PTR : Fld := { base := 0x10000000, dims := [(64, 512)], lsb := 16, width := 16, acc := .ro, by_ := 63 }

/-- Registers of this file, part 0. -/
def regsCTable0 : List Reg := [
  ⟨"HKC_CFG", 0xA00000, [(512, 2)], [HKC_CFG_EN, HKC_CFG_LOWPWR, HKC_CFG_NSTEPS, HKC_CFG_FORCED_LP]⟩,
  ⟨"HKA_DATA", 0xA00004, [], [HKA_DATA_RESULT, HKA_DATA_SRC, HKA_DATA_SEQ, HKA_DATA_URG, HKA_DATA_OVR]⟩,
  ⟨"HKB_DATA", 0xA00204, [], [HKB_DATA_RESULT, HKB_DATA_SRC, HKB_DATA_SEQ, HKB_DATA_URG, HKB_DATA_OVR]⟩,
  ⟨"HKC_STAT", 0xA00008, [(512, 2)], [HKC_STAT_STATE, HKC_STAT_STEP, HKC_STAT_URG_PEND, HKC_STAT_LIMIT]⟩,
  ⟨"HKC_CNT", 0xA0000C, [(512, 2)], [HKC_CNT_URG_LOST, HKC_CNT_VMISS, HKC_CNT_VSKIP]⟩,
  ⟨"HKC_CAL", 0xA00010, [(512, 2)], [HKC_CAL_OFFSET, HKC_CAL_GAIN]⟩,
  ⟨"HKC_VCHK_TOL", 0xA00014, [], [HKC_VCHK_TOL_VCHK_TOL]⟩,
  ⟨"HKC_STEP_CFG", 0xA00100, [(512, 2), (16, 16)], [HKC_STEP_CFG_SRC, HKC_STEP_CFG_AVG_N, HKC_STEP_CFG_SHIFT, HKC_STEP_CFG_DATA_EN, HKC_STEP_CFG_LIM_MODE, HKC_STEP_CFG_LIM_URG, HKC_STEP_CFG_URG_SRC, HKC_STEP_CFG_LIM_EVT]⟩,
  ⟨"HKC_STEP_HI", 0xA00104, [(512, 2), (16, 16)], [HKC_STEP_HI_VALUE]⟩,
  ⟨"HKC_STEP_LO", 0xA00108, [(512, 2), (16, 16)], [HKC_STEP_LO_VALUE]⟩,
  ⟨"HKC_STEP_HYST", 0xA0010C, [(512, 2), (16, 16)], [HKC_STEP_HYST_VALUE]⟩,
  ⟨"MEM_CFG", 0xB00000, [], [MEM_CFG_RATE, MEM_CFG_DENSITY, MEM_CFG_RANKS, MEM_CFG_SPARE_EN, MEM_CFG_REF_MODE, MEM_CFG_RFM_EN]⟩,
  ⟨"MEM_STAT", 0xB00004, [], [MEM_STAT_STATE, MEM_STAT_VFAIL]⟩,
  ⟨"MEM_RT_LIMIT", 0xB00008, [], [MEM_RT_LIMIT_LIMIT]⟩,
  ⟨"MEM_AGE", 0xB00010, [(4, 4)], [MEM_AGE_AGE]⟩,
  ⟨"MEM_RH_CFG", 0xB00020, [], [MEM_RH_CFG_THRESH]⟩,
  ⟨"MEM_ADJ", 0xB00030, [(4, 4)], [MEM_ADJ_COND, MEM_ADJ_MASK]⟩,
  ⟨"MEM_SCRUB_CFG", 0xB00040, [], [MEM_SCRUB_CFG_HOURS, MEM_SCRUB_CFG_RUNNING]⟩,
  ⟨"MEM_SR_CFG", 0xB00044, [], [MEM_SR_CFG_IDLE_US]⟩,
  ⟨"MEM_PASR", 0xB00048, [], [MEM_PASR_MASK]⟩,
  ⟨"MEM_MC_STAT", 0xB01000, [(64, 16)], [MEM_MC_STAT_RANK_ST, MEM_MC_STAT_MIG, MEM_MC_STAT_MIG_RANK, MEM_MC_STAT_SPARE_USED, MEM_MC_STAT_SPARE_FOR, MEM_MC_STAT_SR, MEM_MC_STAT_BACKLOG]⟩,
  ⟨"MEM_MC_MIG", 0xB01004, [(64, 16)], [MEM_MC_MIG_POINTER]⟩,
  ⟨"MEM_MC_CE", 0xB01008, [(64, 16)], [MEM_MC_CE_COUNT]⟩,
  ⟨"MEM_MC_UE", 0xB0100C, [(64, 16)], [MEM_MC_UE_COUNT]⟩]

/-- Registers of this file, part 1. -/
def regsCTable1 : List Reg := [
  ⟨"MEM_MC_NBR", 0xB01010, [(64, 16)], [MEM_MC_NBR_NBR, MEM_MC_NBR_RFM]⟩,
  ⟨"MEM_MC_FORCED", 0xB01014, [(64, 16)], [MEM_MC_FORCED_FORCED]⟩,
  ⟨"MEM_MC_ERR_LO", 0xB01018, [(64, 16)], [MEM_MC_ERR]⟩,
  ⟨"MEM_MC_ERR_HI", 0xB0101C, [(64, 16)], [MEM_MC_ERR_SH, MEM_MC_ERR_HI_DEVICE]⟩,
  ⟨"MEM_AREA_CFG", 0xB04000, [(16, 256)], [MEM_AREA_CFG_TYPE, MEM_AREA_CFG_INVALID]⟩,
  ⟨"MEM_AREA_BASE", 0xB04004, [(16, 256)], [MEM_AREA_BASE_VALUE]⟩,
  ⟨"MEM_AREA_SIZE", 0xB04008, [(16, 256)], [MEM_AREA_SIZE_VALUE]⟩,
  ⟨"MEM_AREA_PCNT", 0xB0400C, [(16, 256)], [MEM_AREA_PCNT_VALUE]⟩,
  ⟨"MEM_DLY", 0xB08000, [(1024, 16), (64, 4), (4, 5)], [MEM_DLY_WR_DLY, MEM_DLY_RD_DLY, MEM_DLY_GATE]⟩,
  ⟨"MEM_CA_DLY", 0xB08014, [(1024, 16), (64, 4)], [MEM_CA_DLY_CA, MEM_CA_DLY_CS]⟩,
  ⟨"HIF_ID", 0x0, [], [HIF_ID_PART, HIF_ID_VARIANT, HIF_ID_REVISION]⟩,
  ⟨"HIF_LINK", 0x4, [], [HIF_LINK_SPEED, HIF_LINK_WIDTH, HIF_LINK_L1]⟩,
  ⟨"HIF_DEV", 0x8, [], [HIF_DEV_STATE, HIF_DEV_STAGE]⟩,
  ⟨"HIF_CTL", 0xC, [], [HIF_CTL_ADMIN_EN]⟩,
  ⟨"HIF_ALERT_STAT", 0x10, [], [HIF_ALERT_STAT_HOOP_STATE, HIF_ALERT_STAT_HOOP_BROKEN, HIF_ALERT_STAT_AUDIT_FULL, HIF_ALERT_STAT_PAIR_TAKEOVER, HIF_ALERT_STAT_PAIR_LINK, HIF_ALERT_STAT_PAIR_DIVERGE]⟩,
  ⟨"HIF_ALERT_MASK", 0x14, [], [HIF_ALERT_MASK_HOOP_STATE, HIF_ALERT_MASK_HOOP_BROKEN, HIF_ALERT_MASK_AUDIT_FULL, HIF_ALERT_MASK_PAIR_TAKEOVER, HIF_ALERT_MASK_PAIR_LINK, HIF_ALERT_MASK_PAIR_DIVERGE]⟩,
  ⟨"HIF_DB_ERR", 0x18, [], [HIF_DB_ERR_COUNT, HIF_DB_ERR_QID]⟩,
  ⟨"HIF_ACC_ERR", 0x1C, [], [HIF_ACC_ERR_COUNT]⟩,
  ⟨"HIF_ADM_SQ_LO", 0x20, [], [HIF_ADM_SQ_LO_BASE]⟩,
  ⟨"HIF_ADM_SQ_HI", 0x24, [], [HIF_ADM_SQ_HI_BASE]⟩,
  ⟨"HIF_ADM_CQ_LO", 0x28, [], [HIF_ADM_CQ_LO_BASE]⟩,
  ⟨"HIF_ADM_CQ_HI", 0x2C, [], [HIF_ADM_CQ_HI_BASE]⟩,
  ⟨"HIF_ADM_SIZE", 0x30, [], [HIF_ADM_SIZE_SQ_LOG2, HIF_ADM_SIZE_CQ_LOG2]⟩,
  ⟨"HIF_EVT_ROUTE", 0x100, [(4, 13)], [HIF_EVT_ROUTE_QID, HIF_EVT_ROUTE_DROPPED]⟩]

/-- Registers of this file, part 2. -/
def regsCTable2 : List Reg := [
  ⟨"HIF_Q_CFG", 0x1000, [(64, 512)], [HIF_Q_CFG_TYPE, HIF_Q_CFG_CREATED, HIF_Q_CFG_LOG2SIZE, HIF_Q_CFG_IRQ_EN, HIF_Q_CFG_NOSNOOP_OK, HIF_Q_CFG_SLOT]⟩,
  ⟨"HIF_Q_BASE_LO", 0x1004, [(64, 512)], [HIF_Q_BASE]⟩,
  ⟨"HIF_Q_BASE_HI", 0x1008, [(64, 512)], [HIF_Q_BASE_SH]⟩,
  ⟨"HIF_Q_PTR", 0x100C, [(64, 512)], [HIF_Q_PTR_DEV_PTR, HIF_Q_PTR_HOST_PTR]⟩,
  ⟨"HIF_Q_STAT", 0x1010, [(64, 512)], [HIF_Q_STAT_STALLED, HIF_Q_STAT_BUS_ERR, HIF_Q_STAT_SIZE_MISMATCH, HIF_Q_STAT_FULL, HIF_Q_STAT_PHASE, HIF_Q_STAT_FAULT]⟩,
  ⟨"HIF_Q_COAL", 0x1014, [(64, 512)], [HIF_Q_COAL_COAL_COUNT, HIF_Q_COAL_COAL_TIME]⟩,
  ⟨"HIF_Q_CNT", 0x1018, [(64, 512)], [HIF_Q_CNT_ENTRIES]⟩,
  ⟨"HIF_Q_LOST", 0x101C, [(64, 512)], [HIF_Q_LOST_LOST]⟩,
  ⟨"HIF_DB", 0x10000000, [(64, 512)], [HIF_DB_VALUE, HIF_DB_DEV_PTR]⟩]

/-- Every register of this file. -/
def regsCAll : List Reg := regsCTable0 ++ regsCTable1 ++ regsCTable2

end Sys2Proof.Machine
end

