-- ==== Sys2Proof/Machine/RegsD.lean ====
section
/-! DEFINITION. The register fields of the DMA, HOOP, TWL, FLT, BOOT and PWR blocks,
as their register tables give them. -/
namespace Sys2Proof.Machine
/-- Table 15.1, by fault source: window length, its unit (0 stitches, 1 ms), threshold, default action (Table 15.2:
1 LOG, 2 EVENT, 4 SPARE). -/
def FLT_TABLE : List (Nat × Nat × Nat × Nat) :=
  [(3600000, 1, 3, 2), (3600000, 1, 2, 2), (3600000, 1, 3, 2), (3600000, 1, 5, 1), (3600000, 1, 1, 2),
   (3600000, 1, 1, 2), (86400000, 1, 1, 2), (86400000, 1, 1, 2), (1000, 1, 1024, 1), (3600000, 1, 1, 2),
   (1000, 1, 1024, 1), (3600000, 1, 1, 2), (86400000, 1, 1, 2), (60000, 1, 4, 2), (3600000, 1, 1, 2),
   (3600000, 1, 1, 2), (60000, 1, 4, 2), (60000, 1, 1, 2), (60000, 1, 8, 2), (60000, 1, 16, 1)]
  ++ List.replicate 16 (60000, 1, 256, 4)
  ++ [(3600000, 1, 1, 2), (1000, 1, 512, 1), (86400000, 1, 1, 2), (86400000, 1, 1, 2), (60000, 1, 4, 2),
   (60000, 1, 16, 1), (60000, 1, 1, 1), (1000, 1, 64, 1), (3600000, 1, 1, 2), (65536, 0, 16, 2),
   (1000, 1, 4, 1), (3600000, 1, 1, 2), (60000, 1, 1, 2), (60000, 1, 1, 1), (60000, 1, 1, 1),
   (3600000, 1, 1, 2), (3600000, 1, 1, 2)]
  ++ List.replicate 10 (3600000, 1, 3, 2) ++ [(60000, 1, 1, 1)]

/-- A row of Table 15.1 as the reset values of FLT_SRC_CFG and FLT_SRC_ACT take it: window length, unit, threshold and
action of each fault source. -/
def fltRow (k : Nat) : Nat × Nat × Nat × Nat := FLT_TABLE.getD k (0, 0, 0, 0)
def fltWlen (k : Nat) : Nat := (fltRow k).1
def fltWunit (k : Nat) : Nat := (fltRow k).2.1
def fltThresh (k : Nat) : Nat := (fltRow k).2.2.1
def fltAction (k : Nat) : Nat := (fltRow k).2.2.2

def DMA_CH_CFG_BOUND : Fld := { base := 0x100000, dims := [(64, 32)], lsb := 0, width := 1, acc := .ro, by_ := 63 }
def DMA_CH_CFG_LOG2SIZE : Fld := { base := 0x100000, dims := [(64, 32)], lsb := 1, width := 4, acc := .ro, by_ := 63 }
def DMA_CH_CFG_NOSNOOP_OK : Fld := { base := 0x100000, dims := [(64, 32)], lsb := 5, width := 1, acc := .ro, by_ := 63 }
def DMA_CH_CFG_RELAXED_OK : Fld := { base := 0x100000, dims := [(64, 32)], lsb := 6, width := 1, acc := .ro, by_ := 63 }
def DMA_CH_CTL_PAUSE : Fld := { base := 0x100004, dims := [(64, 32)], lsb := 0, width := 1, acc := .rw, by_ := 63 }
def DMA_CH_STAT_STATE : Fld := { base := 0x100008, dims := [(64, 32)], lsb := 0, width := 3, acc := .ro, by_ := 63 }
def DMA_CH_STAT_MEM_PAUSE : Fld := { base := 0x100008, dims := [(64, 32)], lsb := 3, width := 1, acc := .ro, by_ := 63 }
def DMA_CH_STAT_HEAD : Fld := { base := 0x100008, dims := [(64, 32)], lsb := 4, width := 12, acc := .ro, by_ := 63 }
def DMA_CH_STAT_FAULT : Fld := { base := 0x100008, dims := [(64, 32)], lsb := 16, width := 16, acc := .ro, by_ := 63 }
def DMA_CH_RING : Fld := { base := 0x10000C, dims := [(64, 32)], lsb := 0, width := 64, acc := .rl, by_ := 63 }
def DMA_CH_RING_SH : Fld := { base := 0x100010, dims := [(64, 32)], lsb := 0, width := 32, acc := .ro, by_ := 63 }
def DMA_CH_SRC : Fld := { base := 0x100014, dims := [(64, 32)], lsb := 0, width := 64, acc := .rl, by_ := 63 }
def DMA_CH_SRC_SH : Fld := { base := 0x100018, dims := [(64, 32)], lsb := 0, width := 32, acc := .ro, by_ := 63 }
def DMA_CH_DST : Fld := { base := 0x10001C, dims := [(64, 32)], lsb := 0, width := 64, acc := .rl, by_ := 63 }
def DMA_CH_DST_SH : Fld := { base := 0x100020, dims := [(64, 32)], lsb := 0, width := 32, acc := .ro, by_ := 63 }
def DMA_CH_LEFT : Fld := { base := 0x100024, dims := [(64, 32)], lsb := 0, width := 64, acc := .rl, by_ := 63 }
def DMA_CH_LEFT_SH : Fld := { base := 0x100028, dims := [(64, 32)], lsb := 0, width := 32, acc := .ro, by_ := 63 }
def DMA_CH_HOLD_BITS : Fld := { base := 0x10002C, dims := [(64, 32)], lsb := 0, width := 11, acc := .ro, by_ := 63 }
def DMA_CH_CNT_DONE : Fld := { base := 0x100030, dims := [(64, 32)], lsb := 0, width := 32, acc := .rc, by_ := 63 }
def DMA_DB_TAIL : Fld := { base := 0x100800, dims := [(4, 32)], lsb := 0, width := 12, acc := .rw, by_ := 63 }
def DMA_DB_HEAD : Fld := { base := 0x100800, dims := [(4, 32)], lsb := 16, width := 12, acc := .ro, by_ := 63 }
def DMA_STAT_HALTED : Fld := { base := 0x100C00, dims := [], lsb := 0, width := 1, acc := .ro, by_ := 63 }
def DMA_STAT_CAUSE : Fld := { base := 0x100C00, dims := [], lsb := 1, width := 3, acc := .ro, by_ := 63 }
def DMA_STAT_CH : Fld := { base := 0x100C00, dims := [], lsb := 4, width := 6, acc := .ro, by_ := 63, rst := fun _ => 63 }
def DMA_STAT_SPACE : Fld := { base := 0x100C00, dims := [], lsb := 10, width := 1, acc := .ro, by_ := 63 }
def DMA_ERR : Fld := { base := 0x100C04, dims := [], lsb := 0, width := 64, acc := .rl, by_ := 63 }
def DMA_ERR_SH : Fld := { base := 0x100C08, dims := [], lsb := 0, width := 32, acc := .ro, by_ := 63 }
def DMA_HALTS_COUNT : Fld := { base := 0x100C0C, dims := [], lsb := 0, width := 32, acc := .rc, by_ := 63 }
def HOOP_STAT_STATE : Fld := { base := 0xF00000, dims := [], lsb := 0, width := 2, acc := .ro, by_ := 3 }
def HOOP_STAT_STRAP : Fld := { base := 0xF00000, dims := [], lsb := 2, width := 1, acc := .ro, by_ := 3, rst := fun _ => 1 }
def HOOP_STAT_UNSEAL_PEND : Fld := { base := 0xF00000, dims := [], lsb := 3, width := 1, acc := .ro, by_ := 3 }
def HOOP_STAT_VARIANT : Fld := { base := 0xF00000, dims := [], lsb := 4, width := 4, acc := .ro, by_ := 0 }
def HOOP_STAT_DIRTY : Fld := { base := 0xF00000, dims := [], lsb := 8, width := 7, acc := .ro, by_ := 3 }
def HOOP_STAT_COMMIT_BUSY : Fld := { base := 0xF00000, dims := [], lsb := 15, width := 1, acc := .ro, by_ := 3 }
def HOOP_STAT_LOG_HIGH : Fld := { base := 0xF00000, dims := [], lsb := 16, width := 1, acc := .ro, by_ := 3 }
def HOOP_STAT_LOG_FULL : Fld := { base := 0xF00000, dims := [], lsb := 17, width := 1, acc := .ro, by_ := 3 }
def HOOP_STAT_FUSE_LOW : Fld := { base := 0xF00000, dims := [], lsb := 18, width := 1, acc := .ro, by_ := 3 }
def HOOP_STAT_FUSE_EXHAUSTED : Fld := { base := 0xF00000, dims := [], lsb := 19, width := 1, acc := .ro, by_ := 3 }
def HOOP_STAT_BROKEN_CAUSE : Fld := { base := 0xF00000, dims := [], lsb := 20, width := 4, acc := .ro, by_ := 3 }
def HOOP_DIGEST : Fld := { base := 0xF00004, dims := [], lsb := 0, width := 64, acc := .rl, by_ := 3 }
def HOOP_DIGEST_SH : Fld := { base := 0xF00008, dims := [], lsb := 0, width := 32, acc := .ro, by_ := 3 }
def HOOP_MEC_MEC : Fld := { base := 0xF0000C, dims := [], lsb := 0, width := 32, acc := .ro, by_ := 3 }
def HOOP_LOG_USED_USED : Fld := { base := 0xF00010, dims := [], lsb := 0, width := 14, acc := .ro, by_ := 3 }
def HOOP_LOG_USED_LOST : Fld := { base := 0xF00010, dims := [], lsb := 16, width := 16, acc := .ro, by_ := 3 }
def HOOP_LOG_BASE_BASE : Fld := { base := 0xF00014, dims := [], lsb := 0, width := 24, acc := .ro, by_ := 3 }
def HOOP_FUSE_FUSE_USED : Fld := { base := 0xF00018, dims := [], lsb := 0, width := 11, acc := .ro, by_ := 3 }
def HOOP_FUSE_EPOCH : Fld := { base := 0xF00018, dims := [], lsb := 16, width := 11, acc := .ro, by_ := 3 }
def HOOP_FW_VER_VERSION : Fld := { base := 0xF0001C, dims := [], lsb := 0, width := 32, acc := .ro, by_ := 3 }
def HOOP_STATE_T : Fld := { base := 0xF00020, dims := [], lsb := 0, width := 64, acc := .rl, by_ := 3 }
def HOOP_STATE_T_SH : Fld := { base := 0xF00024, dims := [], lsb := 0, width := 32, acc := .ro, by_ := 3 }
def HOOP_STATE_EP_EPOCH : Fld := { base := 0xF00028, dims := [], lsb := 0, width := 16, acc := .ro, by_ := 3 }
def HOOP_RGN : Fld := { base := 0xF00040, dims := [(8, 8)], lsb := 0, width := 64, acc := .rl, by_ := 3 }
def HOOP_RGN_SH : Fld := { base := 0xF00044, dims := [(8, 8)], lsb := 0, width := 32, acc := .ro, by_ := 3 }
def TWL_CFG_ALIVE_LINE : Fld := { base := 0xC00000, dims := [], lsb := 0, width := 3, acc := .ro, by_ := 63, rst := fun _ => 7 }
def TWL_CFG_SEC_MUTE : Fld := { base := 0xC00000, dims := [], lsb := 3, width := 1, acc := .ro, by_ := 63, rst := fun _ => 1 }
def TWL_CFG_TWIN_PERIOD : Fld := { base := 0xC00000, dims := [], lsb := 4, width := 8, acc := .ro, by_ := 63, rst := fun _ => 60 }
def TWL_CFG_DIV_TOL : Fld := { base := 0xC00000, dims := [], lsb := 16, width := 16, acc := .ro, by_ := 63, rst := fun _ => 500 }
def TWL_STAT_ROLE : Fld := { base := 0xC00004, dims := [], lsb := 0, width := 3, acc := .ro, by_ := 63 }
def TWL_STAT_STRAP_PRI : Fld := { base := 0xC00004, dims := [], lsb := 3, width := 1, acc := .ro, by_ := 3 }
def TWL_STAT_LANES : Fld := { base := 0xC00004, dims := [], lsb := 4, width := 4, acc := .ro, by_ := 63 }
def TWL_STAT_LINK_UP : Fld := { base := 0xC00004, dims := [], lsb := 8, width := 1, acc := .ro, by_ := 63 }
def TWL_STAT_PARTNER_ALIVE : Fld := { base := 0xC00004, dims := [], lsb := 9, width := 1, acc := .ro, by_ := 63 }
def TWL_STAT_RETRAIN : Fld := { base := 0xC00004, dims := [], lsb := 10, width := 1, acc := .ro, by_ := 63 }
def TWL_STAT_DESYNC : Fld := { base := 0xC00004, dims := [], lsb := 11, width := 1, acc := .ro, by_ := 63 }
def TWL_STAT_PARTNER_HOOP : Fld := { base := 0xC00004, dims := [], lsb := 12, width := 2, acc := .ro, by_ := 63 }
def TWL_MISS_CONSEC : Fld := { base := 0xC00008, dims := [], lsb := 0, width := 2, acc := .ro, by_ := 63 }
def TWL_MISS_TOTAL : Fld := { base := 0xC00008, dims := [], lsb := 8, width := 24, acc := .rc, by_ := 63 }
def TWL_LANE_ERR_SYNC_ERR : Fld := { base := 0xC00010, dims := [(4, 4)], lsb := 0, width := 32, acc := .rc, by_ := 63 }
def TWL_DIV_PRI_ONLY : Fld := { base := 0xC00020, dims := [], lsb := 0, width := 16, acc := .rc, by_ := 63 }
def TWL_DIV_SEC_ONLY : Fld := { base := 0xC00020, dims := [], lsb := 16, width := 16, acc := .rc, by_ := 63 }
def TWL_DT_OFS_OFS : Fld := { base := 0xC00024, dims := [], lsb := 0, width := 32, acc := .ro, by_ := 63 }
def TWL_PSEQ_PSEQ : Fld := { base := 0xC00028, dims := [], lsb := 0, width := 16, acc := .ro, by_ := 63 }
def TWL_TWIN : Fld := { base := 0xC00030, dims := [], lsb := 0, width := 64, acc := .rl, by_ := 63 }
def TWL_TWIN_SH : Fld := { base := 0xC00034, dims := [], lsb := 0, width := 32, acc := .ro, by_ := 63 }
def TWL_TWIN_PARTNER : Fld := { base := 0xC00038, dims := [], lsb := 0, width := 64, acc := .rl, by_ := 63 }
def TWL_TWIN_PARTNER_SH : Fld := { base := 0xC0003C, dims := [], lsb := 0, width := 32, acc := .ro, by_ := 63 }
def TWL_DLY_DELAY : Fld := { base := 0xC00100, dims := [(4, 17)], lsb := 0, width := 16, acc := .ro, by_ := 63 }
def TWL_DLY_VALID : Fld := { base := 0xC00100, dims := [(4, 17)], lsb := 16, width := 1, acc := .ro, by_ := 63 }
def FLT_SRC_CFG_WLEN : Fld := { base := 0xD00000, dims := [(16, 64)], lsb := 0, width := 28, acc := .ro, by_ := 63, rst := fun ix => fltWlen (ix.headD 0) }
def FLT_SRC_CFG_WUNIT : Fld := { base := 0xD00000, dims := [(16, 64)], lsb := 28, width := 1, acc := .ro, by_ := 63, rst := fun ix => fltWunit (ix.headD 0) }
def FLT_SRC_CFG_LATCH : Fld := { base := 0xD00000, dims := [(16, 64)], lsb := 29, width := 1, acc := .ro, by_ := 63 }
def FLT_SRC_CFG_EN : Fld := { base := 0xD00000, dims := [(16, 64)], lsb := 30, width := 1, acc := .ro, by_ := 63, rst := fun _ => 1 }
def FLT_SRC_ACT_THRESH : Fld := { base := 0xD00004, dims := [(16, 64)], lsb := 0, width := 16, acc := .ro, by_ := 63, rst := fun ix => fltThresh (ix.headD 0) }
def FLT_SRC_ACT_ACTION : Fld := { base := 0xD00004, dims := [(16, 64)], lsb := 16, width := 3, acc := .ro, by_ := 63, rst := fun ix => fltAction (ix.headD 0) }
def FLT_SRC_STAT_WCOUNT : Fld := { base := 0xD00008, dims := [(16, 64)], lsb := 0, width := 20, acc := .ro, by_ := 63 }
def FLT_SRC_STAT_LASTING : Fld := { base := 0xD00008, dims := [(16, 64)], lsb := 20, width := 1, acc := .ro, by_ := 63 }
def FLT_SRC_TOTAL_TOTAL : Fld := { base := 0xD0000C, dims := [(16, 64)], lsb := 0, width := 32, acc := .rc, by_ := 63 }
def FLT_LASTING : Fld := { base := 0xD00400, dims := [], lsb := 0, width := 64, acc := .rl, by_ := 63 }
def FLT_LASTING_SH : Fld := { base := 0xD00404, dims := [], lsb := 0, width := 32, acc := .ro, by_ := 63 }
def FLT_MAINT_STAT_RUN : Fld := { base := 0xD00410, dims := [], lsb := 0, width := 12, acc := .ro, by_ := 63 }
def FLT_MAINT_STAT_DEFER : Fld := { base := 0xD00410, dims := [], lsb := 16, width := 12, acc := .ro, by_ := 63 }
def FLT_MAINT_DEFER_COUNT : Fld := { base := 0xD00420, dims := [(4, 12)], lsb := 0, width := 16, acc := .rc, by_ := 63 }
def FLT_MAINT_DEFER_OLDEST : Fld := { base := 0xD00420, dims := [(4, 12)], lsb := 16, width := 16, acc := .ro, by_ := 63 }
def FLT_MAINT_CFG_DEFER_LIMIT : Fld := { base := 0xD00460, dims := [], lsb := 0, width := 16, acc := .ro, by_ := 63, rst := fun _ => 10000 }
def FLT_MAINT_CFG_SS_LOG2 : Fld := { base := 0xD00460, dims := [], lsb := 16, width := 5, acc := .ro, by_ := 63, rst := fun _ => 12 }
def FLT_HIST_CNT_HELD : Fld := { base := 0xD00464, dims := [], lsb := 0, width := 6, acc := .ro, by_ := 1 }
def FLT_SRAM_ERR_CE : Fld := { base := 0xD00468, dims := [], lsb := 0, width := 16, acc := .rc, by_ := 63 }
def FLT_SRAM_ERR_UE : Fld := { base := 0xD00468, dims := [], lsb := 16, width := 16, acc := .rc, by_ := 63 }
def BOOT_CAUSE_CLASS : Fld := { base := 0xE00000, dims := [], lsb := 0, width := 3, acc := .ro, by_ := 0 }
def BOOT_CAUSE_CAUSE : Fld := { base := 0xE00000, dims := [], lsb := 8, width := 8, acc := .ro, by_ := 0 }
def BOOT_CAUSE_DATA : Fld := { base := 0xE00000, dims := [], lsb := 16, width := 6, acc := .ro, by_ := 0 }
def BOOT_CAUSE_SELVEDGE : Fld := { base := 0xE00000, dims := [], lsb := 22, width := 1, acc := .ro, by_ := 0 }
def BOOT_FAIL_COUNT : Fld := { base := 0xE00004, dims := [], lsb := 0, width := 2, acc := .ro, by_ := 1 }
def BOOT_FAIL_STARTS : Fld := { base := 0xE00004, dims := [], lsb := 16, width := 16, acc := .ro, by_ := 1 }
def BOOT_TIME_BASTING_MS : Fld := { base := 0xE00008, dims := [], lsb := 0, width := 16, acc := .ro, by_ := 35 }
def BOOT_TIME_FULL_MS : Fld := { base := 0xE00008, dims := [], lsb := 16, width := 16, acc := .ro, by_ := 35 }
def BOOT_WDOG_RUN_MS : Fld := { base := 0xE0000C, dims := [], lsb := 0, width := 12, acc := .ro, by_ := 3, rst := fun _ => 2000 }
def BOOT_WDOG_STAGE_MS : Fld := { base := 0xE0000C, dims := [], lsb := 12, width := 12, acc := .ro, by_ := 3, rst := fun _ => 4000 }
def BOOT_WDOG_EXPIRIES : Fld := { base := 0xE0000C, dims := [], lsb := 24, width := 8, acc := .ro, by_ := 1 }
def PWR_RAIL_STAT_WARN : Fld := { base := 0xE00100, dims := [], lsb := 0, width := 10, acc := .ro, by_ := 1 }
def PWR_RAIL_STAT_SEEN : Fld := { base := 0xE00100, dims := [], lsb := 16, width := 10, acc := .w1c, by_ := 1 }
def PWR_EVT_CNT_EVENTS : Fld := { base := 0xE00140, dims := [(4, 10)], lsb := 0, width := 16, acc := .rc, by_ := 1 }
def PWR_EVT_CNT_RESETS : Fld := { base := 0xE00140, dims := [(4, 10)], lsb := 16, width := 16, acc := .ro, by_ := 1 }
def PWR_LAST_EVT0_RAIL : Fld := { base := 0xE00180, dims := [], lsb := 0, width := 4, acc := .ro, by_ := 1 }
def PWR_LAST_EVT0_DUR_US : Fld := { base := 0xE00180, dims := [], lsb := 4, width := 28, acc := .ro, by_ := 1 }
def PWR_LAST_EVT1_LOW_CODE : Fld := { base := 0xE00184, dims := [], lsb := 0, width := 16, acc := .ro, by_ := 1 }
def PWR_LAST_EVT1_EPOCH : Fld := { base := 0xE00184, dims := [], lsb := 16, width := 16, acc := .ro, by_ := 1 }
def PWR_LAST_T : Fld := { base := 0xE00188, dims := [], lsb := 0, width := 64, acc := .rl, by_ := 1 }
def PWR_LAST_T_SH : Fld := { base := 0xE0018C, dims := [], lsb := 0, width := 32, acc := .ro, by_ := 1 }
def PWR_RET_STAT_PHASE : Fld := { base := 0xE00190, dims := [], lsb := 0, width := 2, acc := .ro, by_ := 63 }
def PWR_RET_STAT_EXIT_US : Fld := { base := 0xE00190, dims := [], lsb := 16, width := 16, acc := .ro, by_ := 35 }

/-- Registers of this file, part 0. -/
def regsDTable0 : List Reg := [
  ⟨"DMA_CH_CFG", 0x100000, [(64, 32)], [DMA_CH_CFG_BOUND, DMA_CH_CFG_LOG2SIZE, DMA_CH_CFG_NOSNOOP_OK, DMA_CH_CFG_RELAXED_OK]⟩,
  ⟨"DMA_CH_CTL", 0x100004, [(64, 32)], [DMA_CH_CTL_PAUSE]⟩,
  ⟨"DMA_CH_STAT", 0x100008, [(64, 32)], [DMA_CH_STAT_STATE, DMA_CH_STAT_MEM_PAUSE, DMA_CH_STAT_HEAD, DMA_CH_STAT_FAULT]⟩,
  ⟨"DMA_CH_RING_LO", 0x10000C, [(64, 32)], [DMA_CH_RING]⟩,
  ⟨"DMA_CH_RING_HI", 0x100010, [(64, 32)], [DMA_CH_RING_SH]⟩,
  ⟨"DMA_CH_SRC_LO", 0x100014, [(64, 32)], [DMA_CH_SRC]⟩,
  ⟨"DMA_CH_SRC_HI", 0x100018, [(64, 32)], [DMA_CH_SRC_SH]⟩,
  ⟨"DMA_CH_DST_LO", 0x10001C, [(64, 32)], [DMA_CH_DST]⟩,
  ⟨"DMA_CH_DST_HI", 0x100020, [(64, 32)], [DMA_CH_DST_SH]⟩,
  ⟨"DMA_CH_LEFT_LO", 0x100024, [(64, 32)], [DMA_CH_LEFT]⟩,
  ⟨"DMA_CH_LEFT_HI", 0x100028, [(64, 32)], [DMA_CH_LEFT_SH]⟩,
  ⟨"DMA_CH_HOLD", 0x10002C, [(64, 32)], [DMA_CH_HOLD_BITS]⟩,
  ⟨"DMA_CH_CNT", 0x100030, [(64, 32)], [DMA_CH_CNT_DONE]⟩,
  ⟨"DMA_DB", 0x100800, [(4, 32)], [DMA_DB_TAIL, DMA_DB_HEAD]⟩,
  ⟨"DMA_STAT", 0x100C00, [], [DMA_STAT_HALTED, DMA_STAT_CAUSE, DMA_STAT_CH, DMA_STAT_SPACE]⟩,
  ⟨"DMA_ERR_LO", 0x100C04, [], [DMA_ERR]⟩,
  ⟨"DMA_ERR_HI", 0x100C08, [], [DMA_ERR_SH]⟩,
  ⟨"DMA_HALTS", 0x100C0C, [], [DMA_HALTS_COUNT]⟩,
  ⟨"HOOP_STAT", 0xF00000, [], [HOOP_STAT_STATE, HOOP_STAT_STRAP, HOOP_STAT_UNSEAL_PEND, HOOP_STAT_VARIANT, HOOP_STAT_DIRTY, HOOP_STAT_COMMIT_BUSY, HOOP_STAT_LOG_HIGH, HOOP_STAT_LOG_FULL, HOOP_STAT_FUSE_LOW, HOOP_STAT_FUSE_EXHAUSTED, HOOP_STAT_BROKEN_CAUSE]⟩,
  ⟨"HOOP_DIGEST_LO", 0xF00004, [], [HOOP_DIGEST]⟩,
  ⟨"HOOP_DIGEST_HI", 0xF00008, [], [HOOP_DIGEST_SH]⟩,
  ⟨"HOOP_MEC", 0xF0000C, [], [HOOP_MEC_MEC]⟩,
  ⟨"HOOP_LOG_USED", 0xF00010, [], [HOOP_LOG_USED_USED, HOOP_LOG_USED_LOST]⟩,
  ⟨"HOOP_LOG_BASE", 0xF00014, [], [HOOP_LOG_BASE_BASE]⟩]

/-- Registers of this file, part 1. -/
def regsDTable1 : List Reg := [
  ⟨"HOOP_FUSE", 0xF00018, [], [HOOP_FUSE_FUSE_USED, HOOP_FUSE_EPOCH]⟩,
  ⟨"HOOP_FW_VER", 0xF0001C, [], [HOOP_FW_VER_VERSION]⟩,
  ⟨"HOOP_STATE_T_LO", 0xF00020, [], [HOOP_STATE_T]⟩,
  ⟨"HOOP_STATE_T_HI", 0xF00024, [], [HOOP_STATE_T_SH]⟩,
  ⟨"HOOP_STATE_EP", 0xF00028, [], [HOOP_STATE_EP_EPOCH]⟩,
  ⟨"HOOP_RGN_LO", 0xF00040, [(8, 8)], [HOOP_RGN]⟩,
  ⟨"HOOP_RGN_HI", 0xF00044, [(8, 8)], [HOOP_RGN_SH]⟩,
  ⟨"TWL_CFG", 0xC00000, [], [TWL_CFG_ALIVE_LINE, TWL_CFG_SEC_MUTE, TWL_CFG_TWIN_PERIOD, TWL_CFG_DIV_TOL]⟩,
  ⟨"TWL_STAT", 0xC00004, [], [TWL_STAT_ROLE, TWL_STAT_STRAP_PRI, TWL_STAT_LANES, TWL_STAT_LINK_UP, TWL_STAT_PARTNER_ALIVE, TWL_STAT_RETRAIN, TWL_STAT_DESYNC, TWL_STAT_PARTNER_HOOP]⟩,
  ⟨"TWL_MISS", 0xC00008, [], [TWL_MISS_CONSEC, TWL_MISS_TOTAL]⟩,
  ⟨"TWL_LANE_ERR", 0xC00010, [(4, 4)], [TWL_LANE_ERR_SYNC_ERR]⟩,
  ⟨"TWL_DIV", 0xC00020, [], [TWL_DIV_PRI_ONLY, TWL_DIV_SEC_ONLY]⟩,
  ⟨"TWL_DT_OFS", 0xC00024, [], [TWL_DT_OFS_OFS]⟩,
  ⟨"TWL_PSEQ", 0xC00028, [], [TWL_PSEQ_PSEQ]⟩,
  ⟨"TWL_TWIN_LO", 0xC00030, [], [TWL_TWIN]⟩,
  ⟨"TWL_TWIN_HI", 0xC00034, [], [TWL_TWIN_SH]⟩,
  ⟨"TWL_TWIN_PARTNER_LO", 0xC00038, [], [TWL_TWIN_PARTNER]⟩,
  ⟨"TWL_TWIN_PARTNER_HI", 0xC0003C, [], [TWL_TWIN_PARTNER_SH]⟩,
  ⟨"TWL_DLY", 0xC00100, [(4, 17)], [TWL_DLY_DELAY, TWL_DLY_VALID]⟩,
  ⟨"FLT_SRC_CFG", 0xD00000, [(16, 64)], [FLT_SRC_CFG_WLEN, FLT_SRC_CFG_WUNIT, FLT_SRC_CFG_LATCH, FLT_SRC_CFG_EN]⟩,
  ⟨"FLT_SRC_ACT", 0xD00004, [(16, 64)], [FLT_SRC_ACT_THRESH, FLT_SRC_ACT_ACTION]⟩,
  ⟨"FLT_SRC_STAT", 0xD00008, [(16, 64)], [FLT_SRC_STAT_WCOUNT, FLT_SRC_STAT_LASTING]⟩,
  ⟨"FLT_SRC_TOTAL", 0xD0000C, [(16, 64)], [FLT_SRC_TOTAL_TOTAL]⟩,
  ⟨"FLT_LASTING_LO", 0xD00400, [], [FLT_LASTING]⟩]

/-- Registers of this file, part 2. -/
def regsDTable2 : List Reg := [
  ⟨"FLT_LASTING_HI", 0xD00404, [], [FLT_LASTING_SH]⟩,
  ⟨"FLT_MAINT_STAT", 0xD00410, [], [FLT_MAINT_STAT_RUN, FLT_MAINT_STAT_DEFER]⟩,
  ⟨"FLT_MAINT_DEFER", 0xD00420, [(4, 12)], [FLT_MAINT_DEFER_COUNT, FLT_MAINT_DEFER_OLDEST]⟩,
  ⟨"FLT_MAINT_CFG", 0xD00460, [], [FLT_MAINT_CFG_DEFER_LIMIT, FLT_MAINT_CFG_SS_LOG2]⟩,
  ⟨"FLT_HIST_CNT", 0xD00464, [], [FLT_HIST_CNT_HELD]⟩,
  ⟨"FLT_SRAM_ERR", 0xD00468, [], [FLT_SRAM_ERR_CE, FLT_SRAM_ERR_UE]⟩,
  ⟨"BOOT_CAUSE", 0xE00000, [], [BOOT_CAUSE_CLASS, BOOT_CAUSE_CAUSE, BOOT_CAUSE_DATA, BOOT_CAUSE_SELVEDGE]⟩,
  ⟨"BOOT_FAIL", 0xE00004, [], [BOOT_FAIL_COUNT, BOOT_FAIL_STARTS]⟩,
  ⟨"BOOT_TIME", 0xE00008, [], [BOOT_TIME_BASTING_MS, BOOT_TIME_FULL_MS]⟩,
  ⟨"BOOT_WDOG", 0xE0000C, [], [BOOT_WDOG_RUN_MS, BOOT_WDOG_STAGE_MS, BOOT_WDOG_EXPIRIES]⟩,
  ⟨"PWR_RAIL_STAT", 0xE00100, [], [PWR_RAIL_STAT_WARN, PWR_RAIL_STAT_SEEN]⟩,
  ⟨"PWR_EVT_CNT", 0xE00140, [(4, 10)], [PWR_EVT_CNT_EVENTS, PWR_EVT_CNT_RESETS]⟩,
  ⟨"PWR_LAST_EVT0", 0xE00180, [], [PWR_LAST_EVT0_RAIL, PWR_LAST_EVT0_DUR_US]⟩,
  ⟨"PWR_LAST_EVT1", 0xE00184, [], [PWR_LAST_EVT1_LOW_CODE, PWR_LAST_EVT1_EPOCH]⟩,
  ⟨"PWR_LAST_T_LO", 0xE00188, [], [PWR_LAST_T]⟩,
  ⟨"PWR_LAST_T_HI", 0xE0018C, [], [PWR_LAST_T_SH]⟩,
  ⟨"PWR_RET_STAT", 0xE00190, [], [PWR_RET_STAT_PHASE, PWR_RET_STAT_EXIT_US]⟩]

/-- Every register of this file. -/
def regsDAll : List Reg := regsDTable0 ++ regsDTable1 ++ regsDTable2

end Sys2Proof.Machine
end

