-- ==== Sys2Proof/Machine/StAcq.lean ====
section
/-! DEFINITION. State of the acquisition side: tiles, time base, trigger engine and capture, where it is not a register
field.  Register fields themselves live in the register file of State. -/
namespace Sys2Proof.Machine

/-- The five correction coefficients of a slice (Table 2.5), also used for trims and table entries. -/
structure Coef where
  off : Int := 0
  gain : Int := 0
  dly : Int := 0
  bm : Int := 0
  bp : Int := 0
  deriving DecidableEq, Repr, Inhabited

/-- A slice: trims (R45), and the interpolated table values in use (R49). -/
structure Slice where
  trim : Coef := {}
  interp : Coef := {}
  deriving DecidableEq, Repr, Inhabited

/-- A channel sample after offset and gain, with what the later filter steps need of its slice (R46). -/
structure PipeEl where
  idx : Nat
  y1 : Int
  dly : Int
  bm : Int
  bp : Int
  ovr : Bool
  deriving DecidableEq, Repr

/-- What a channel holds besides its registers. -/
structure Chan where
  /-- stitch from which samples are valid (R39) -/
  firstValid : Nat := 0
  /-- stitch at which a settling starts to take samples; samples before it do not exist -/
  settleFrom : Nat := 0
  /-- samples in the correction filters, newest first -/
  pipe : List PipeEl := []
  /-- skew-filtered samples y2 not yet used up, newest first, with their index and whether a raw code at an end of the range
  is in them -/
  y2 : List (Nat × Int × Bool) := []
  /-- inputs of the bandwidth limit and of the half-band stages, each newest first, with their OVERRANGE mark -/
  fir : List (List (Int × Bool)) := []
  /-- the stream after step 3 of R41, newest first: what check and estimator see -/
  s3 : List Int := []
  s3Next : Nat := 0
  /-- capture history: corrected output samples, newest first, and the index after the newest -/
  hist : List Int := []
  histNext : Nat := 0
  /-- output index at which the history last restarted (R141) -/
  fillFrom : Nat := 0
  /-- flags of output stitch blocks, by block index -/
  blk : List (Nat × Nat) := []
  /-- foreground calibration or a relock holds the channel (R56, R73) -/
  held : Bool := false
  /-- a change of factor is accepted: STATE shows SETTLING, and samples are taken until it takes effect (Table 2.3) -/
  going : Bool := false
  /-- what the settling follows: 1 a change of factor, 2 a planned relock, 0 anything else -/
  why : Nat := 0
  /-- the interval of R51 has met a reason of R54 to be discarded -/
  estBad : Bool := false
  estOvr : Nat := 0
  estN : Nat := 0
  estSum : Int := 0
  estSq : Nat := 0
  /-- stitch from which EST_EN has been 1 -/
  estFrom : Nat := 0
  /-- check window: samples so far and mismatches so far (R63) -/
  chkLen : Nat := 0
  chkMis : Nat := 0
  /-- check samples up to which the converter's filter window holds excluded data, as channel sample index (R62) -/
  chkSkipTo : Nat := 0
  /-- channel sample index at which the present loopback began -/
  loopFrom : Nat := 0
  deriving DecidableEq, Repr, Inhabited

structure Smp where
  chans : List (Nat × Chan) := []
  slices : List (Nat × Slice) := []
  /-- the sealed temperature table and its staging copy (R47, R50) -/
  table : List (Nat × Coef) := []
  staging : List (Nat × Coef) := []
  /-- staged write of DATA0 and DATA1 awaiting DATA2 -/
  stage0 : Nat := 0
  stage1 : Nat := 0
  /-- a table commit waiting for the next temperature boundary -/
  tableDue : Option (List (Nat × Coef)) := none
  /-- tiles whose measured values are in the staging copy (R58), and those whose values the commit due brings -/
  fgStaged : List Nat := []
  fgDue : List Nat := []
  /-- check samples of a converter's self-test: how many and their sum (R451) -/
  ccTest : List (Nat × (Nat × Int)) := []
  /-- fused expected codes of the check converters' reference -/
  ccExpect : List (Nat × Int) := []
  /-- MUTE of a loopback, by generator -/
  muted : List Nat := []
  /-- channels that were ON and taking samples at the last boundary (R100) -/
  wasOn : List Nat := []
  deriving DecidableEq, Repr

/-- DTIME and EPOCH latched at a stitch boundary (R78); `t` is DTIME with 40 fractional bits. -/
structure Latch where
  stitch : Nat
  t : Nat
  epoch : Nat
  /-- DTIME per core cycle of the stitch, with 40 fractional bits -/
  inc : Nat
  deriving DecidableEq, Repr

structure Tb where
  /-- the stitch counter and DTIME run (from the end of boot stage S3) -/
  running : Bool := false
  /-- DTIME with 40 fractional bits -/
  dt : Nat := 0
  stitch : Nat := 0
  cyc : Nat := 0
  /-- the slot of Table 1.5 that the present stitch runs next: 0 qualification to 5 maintenance, 6 none -/
  slot : Nat := 0
  /-- quarters of a cycle since the last XTAL edge on the fallback clock (R75) -/
  xtal : Nat := 0
  /-- newest first -/
  latches : List Latch := []
  /-- the core cycle, counted from stitch 0, of a DTIME wrap not yet counted by DTIME_WRAP -/
  wrapped : Option Nat := none
  /-- changes of EPOCH, newest first: core cycle, and EPOCH after it (R86) -/
  epochs : List (Nat × Nat) := []
  /-- TPLL's pull of SPLL's fractional word, in units of 2^-40 of the programmed frequency, and its values at the latest
  seconds of locked operation, newest first (R81) -/
  word : Int := 0
  words : List Int := []
  /-- stitch and cycle of an SPLL loss whose records and sets the next bookkeeping slot closes -/
  lost : Option (Nat × Nat) := none
  /-- SPLL has locked after a loss or a planned relock; the core returns at the next boundary -/
  backDue : Bool := false
  /-- planned relock of TB_RATE in progress -/
  planned : Bool := false
  /-- value of a pending TB_TOD -/
  tod : Option Nat := none
  /-- offset measured at qualification and not yet removed, in DTIME units with 40 fractional bits -/
  offset : Int := 0
  /-- an offset that was measured while SPLL was lost waits for the relock (R94) -/
  measured : Option Int := none
  /-- DTIME at which a slew began -/
  slewFrom : Nat := 0
  /-- stitches at which a SYNCOUT pulse is due, rising -/
  syncs : List Nat := []
  /-- how long PPSOUT stays high yet, in DTIME units with 40 fractional bits -/
  ppsLeft : Option Nat := none
  /-- slice clock in kHz that a planned relock brings, from the boundary of its stitch -/
  newKhz : Option Nat := none
  /-- slice clock in kHz that still runs until a planned relock begins, when its register has been reset (R502) -/
  oldKhz : Option Nat := none
  deriving DecidableEq, Repr

/-- A trigger unit in operation (R102–R107). -/
structure TUnit where
  on : Bool := false
  start : Nat := 0
  ar : Bool := false
  af : Bool := false
  br : Bool := false
  bf : Bool := false
  openP : Option Nat := none
  openN : Option Nat := none
  prev : Option Nat := none
  restart : Option Nat := none
  deriving DecidableEq, Repr, Inhabited

/-- A crossing waiting for the samples its interpolation needs (R109).  `lvl` none: a sample time (TIMEOUT).
`cand`: it raises a candidate; `st`: it sets the unit's state; `start`: the unit's first sample. -/
structure Cross where
  u : Nat
  start : Nat
  idx : Nat
  lvl : Option Int
  cand : Bool
  st : Option Bool
  deriving DecidableEq, Repr

/-- A time-stamped event of a source (Table 4.1): `t` in 2^-18 ns, `arr` the stitch of its arrival, `own` the set of a
software event, `from_` the stitch of a unit's crossing sample. -/
structure Ev where
  sid : Nat
  t : Nat
  arr : Nat
  own : Nat := 0
  /-- core cycle of its arrival, counted from stitch 0; 0: the opening of `arr` -/
  arrC : Nat := 0
  from_ : Nat := 0
  deriving DecidableEq, Repr

/-- A change of a pattern input; `from_` as in an event. -/
structure PChg where
  sid : Nat
  v : Bool
  t : Nat
  arr : Nat
  arrC : Nat := 0
  from_ : Nat := 0
  deriving DecidableEq, Repr

/-- The running part of a set's trigger program and capture. -/
structure Prog where
  /-- T of the program's start (R113) -/
  start : Nat := 0
  tA : Nat := 0
  lastAcc : Option Nat := none
  hoLeft : Nat := 0
  /-- T at which the present armed interval began (R121) -/
  armedFrom : Option Nat := none
  missed : Nat := 0
  saidDrop : Bool := false
  saidLate : Bool := false
  saidWait : Bool := false
  deriving DecidableEq, Repr, Inhabited

/-- Where an open record is cut short: by arrival before a cycle (counted from stitch 0), or with the end of a stitch. -/
inductive Cut where
  | arrived (cycle : Nat)
  | stitch (d : Nat)
  deriving DecidableEq, Repr

/-- A record being taken. -/
structure OpenRec where
  /-- which record of the device it is, counted from 0 -/
  id : Nat := 0
  seg : Nat
  slot : Nat
  entry : Nat
  t : Nat
  epoch : Nat
  /-- output index of the trigger sample -/
  trig : Nat
  /-- PRE_VALID -/
  pre : Nat
  post : Nat
  dead : Nat
  missed : Nat
  flags : Nat := 0
  /-- samples taken of each member so far, and the samples, member by member, oldest first -/
  got : Nat := 0
  smp : List (List Int) := []
  /-- block rows written -/
  rows : Nat := 0
  corr : Nat := 0
  unc : Nat := 0
  /-- ring groups that read uncorrectable: (channel, first sample of the group counted from the record's start) -/
  bad : List (Nat × Nat) := []
  cut : Option Cut := none
  basted : Bool := false
  deriving DecidableEq, Repr, Inhabited

/-- A set: trigger program, record and arm state besides registers. -/
structure PSet where
  prog : Prog := {}
  recd : Option OpenRec := none
  /-- stitch whose cycle 128 is the arm instant (R145), and whether it is a re-arm -/
  armAt : Option (Nat × Bool) := none
  /-- stop at cycle 128 of this stitch (R145), and whether as ABORT -/
  stopAt : Option (Nat × Bool) := none
  /-- state to enter when the open record is closed and its re-arm is off -/
  ending : Option Nat := none
  /-- waits for re-arm since its last record closed -/
  rearm : Bool := false
  /-- an accumulation or list is complete: DONE follows the last fold, with the ACC_DONE cause (R205) -/
  finishing : Option Nat := none
  /-- time t_end of the last record (R123), DTIME with 40 fractional bits -/
  tEnd : Option Nat := none
  /-- dead time of the next record, DTIME units -/
  dead : Nat := 0
  /-- credit in bytes times SLICE_KHZ (R162) -/
  credit : Int := 0
  /-- accepted and not rejected since arm or kept from before (R205) -/
  taken : Nat := 0
  /-- disarmed by a clock loss with AUTO_REARM: re-arm at recovery -/
  autoBack : Bool := false
  deriving DecidableEq, Repr, Inhabited

/-- A closed record that measurement or folding still needs. -/
structure Closed where
  set : Nat
  rec_ : OpenRec
  flags : Nat
  /-- stitch in which its last sample arrived -/
  arr : Nat
  meas : Nat
  prk : Nat
  /-- fold ends before this output index (samples of CLK_LOST stitches never fold) -/
  foldEnd : Nat
  truncated : Bool
  measured : Bool := false
  folded : Bool := false
  deriving DecidableEq, Repr

/-- A closed record's entry waiting for its DRAM writes and its record ring (R158). -/
structure RecOut where
  set : Nat
  id : Nat
  seg : Nat
  entry : Nat
  words : List Nat
  deriving DecidableEq, Repr

/-- A record closed within the last few stitches, which a loss or a supply event may still flag: its entry, the stitches of its
first and last sample, and the channels whose Basting store holds it.  It stays while a write of the record is queued. -/
structure RecentRec where
  id : Nat
  prk : Option Nat
  words : List Nat
  k0 : Nat
  k1 : Nat
  baste : List Nat
  deriving DecidableEq, Repr

/-- A pulse on an output line, or from 112 on on the marker signal of generator `line − 112`: high from cycle `from_` to `to_`
counted in core cycles since stitch 0. -/
structure Pulse where
  line : Nat
  from_ : Nat
  to_ : Nat
  /-- the set of a TRIG_OUT pulse; 16 for a quad segment; 32 + g for a marker of generator g -/
  set : Nat
  started : Bool := false
  deriving DecidableEq, Repr

structure Trg where
  units : List (Nat × TUnit) := []
  cross : List Cross := []
  events : List Ev := []
  pchg : List PChg := []
  /-- pattern input values before every change in `pchg` -/
  inBase : List (Nat × Nat) := []
  /-- pulses due or running on marker and trigger-bus lines -/
  pulses : List Pulse := []
  /-- stitch and cycle (as cycles since stitch 0) of the next firing of each timer -/
  timers : List (Nat × Nat) := []
  deriving DecidableEq, Repr

structure Cap where
  sets : List (Nat × PSet) := []
  /-- written entries of the pricking table, by index: eight 64-bit words -/
  prk : List (Nat × List Nat) := []
  outq : List RecOut := []
  /-- closed records not yet measured or folded, oldest first -/
  closed : List Closed := []
  /-- records of the Basting store, by channel: bytes -/
  baste : List (Nat × List (BitVec 8)) := []
  /-- flags of those records, by channel, once closed -/
  basteFlags : List (Nat × Nat) := []
  /-- records opened so far -/
  ids : Nat := 0
  recent : List RecentRec := []
  deriving DecidableEq, Repr

/-- Statistics of a measurement slot (R231); `mean` and `m2` are binary64 codes. -/
structure Stat where
  count : Nat := 0
  min : Int := 0
  max : Int := 0
  mean : Nat := 0
  m2 : Nat := 0
  excluded : Nat := 0
  last : Int := 0
  deriving DecidableEq, Repr, Inhabited

/-- HIGH and LOW of a slot's previous record, its own and its peer's (R224, R225). -/
structure MRef where
  lo : Rat := 0
  hi : Rat := 0
  plo : Rat := 0
  phi : Rat := 0
  deriving DecidableEq, Repr, Inhabited

/-- A copy of ACC_READ in progress: its command, the units copied so far, and COUNT when the first was read. -/
structure AccCopy where
  h : HostCmd
  done : Nat
  begun : Nat
  deriving DecidableEq, Repr

/-- Accumulations and measurements beside their registers. -/
structure AccSt where
  /-- accumulation SRAM by 8-byte word; unlisted words hold 0 -/
  sram : List (Nat × Nat) := []
  /-- accumulator lines in which folding has stopped: set and line of its accumulation (R215) -/
  bad : List (Nat × Nat) := []
  /-- records rejected since the last clear, by set -/
  rejected : List (Nat × Nat) := []
  /-- statistics by 8n + k -/
  stats : List (Nat × Stat) := []
  refs : List (Nat × MRef) := []
  /-- measurement table by line: eight words -/
  lines : List (Nat × List Nat) := []
  copies : List AccCopy := []
  deriving DecidableEq, Repr

end Sys2Proof.Machine
end

