-- ==== Sys2Proof/Machine/StGen.lean ====
section
/-! DEFINITION. State of the stimulus generators beside their registers. -/
namespace Sys2Proof.Machine

/-- A pass that plays: the sequencer entry's index and words, the segment's index and words, passes completed, position in
the pass, the NCO accumulator, and the sample index at which the entry started. -/
structure Play where
  idx : Nat
  e : Nat
  si : Nat
  seg : List Nat
  pass : Nat := 0
  pos : Nat := 0
  acc : Nat := 0
  start : Nat
  /-- GEN_POISON has been raised in this pass -/
  said : Bool := false
  deriving DecidableEq, Repr, Inhabited

/-- What is fixed to follow the present pass (R250). -/
inductive GNext where
  | again (seg : List Nat)
  /-- `why`: 0 the entry's own end, 1 a jump, 2 an advance -/
  | entry (idx e : Nat) (seg : List Nat) (why : Nat)
  | done (why : Nat)
  deriving DecidableEq, Repr

structure GenSt where
  /-- DTIME of the start stitch, with 40 fractional bits (R237) -/
  t0 : Nat := 0
  /-- start stitch, set by GEN_START; waiting for a SYNC pulse -/
  startAt : Option Nat := none
  sync : Bool := false
  charge : Nat := 0
  /-- first sample of the next frame -/
  n : Nat := 0
  play : Option Play := none
  next : Option GNext := none
  /-- a WAIT entry that waits: its index, words and segment, from which sample, and the sample at which it will play -/
  waitE : Option (Nat × Nat × List Nat) := none
  waitFrom : Nat := 0
  playAt : Option Nat := none
  /-- registered and not yet in effect: jump (sample, target), advance (sample), stop at the end of the entry (sample) -/
  jump : Option (Nat × Nat) := none
  adv : Option Nat := none
  stopEnd : Option Nat := none
  /-- first PARK sample of a stop at once -/
  parkAt : Option Nat := none
  /-- registrations of GEN_TRIG, and the events of TRIG_SID that are registered and still listed -/
  trigs : List Nat := []
  seen : List Ev := []
  /-- words of the entry that played until the present one was entered; 0: none did -/
  prevE : Nat := 0
  /-- the frame on its way to the pins, which a ramp can still take: its first sample and its codes -/
  held : Option (Nat × List Int) := none
  /-- ramp: m0 and N -/
  ramp : Option (Nat × Nat) := none
  /-- samples of the open under-run, and frames owed by SKIP -/
  under : Option Nat := none
  owed : Nat := 0
  /-- staging: read and write offsets -/
  rdAt : Nat := 0
  wrAt : Nat := 0
  /-- REFILL_LOW has been said since the fill was last at WMARK; PRIMED has been said -/
  low : Bool := false
  primed : Bool := false
  deriving DecidableEq, Repr, Inhabited

structure Gens where
  g : List (Nat × GenSt) := []
  /-- segment table: 1024 n + i, four words; sequencer: 4096 n + i -/
  segs : List (Nat × List Nat) := []
  seqs : List (Nat × Nat) := []
  deriving DecidableEq, Repr

end Sys2Proof.Machine
end

