-- ==== Sys2Proof/Machine/StHost.lean ====
section
/-! DEFINITION. State of the host side: queues, events, commands in progress, deferred changes, and what has left the
package. -/
namespace Sys2Proof.Machine
open Sys2Proof

/-- A pin or line the device drives. -/
inductive Pin where
  | line (n : Nat)      -- marker 0–95, trigger bus 96–111
  | mclk (g : Nat)       -- clock of a modulator group: 1 runs, 0 low
  | alertN | pwrWarnN | ppsout | refout | syncout | lockS | lockM | memResetN
  deriving DecidableEq, Repr

/-- What leaves the package, oldest first in State. -/
inductive Out where
  /-- an entry of a device-produced queue, as 64-bit words; its PHASE word is issued last (R337) -/
  | entry (q idx : Nat) (ws : List Nat)
  /-- a write to host memory, as bytes from an address: its class on PCIe transmit (Table 15.5), and whether it sets relaxed
  ordering (R359), and whose data it carries -/
  | host (addr : Nat) (bytes : List (BitVec 8)) (cls : Nat := 3) (relaxed : Bool := false) (data : DataFor := .nobody)
  /-- a read of host memory for a queue entry, a descriptor, stimulus samples, DMA source data or data that a command names: its
  class on PCIe transmit, and whether it sets No-Snoop (R252, R335, R359) -/
  | read (addr bytes cls : Nat) (noSnoop : Bool)
  /-- an MSI-X message of PF0 or PF1 -/
  | msix (fn vec : Nat)
  /-- the answer to a register read -/
  | reg (addr val : Nat)
  /-- the answer to a management-interface read -/
  | smbus (val : Nat)
  /-- a pin takes a level; the time is in core cycles since stitch 0 -/
  | pin (p : Pin) (level : Nat) (cycle : Nat)
  /-- samples of a generator -/
  | dac (g : Nat) (samples : List Int)
  /-- a mirror frame -/
  | frame (f : MirrorFrame)
  deriving DecidableEq, Repr

/-- A packet on PCIe transmit. -/
structure Pkt where
  /-- its place in `Mach.out`, and its number among the packets of that write or read -/
  item : Nat
  part : Nat
  /-- the queue whose entries and messages keep their order (R337), by 1 + its number, 1000 + vector for PF1; 0: none -/
  ring : Nat := 0
  /-- whose data it carries or, for an entry, reports -/
  data : DataFor := .nobody
  deriving DecidableEq, Repr

/-- PCIe transmit (R448). -/
structure Tx where
  /-- how many of `Mach.out` have come to it -/
  taken : Nat := 0
  /-- packets that wait, oldest first, by class -/
  c1 : List Pkt := []
  c3 : List Pkt := []
  c5 : List Pkt := []
  /-- C1 packets sent in a row while C3 waited -/
  run : Nat := 0
  /-- packets sent, oldest first -/
  sent : List Pkt := []
  deriving DecidableEq, Repr

/-- A queue's state beside its registers. -/
structure QSt where
  /-- SEQUENCE expected of the next entry fetched (R333) -/
  seq : Nat := 0
  /-- re-reads made of the present entry (R334) -/
  rereads : Nat := 0
  /-- entries written and not yet signalled -/
  unsig : Nat := 0
  /-- DTIME at which the oldest of them was written -/
  unsigAt : Nat := 0
  /-- an event was dropped since the last entry (R348) -/
  lost : Bool := false
  deriving DecidableEq, Repr, Inhabited

/-- An event as raised. -/
structure EvRec where
  cls : Nat
  code : Nat
  src : Nat
  dtime : Nat
  epoch : Nat
  data : Nat
  datax : Nat
  datas : Nat
  /-- its message goes at once (R370) -/
  urgent : Bool := false
  deriving DecidableEq, Repr

/-- A command that was accepted and waits for its outcome. -/
structure Wait where
  op : Nat
  h : HostCmd
  /-- stitch that an accepted command waits for, or another number its chapter names -/
  at_ : Nat
  deriving DecidableEq, Repr

/-- A completion that could not be written yet. -/
structure Cpl where
  q : Nat
  result : Nat
  tag : Nat
  status : Nat
  seq : Nat
  irqNow : Bool
  head : Nat
  deriving DecidableEq, Repr

/-- A change that an accepted command or register write has scheduled for a stitch boundary. -/
inductive Change where
  | cmd (op : Nat) (h : HostCmd)
  | rwh (addr val : Nat)
  /-- slice power and phases of a channel switch; it starts to take samples -/
  | take (n : Nat)
  /-- a DEGRADE or SELVEDGE action of a fault source, with the channel or generator it names -/
  | fault (src inst action : Nat)
  /-- any other change, by name and numbers -/
  | other (kind : Nat) (args : List Nat)
  deriving DecidableEq, Repr

/-- A mirror of what the driver's PCIe function state is. -/
structure Hif where
  queues : List (Nat × QSt) := []
  evbuf : List EvRec := []
  held : List Cpl := []
  waits : List Wait := []
  /-- changes with the stitch whose opening boundary applies them, in order of acceptance -/
  changes : List (Nat × Change) := []
  linkUp : Bool := false
  d3hot : Bool := false
  /-- latched admin queue registers (R500): submission base, completion base -/
  admSq : Nat := 0
  admCq : Nat := 0
  /-- MSI-X table and pending bits: dwords by offset in the BAR, pending vectors, per function -/
  msixTab : List (Nat × Nat) := []
  msixTab1 : List (Nat × Nat) := []
  msixPend : List Nat := []
  msixPend1 : List Nat := []
  /-- vectors due while the link or function is down (R324) -/
  msixDue : List Nat := []
  /-- a soft reset or Selvedge exit scheduled by a completed command: boot cause (R354) -/
  resetDue : Option Nat := none
  /-- level of the device's ALERT_N, true when driven low -/
  alert : Bool := false
  /-- the device is held in reset: RESET_N is low, XTAL is absent, or the internal power-on reset stands -/
  inReset : Bool := false
  /-- device serial number, fused -/
  serial : Nat := 0
  /-- bytes of flash regions 1 and 2, by 2^32 × region + offset; version of the running non-sealed image, and of the image
  that the next start runs -/
  flash : List (Nat × Nat) := []
  fw : Nat := 0
  fwNext : Option Nat := none
  deriving DecidableEq, Repr

/-- A DMA channel beside its registers: the descriptor in progress, source bytes (or, for record slots, samples) taken,
destination bytes written, the bits in the holding register, whether DESC_HALF was raised, and its ring. -/
structure DmaCh where
  desc : Option (List Nat) := none
  pos : Nat := 0
  wr : Nat := 0
  held : Nat := 0
  bits : Nat := 0
  half : Bool := false
  seq : Nat := 0
  rereads : Nat := 0
  /-- a failed fetch has stalled the ring -/
  stalled : Bool := false
  deriving DecidableEq, Repr, Inhabited

structure Dma where
  ch : List (Nat × DmaCh) := []
  /-- channel served last -/
  last : Nat := 31
  deriving DecidableEq, Repr

end Sys2Proof.Machine
end

