-- ==== Sys2Proof/Machine/StLog.lean ====
section
/-! DEFINITION. State of the log path beside its registers. -/
namespace Sys2Proof.Machine

/-- A finished output, held for two stitches so that no output of a stitch that turns out lost is delivered (R189, R91):
index, words, time and EPOCH, flags, last input of its support with that input's stitch, and whether its support spans an
EPOCH change. -/
structure LogOut where
  idx : Nat
  words : List Nat
  t : Nat
  epoch : Nat
  flags : Nat
  lastIn : Int
  st : Nat
  spans : Bool
  deriving DecidableEq, Repr

/-- The open block of a stream. -/
structure LogBlk where
  first : Nat
  t : Nat
  epoch : Nat
  flags : Nat
  count : Nat
  /-- 32-bit or 16-bit words, newest first -/
  words : List Nat
  /-- DTIME at which its first output came -/
  since : Nat
  deriving DecidableEq, Repr

structure LogStr where
  /-- started, and waits for this stitch -/
  pend : Option Nat := none
  /-- output-sample index, or edge number, of input 0 -/
  base : Int := 0
  /-- next output to form, and next input to take -/
  kNext : Nat := 0
  wN : Nat := 0
  wSum : Int := 0
  wSq : Nat := 0
  wMin : Int := 0
  wMax : Int := 0
  /-- flags of the present output interval of a modulator stream -/
  wFlags : Nat := 0
  /-- FILTERED: integrators and combs of the CIC, its latest outputs, newest first, and the first input it was fed (R175) -/
  integ : List Int := [0, 0, 0, 0]
  comb : List Int := [0, 0, 0, 0]
  cics : List Int := []
  cicFrom : Int := 0
  held : List LogOut := []
  blk : Option LogBlk := none
  seq : Nat := 0
  /-- first lost output of the open gap, its time and EPOCH, and every cause that held -/
  gapFirst : Nat := 0
  gapT : Nat := 0
  gapEpoch : Nat := 0
  seen : Nat := 0
  /-- first input whose outputs are good after the gap -/
  okFrom : Int := 0
  charge : Nat := 0
  /-- flags of the latest output intervals of a modulator stream, newest first -/
  past : List Nat := []
  /-- LOG_STOP was applied at the boundary of this stitch, and samples taken before it are still in the filters -/
  endAt : Option Nat := none
  deriving DecidableEq, Repr, Inhabited

/-- A block in a spool: slot, stream, first output index, how many outputs (0: a gap record), and how many a gap record says are
lost. -/
structure SpoolBlk where
  slot : Nat
  str : Nat
  first : Nat
  count : Nat
  lost : Nat := 0
  deriving DecidableEq, Repr

structure LogRing where
  next : Nat := 0
  blocks : List SpoolBlk := []
  /-- SPOOL_HIGH has been said since the fill was last below HIGH -/
  high : Bool := false
  deriving DecidableEq, Repr, Inhabited

/-- A modulator input: its latest bits and decode errors (newest in bit 0), bits seen, run lengths, the loss it is in, and
its comparator. -/
structure ModIn where
  hist : Nat := 0
  n : Nat := 0
  errs : Nat := 0
  same : Nat := 0
  clean : Nat := 0
  /-- detected and not yet declared: edge and reason; recovered and not yet declared: edge -/
  lostAt : Option (Int × Nat) := none
  okAt : Option Int := none
  lostFrom : Int := 0
  cmp : Bool := false
  /-- changes of the output inside the filter, oldest first, an activation at the head: level, time, and core cycle of arrival -/
  acts : List (Bool × Nat × Nat) := []
  deriving DecidableEq, Repr, Inhabited

structure LogSt where
  str : List (Nat × LogStr) := []
  ring : List (Nat × LogRing) := []
  inp : List (Nat × ModIn) := []
  /-- stitch of each group's origin, and the next edge of its clock -/
  origin : List (Nat × Nat) := []
  edge : List (Nat × Nat) := []
  deriving DecidableEq, Repr

end Sys2Proof.Machine
end

