-- ==== Sys2Proof/Machine/StMem.lean ====
section
/-! DEFINITION. State of the record memory controller, where it is not a register field. -/
namespace Sys2Proof.Machine

/-- A source of requests (R297), numbered within its kind. -/
inductive MemSrc where
  | capture (set : Nat) | acc (set : Nat) | logWriter (ring : Nat) | gen (g : Nat) | dma (ch : Nat)
  | scrub | migrate | other
  deriving DecidableEq, Repr

/-- A queued line access: a write of 64 bytes or of a part of a line, or a read (`data` none). `since` is DTIME at its arrival, `tag` the
record of a capture write. -/
structure MemReq where
  cls : Nat
  src : MemSrc
  line : Nat
  data : Option (List (BitVec 8))
  poison : Bool := false
  since : Nat
  tag : Nat := 0
  /-- the request writes zeros over this whole area (R315) -/
  clear : Option Nat := none
  /-- `data` replaces the bytes of the line from this one on, and the access reads the line first (R295) -/
  part : Option Nat := none
  deriving DecidableEq, Repr

structure Mem where
  /-- queued requests, oldest first, all channels -/
  queue : List MemReq := []
  /-- refresh backlog by 4 × channel + rank -/
  backlog : List (Nat × Nat) := []
  /-- ranks whose last refresh that fell due was forced, by 4 × channel + rank -/
  forced : List Nat := []
  /-- channels whose components ask for doubled refresh -/
  doubled : List Nat := []
  /-- activate-counting tables: bank (channel, rank, group, bank as one number) to (row, count) entries -/
  act : List (Nat × List (Nat × Nat)) := []
  /-- physical rows that the latest neighbour refresh of a bank activated (R303) -/
  nbr : List (Nat × List Nat) := []
  /-- first line of its own that the running step of a channel's scrubber reads, or the next step -/
  scrubAt : List (Nat × Nat) := []
  /-- channels whose fast pass is not finished, with the lines it has left -/
  fast : List (Nat × Nat) := []
  /-- DTIME at which the migration of a channel started, and its cause -/
  migSince : List (Nat × Nat) := []
  /-- result of the last verification: channels asked for -/
  verifying : Nat := 0
  /-- a rank entered self-refresh after a refresh beyond its postponement limit at the last MPLL loss (R318) -/
  lateSr : Bool := false
  /-- an MPLL loss in Retention that the exit will report (R470) -/
  retLost : Bool := false
  deriving DecidableEq, Repr

end Sys2Proof.Machine
end

