-- ==== Sys2Proof/Machine/StRest.lean ====
section
/-! DEFINITION. State of the fault block and of the Hoop, where it is not a register field. -/
namespace Sys2Proof.Machine
open Sys2Proof

/-- Counts of a fault source raised in the present stitch (R432). -/
structure FltCount where
  src : Nat
  n : Nat
  /-- channel, generator, memory channel or rank the count is about; 65 536 for an injected count -/
  inst : Nat
  deriving DecidableEq, Repr

/-- A maintenance step that runs, or a request that is deferred (R438–R443): activity, instance, the numbers its step
needs, the moment of the request in DTIME and its stitch, the command that made it, and whether that command has completed with
DEFERRED. -/
structure MReq where
  act : Nat
  inst : Nat
  args : List Nat := []
  since : Nat
  stitch : Nat := 0
  cmd : Option HostCmd := none
  was : Bool := false
  /-- DTIME from which DEFER_LIMIT runs, and whether source 52 has counted it -/
  limFrom : Nat := 0
  said : Bool := false
  deriving DecidableEq, Repr

/-- A bucket of a source: its count, and the real counts in it as (instance, how many), newest first. -/
structure FBucket where
  n : Nat := 0
  real : List (Nat × Nat) := []
  deriving DecidableEq, Repr, Inhabited

/-- An SRAM scrub pass: its next step, DTIME of its start, and whether its outcome goes to a waiting command or, when that
command was deferred, to MAINT_DONE. -/
structure Scrub where
  next : Nat
  since : Nat
  cmd : Bool
  was : Bool
  deriving DecidableEq, Repr

structure Flt where
  /-- counts raised in the present stitch, and those of the stitch before, which the next slot enters -/
  pend : List FltCount := []
  due : List FltCount := []
  /-- the eight buckets of a source, open one first -/
  buckets : List (Nat × List FBucket) := []
  /-- sources 0 and 1 whose degrade effect of R431 holds until FLT_CLEAR -/
  degraded : List Nat := []
  /-- the fault history, oldest first, four words each -/
  hist : List (List Nat) := []
  running : List MReq := []
  /-- oldest first -/
  deferred : List MReq := []
  scrub : Option Scrub := none
  /-- next step of the periodic SRAM scrub -/
  scrubAt : Nat := 0
  /-- an activity-8 start gave way in the last maintenance slot -/
  slotLate : Bool := false
  deriving DecidableEq, Repr

/-- A housekeeping conversion that runs. -/
inductive HkConv where
  /-- of the sequence -/
  | seq
  | urg (src : Nat) (cmd : Option HostCmd)
  /-- of the supply watch -/
  | watch (src : Nat)
  | test (k : Nat)
  deriving DecidableEq, Repr

structure HkSt where
  cur : Option HkConv := none
  /-- place in the pass: 0 VCHK, j + 1 step j; conversions done in the step and their sum -/
  pos : Nat := 0
  i : Nat := 0
  sum : Nat := 0
  urg : Option (Nat × Option HostCmd) := none
  /-- the urgent request that waits is a supply monitor's -/
  mon : Bool := false
  /-- a sequence for the next pass -/
  next : Option HostCmd := none
  /-- latest results: step, or 16 for VCHK; data word and time -/
  latest : List (Nat × (Nat × Nat)) := []
  unread : Bool := false
  /-- self-test: conversions made, sums of VREF_1V0 and AGND -/
  test : Option (Nat × Nat × Nat) := none
  /-- HKB watches the supplies: the source converted last, conversions made, least codes by rail -/
  watch : Bool := false
  watchAt : Nat := 0
  watchN : Nat := 0
  least : List (Nat × Nat) := []
  deriving DecidableEq, Repr, Inhabited

structure Hk where
  c : List (Nat × HkSt) := []
  /-- self-test expected codes of VREF_1V0 and AGND, by converter (content of the Hoop) -/
  expect : List (Nat × (Nat × Nat)) := []
  /-- gain trims of the dividers of sources 24 to 37, by 14 × converter + source − 24 (content of the Hoop) -/
  dividers : List (Nat × Nat) := []
  deriving DecidableEq, Repr

/-- A commit that runs or waits for one (R387, R388): the regions still to write, the opcode whose command it serves (0:
sealing by strap), and that command. -/
structure Commit where
  regions : List Nat
  op : Nat
  cmd : Option HostCmd := none
  deriving DecidableEq, Repr

/-- Refused register writes of one block that wait to be logged (R385): the offset and region of the first, how many, the
moment of the block's last entry, and the moment of the first of these. -/
structure Refused where
  block : Nat
  last : Nat
  n : Nat := 0
  offset : Nat := 0
  region : Nat := 0
  at_ : Nat := 0
  deriving DecidableEq, Repr

structure Hoop where
  /-- audit entries held, oldest first, as four 64-bit words -/
  log : List (List Nat) := []
  /-- how many of them, the newest, are still in the on-chip buffer (R390) -/
  unflushed : Nat := 0
  /-- entries lost from the buffer at the last loss of power -/
  lostPower : Nat := 0
  /-- stored values of RWH fields by key, and of the temperature table; unlisted: the live reset value -/
  stored : List (Nat × Nat) := []
  table : List (Nat × Coef) := []
  /-- the stored image of the controller firmware, and its version -/
  image : List (BitVec 8) := []
  imageVer : Nat := 0
  /-- the commit that runs, first, and those that wait -/
  commits : List Commit := []
  /-- a strap seal waits for a commit -/
  strapWait : Bool := false
  refused : List Refused := []
  /-- strap edges latched in Retention: level and DTIME -/
  latched : List (Bool × Nat) := []
  deriving DecidableEq, Repr

/-- A start, Retention and the supplies (R453–R470), beside their registers. -/
structure Boot where
  /-- the stage that runs -/
  next : Option Nat := none
  /-- tiles calibrated in S6 -/
  cal : Nat := 0
  /-- S5 has failed and the start waits for MEM_VERIFY (R459) -/
  waitMem : Bool := false
  /-- BOOTMODE[1:0] as sampled at the last POR or PIN -/
  mode : Nat := 0
  /-- RESET_N is low; XTAL has failed -/
  pinLow : Bool := false
  xtalOut : Bool := false
  /-- warned rails, with DTIME and EPOCH of the crossing -/
  warn : List (Nat × (Nat × Nat)) := []
  /-- stitch of entry to Retention, and DTIME of the request to leave it -/
  retStitch : Nat := 0
  exitAt : Nat := 0
  deriving DecidableEq, Repr, Inhabited

/-- A forwarded command (R414): its pair sequence number, the stitch of application, and how many frames have carried
it. -/
structure Fwd where
  pseq : Nat
  due : Nat
  op : Nat
  h : HostCmd
  sent : Nat
  deriving DecidableEq, Repr

/-- A trigger that a secondary's own program accepted (R415): set, T, the stitch that qualified it, and whether a frame has
matched it. -/
structure OwnTrig where
  set : Nat
  t : Nat
  stitch : Nat
  matched : Bool := false
  deriving DecidableEq, Repr

structure Pair where
  fwd : List Fwd := []
  /-- stitch in which forwarded commands were last accepted, and how many -/
  accStitch : Nat := 0
  accCount : Nat := 0
  /-- decisions of the present stitch for its mirror frame -/
  trigs : List FrTrig := []
  closes : List FrClose := []
  arms : List FrArm := []
  gens : List FrGen := []
  divs : List FrDiv := []
  own : List OwnTrig := []
  /-- received frames not yet applied -/
  inbox : List MirrorFrame := []
  /-- stitches whose frame was missed and whose own decisions stand in (R413) -/
  missed : List Nat := []
  /-- consecutive missed frames, and the first of them -/
  run : Nat := 0
  firstMiss : Nat := 0
  /-- stitch boundaries since the partner's alive line last had an edge -/
  quiet : Nat := 0
  aliveLevel : Bool := false
  /-- takeover in progress: detection stitch (R419) -/
  takeover : Option Nat := none
  /-- roles exchange at this stitch (R424) -/
  swapAt : Option Nat := none
  /-- training in progress: 1 formation, 2 rejoin, 3 retrain, 4 rejoin by the partner -/
  training : Nat := 0
  /-- stitch at which roles take effect after formation or rejoin (R406, R426) -/
  formAt : Option Nat := none
  /-- announced retrain start -/
  retrainAt : Option Nat := none
  /-- next PSEQ a secondary expects; `none` before the first -/
  expect : Option Nat := none
  /-- would-be triggers of a secondary's programs outside their armed intervals: an interval that a frame opens later may
  take them in -/
  cand : List OwnTrig := []
  /-- stitch whose frame is awaited -/
  rxNext : Nat := 0
  /-- sets that enter ARMED with the roles of a rejoin -/
  armsDue : List FrArm := []
  /-- invalid sync headers of a lane since the last 256 -/
  laneN : List (Nat × Nat) := []
  /-- the pair is dissolved and a last frame says so -/
  lastFrame : Bool := false
  /-- twin check: range, next table index, entries and words so far -/
  twinLo : Nat := 0
  twinHi : Nat := 0
  twinAt : Nat := 0
  twinCount : Nat := 0
  twinWords : List Nat := []
  twinOn : Bool := false
  /-- its command was deferred; range to ask of the partner; own and the partner's digest and count -/
  twinWas : Bool := false
  twinReq : Option (Nat × Nat) := none
  twinOwn : Option (Nat × Nat) := none
  twinPartner : Option (Nat × Nat) := none
  /-- the fault action TAKEOVER asks the secondary to take over (R423) -/
  takeReq : Bool := false
  deriving DecidableEq, Repr

end Sys2Proof.Machine
end

