-- ==== Sys2Proof/Machine/State.lean ====
section
/-! DEFINITION. State: everything the spec gives the LQ6420, as plain data.  Register fields live in one sparse register
file keyed by place (`regs`); a field that is not listed holds its reset value. -/
namespace Sys2Proof.Machine
open Sys2Proof

/-- A fault stops the machine.  No meaning raises one: every command and event of the table has an effect.
`noSuchCell` is kept for an access the spec gives no cell to; safe. -/
inductive Fault where
  | noSuchCell
  deriving DecidableEq, Repr

/-- A refusal.  `notModelled` is the dispatch's answer for a command without a meaning; safe. -/
inductive Refusal where
  | notModelled (mnemonic : String)
  deriving DecidableEq, Repr

/-- The states of the Hoop (R380). -/
inductive SealSt where
  | opened | sealed | broken
  deriving DecidableEq, Repr, Inhabited

/-- The seal: the fused variant, the state, the cause code of the last BROKEN transition, whether a broken interval runs
(R383), and the fuse steps burnt (R394).  Only the transitions of Table 13.2 write it. -/
structure Seal where
  /-- LQ6420-GF -/
  gf : Bool
  st : SealSt
  cause : Nat
  brokenInterval : Bool
  fuseUsed : Nat
  deriving DecidableEq, Repr

/-- Record memory: listed bytes, and the poisoned 64-byte lines by line number, rising.  Only line accesses, verification
and power write it. -/
structure Dram where
  cells : List Host.Cell
  poison : List Nat
  deriving DecidableEq, Repr

/-- Everything else. -/
structure Mach where
  regs : List (Nat × Nat) := []
  smp : Smp := {}
  tb : Tb := {}
  trg : Trg := {}
  cap : Cap := {}
  acc : AccSt := {}
  log : LogSt := {}
  gen : Gens := {}
  hif : Hif := {}
  dma : Dma := {}
  mem : Mem := {}
  flt : Flt := {}
  hk : Hk := {}
  hoop : Hoop := {}
  pair : Pair := {}
  boot : Boot := {}
  out : List Out := []
  tx : Tx := {}
  /-- number of free values taken (the model's own) -/
  freeCtr : Nat := 0
  deriving DecidableEq, Repr

structure State where
  /-- commands waiting, first in first out -/
  pending : List Instr
  hoopSeal : Seal
  dram : Dram
  m : Mach
  deriving DecidableEq, Repr

/-- Right after a power-on reset with the supplies good: stage S0 runs, the Hoop is OPEN, memory is empty, and every register
field has its reset value.  EPOCH, at place 0x400028 bit 0, holds the retained value plus one (R76, R457, Table 16.6).
DESIGN CHOICE (assumption 2): the device is an LQ6420-MF whose flash, Hoop store, fuses and retained EPOCH are blank. -/
def State.reset : State where
  pending := []
  hoopSeal := ⟨false, .opened, 0, false, 0⟩
  dram := ⟨[], []⟩
  m := { regs := [(0x400028 * 32, 1)], boot := { next := some 0 } }

end Sys2Proof.Machine
end

