-- ==== Sys2Proof/Machine/Ops.lean ====
section
/-! DEFINITION. The named operations over the state: sparse tables, register fields, time, free values, events, fault
counts, audit entries, device-produced queues, completions and deferred changes. -/
namespace Sys2Proof.Machine
open Sys2Proof

/-! ### Sparse tables -/

/-- The entry of a table at a key. -/
def tfind {α : Type} : List (Nat × α) → Nat → Option α
  | [], _ => none
  | (a, v) :: t, k => if k = a then some v else tfind t k

/-- The entry of a table at a key, or the value an unlisted key has. -/
def tget {α : Type} (d : α) (t : List (Nat × α)) (k : Nat) : α := (tfind t k).getD d

/-- Put an entry at a key, keeping the keys rising. -/
def tins {α : Type} : List (Nat × α) → Nat → α → List (Nat × α)
  | [], k, v => [(k, v)]
  | (a, w) :: t, k, v =>
    if k < a then (k, v) :: (a, w) :: t
    else if k = a then (a, v) :: t
    else (a, w) :: tins t k v

/-- Remove the entry at a key. -/
def tdel {α : Type} (t : List (Nat × α)) (k : Nat) : List (Nat × α) := t.filter fun p => !decide (p.1 = k)

/-- Set the value at a key; the value an unlisted key has removes the entry, so equal tables are equal lists. -/
def tput {α : Type} [DecidableEq α] (d : α) (t : List (Nat × α)) (k : Nat) (v : α) : List (Nat × α) :=
  if v = d then tdel t k else tins t k v

/-- Keys strictly rising from a bound, and no entry equal to what an unlisted key reads as. -/
def tabWfFrom {α : Type} [DecidableEq α] (d : α) : Nat → List (Nat × α) → Bool
  | _, [] => true
  | lo, (k, v) :: t => decide (lo ≤ k) && decide (v ≠ d) && tabWfFrom d (k + 1) t

/-- The canonical form of a table. -/
def tabWf {α : Type} [DecidableEq α] (d : α) (t : List (Nat × α)) : Bool := tabWfFrom d 0 t

/-- Put a number into a rising list without repeats. -/
def sins : List Nat → Nat → List Nat
  | [], k => [k]
  | a :: t, k => if k < a then k :: a :: t else if k = a then a :: t else a :: sins t k

/-- Stable insertion of `x` into a list sorted by `le`, after its equals. -/
def insBy {α : Type} (le : α → α → Bool) (x : α) : List α → List α
  | [] => [x]
  | y :: t => if le y x then y :: insBy le x t else x :: y :: t

/-- Stable sort by insertion. -/
def sortBy {α : Type} (le : α → α → Bool) (l : List α) : List α := l.foldl (fun acc x => insBy le x acc) []

/-- Apply a function to a state once for each element. -/
def each {α σ : Type} (l : List α) (f : σ → α → σ) (s : σ) : σ := l.foldl f s

/-! ### Register fields -/

/-- What a register field holds; its width bounds it. -/
def Mach.rd (m : Mach) (F : Fld) (ix : List Nat := []) : Nat :=
  (tfind m.regs (F.key ix)).getD (F.rst ix) % 2 ^ F.width

/-- Set a register field (its width bounds the value). -/
def Mach.wr (m : Mach) (F : Fld) (ix : List Nat) (v : Nat) : Mach :=
  { m with regs := tput (F.rst ix) m.regs (F.key ix) (v % 2 ^ F.width) }

/-- A one-bit field as a truth value. -/
def Mach.on (m : Mach) (F : Fld) (ix : List Nat := []) : Bool := m.rd F ix != 0

/-- Set a one-bit field. -/
def Mach.wb (m : Mach) (F : Fld) (ix : List Nat) (b : Bool) : Mach := m.wr F ix b.toNat

/-- A signed register field. -/
def Mach.rdI (m : Mach) (F : Fld) (ix : List Nat := []) : Int := sext F.width (m.rd F ix)

/-- Add to a counter field, which saturates. -/
def Mach.add (m : Mach) (F : Fld) (ix : List Nat) (n : Nat) : Mach :=
  m.wr F ix (min (m.rd F ix + n) (2 ^ F.width - 1))

/-- Count one in a counter field, which saturates. -/
def Mach.inc (m : Mach) (F : Fld) (ix : List Nat) : Mach := m.add F ix 1

/-- Copy a payload field into the register field that mirrors it. -/
def Mach.wrs (m : Mach) (l : List (Fld × List Nat × Nat)) : Mach :=
  l.foldl (fun m p => m.wr p.1 p.2.1 p.2.2) m

/-! ### Free values and output -/

/-- Take a free value of `width` bits: one the spec does not state (assumption 1). -/
def Mach.free (m : Mach) (width : Nat) : Nat × Mach :=
  (Config.freeNat m.freeCtr % 2 ^ width, { m with freeCtr := m.freeCtr + 1 })

/-- Let something leave the package. -/
def Mach.emit (m : Mach) (o : Out) : Mach := { m with out := m.out ++ [o] }

/-! ### Time -/

/-- DTIME, 64 bits in units of 2^-10 ns (R75). -/
def Mach.dtime (m : Mach) : Nat := (m.tb.dt >>> 40) % 2 ^ 64

/-- The present time in units of 2^-18 ns. -/
def Mach.nowT (m : Mach) : Nat := (m.tb.dt >>> 32) % 2 ^ 72

def Mach.epoch (m : Mach) : Nat := m.rd TBS_EPOCH_EPOCH
def Mach.stitch (m : Mach) : Nat := m.tb.stitch

/-- Core cycles since stitch 0. -/
def Mach.cycles (m : Mach) : Nat := m.tb.stitch * 256 + m.tb.cyc

/-- The cycles of Table 1.5's slots, qualification to maintenance: those passed when the slot opens, and those by which its
work is done. -/
def slotTimes : List (Nat × Nat) := [(0, 64), (64, 128), (128, 160), (160, 192), (192, 224), (224, 248)]

/-- How far the cycles of a stitch go until its next slot has been given (assumption 132). -/
def Mach.cycLimit (m : Mach) : Nat := match slotTimes[m.tb.slot]? with | some p => p.2 | none => 256

/-- Slot `i` of the stitch runs now: it is its turn, and its cycles have come (R25). -/
def Mach.slotNow (m : Mach) (i : Nat) : Bool :=
  match slotTimes[i]? with
  | some p => m.tb.running && m.tb.slot == i && decide (p.1 ≤ m.tb.cyc) && decide (m.tb.cyc ≤ p.2)
  | none => false

/-- The slot that a stitch joined at a cycle runs next. -/
def slotFrom (cyc : Nat) : Nat := (slotTimes.filter fun p => decide (p.1 < cyc)).length

/-- The work of slot `i`, which a stitch does once, in its turn. -/
def Mach.inSlot (m : Mach) (i : Nat) (work : Mach → Mach) : Mach :=
  if m.slotNow i then work { m with tb := { m.tb with slot := i + 1 } } else m

/-- Milliseconds in DTIME units. -/
def msDt : Nat := 1024 * 1000000

/-- A microsecond in DTIME units. -/
def usDt : Nat := 1024000

/-- A whole second in DTIME units. -/
def secDt : Nat := 1024 * 1000000000

/-- Drive a pin now. -/
def Mach.pin (m : Mach) (p : Pin) (level : Nat) : Mach := m.emit (.pin p level m.cycles)

/-! ### Device state -/

/-- The device states of R19, in the coding of HIF_DEV.STATE. -/
inductive Dev where
  | full | basting | selvedge | retention
  deriving DecidableEq, Repr

/-- The device state; before stage S4 of a start the services are Basting's (assumption 5). -/
def Mach.dev (m : Mach) : Dev :=
  match m.rd HIF_DEV_STATE with
  | 0 => if m.rd HIF_DEV_STAGE < 7 then .basting else .full
  | 1 => .basting
  | 2 => .selvedge
  | _ => .retention

/-- PF0 is in D0 and its link is up, so the device can reach host memory (R324). -/
def Mach.hostUp (m : Mach) : Bool := m.hif.linkUp && !m.hif.d3hot

/-! ### Fault counts and audit entries -/

/-- Count `n` in a fault source, about one channel, generator or memory channel (R431, R432). -/
def Mach.faultN (m : Mach) (src n inst : Nat) : Mach :=
  { m with flt := { m.flt with pend := m.flt.pend ++ [⟨src, n, inst⟩] } }

def Mach.fault (m : Mach) (src : Nat) (inst : Nat := 0) : Mach := m.faultN src 1 inst

/-! ### ALERT_N -/

/-- HIF_ALERT_STAT and HIF_ALERT_MASK share a set bit (R350). -/
def Mach.alertWanted (m : Mach) : Bool :=
  [(HIF_ALERT_STAT_HOOP_STATE, HIF_ALERT_MASK_HOOP_STATE), (HIF_ALERT_STAT_HOOP_BROKEN, HIF_ALERT_MASK_HOOP_BROKEN),
   (HIF_ALERT_STAT_AUDIT_FULL, HIF_ALERT_MASK_AUDIT_FULL),
   (HIF_ALERT_STAT_PAIR_TAKEOVER, HIF_ALERT_MASK_PAIR_TAKEOVER),
   (HIF_ALERT_STAT_PAIR_LINK, HIF_ALERT_MASK_PAIR_LINK),
   (HIF_ALERT_STAT_PAIR_DIVERGE, HIF_ALERT_MASK_PAIR_DIVERGE)].any fun p => m.on p.1 && m.on p.2

/-- Let ALERT_N follow (open drain, low while wanted). -/
def Mach.alertEval (m : Mach) : Mach :=
  let w := m.alertWanted
  if w = m.hif.alert then m
  else { m with hif := { m.hif with alert := w } }.pin .alertN (if w then 0 else 1)

/-- Set a bit of HIF_ALERT_STAT. -/
def Mach.alert (m : Mach) (F : Fld) : Mach := (m.wr F [] 1).alertEval

/-! ### Device-produced queues -/

def Mach.qst (m : Mach) (q : Nat) : QSt := tget {} m.hif.queues q

def Mach.setQst (m : Mach) (q : Nat) (v : QSt) : Mach :=
  { m with hif := { m.hif with queues := tput {} m.hif.queues q v } }

def Mach.qCreated (m : Mach) (q : Nat) : Bool := m.on HIF_Q_CFG_CREATED [q]
def Mach.qSize (m : Mach) (q : Nat) : Nat := 2 ^ m.rd HIF_Q_CFG_LOG2SIZE [q]
def Mach.qDev (m : Mach) (q : Nat) : Nat := m.rd HIF_Q_PTR_DEV_PTR [q]
def Mach.qHost (m : Mach) (q : Nat) : Nat := m.rd HIF_Q_PTR_HOST_PTR [q]

/-- A queue is full when tail + 1 = head modulo its size (R329). -/
def Mach.qFull (m : Mach) (q : Nat) : Bool := (m.qDev q + 1) % m.qSize q == m.qHost q

/-- Entries of a queue not yet consumed: `tail - head` modulo the size. -/
def Mach.qUsed (m : Mach) (q head tail : Nat) : Nat := (tail + m.qSize q - head) % m.qSize q

/-- The device can write an entry into a device-produced queue now. -/
def Mach.qReady (m : Mach) (q : Nat) : Bool :=
  m.hostUp && m.qCreated q && !m.qFull q && !m.on HIF_Q_STAT_SIZE_MISMATCH [q]

/-- The set a record ring serves (R159). -/
def Mach.ringSet (m : Mach) (q : Nat) : Option Nat :=
  (List.range 16).find? fun s => m.rd CAP_SET_BIND_RRING [s] == q

/-- COAL_COUNT and COAL_TIME that govern a queue's message (R349). -/
def Mach.coal (m : Mach) (q : Nat) : Nat × Nat :=
  if 128 ≤ q ∧ q < 256 then
    match m.ringSet q with
    | some s => (m.rd CAP_SET_COAL_COAL_COUNT [s], m.rd CAP_SET_COAL_COAL_TIME [s])
    | none => (1, 0)
  else if 256 ≤ q ∧ q < 384 then
    (m.rd LOG_RING_COAL_COAL_COUNT [q - 256], m.rd LOG_RING_COAL_COAL_TIME [q - 256])
  else (m.rd HIF_Q_COAL_COAL_COUNT [q], m.rd HIF_Q_COAL_COAL_TIME [q])

/-- Vector control of an MSI-X vector of PF0: masked.  Vectors are masked until the host clears the bit, by the PCI
Express rules (assumption 6). -/
def Mach.msixMasked (m : Mach) (v : Nat) : Bool := bit (tget 1 m.hif.msixTab (16 * v + 12)) 0
def Mach.msixMasked1 (m : Mach) (v : Nat) : Bool := bit (tget 1 m.hif.msixTab1 (16 * v + 12)) 0

/-- Send the message of vector `v` of PF0, or set it pending, or hold it while the host cannot be reached (R324, R349). -/
def Mach.msix (m : Mach) (v : Nat) : Mach :=
  if !m.hostUp then { m with hif := { m.hif with msixDue := sins m.hif.msixDue v } }
  else if m.msixMasked v then { m with hif := { m.hif with msixPend := sins m.hif.msixPend v } }
  else m.emit (.msix 0 v)

/-- Send the message of vector `v` of PF1 (R397). -/
def Mach.msix1 (m : Mach) (v : Nat) : Mach :=
  if m.msixMasked1 v then { m with hif := { m.hif with msixPend1 := sins m.hif.msixPend1 v } }
  else m.emit (.msix 1 v)

/-- Signal a queue: send its message if the queue has its vector enabled, and start a new coalescing count. -/
def Mach.signal (m : Mach) (q : Nat) : Mach :=
  let m := m.setQst q { m.qst q with unsig := 0 }
  if m.on HIF_Q_CFG_IRQ_EN [q] then m.msix q else m

/-- One more unsignalled entry; the message goes when COAL_COUNT entries are written (R158; 0 counts as 1), or at once. -/
def Mach.coalesce (m : Mach) (q : Nat) (now : Bool) : Mach :=
  let st := m.qst q
  let n := st.unsig + 1
  if now || max 1 (m.coal q).1 ≤ n then m.signal q else m.setQst q { st with unsig := n, unsigAt := if st.unsig = 0 then m.dtime else st.unsigAt }

/-- Write one entry into a device-produced queue: `ws phase` are its words (R337, R338). -/
def Mach.produce (m : Mach) (q : Nat) (ws : Nat → List Nat) (now : Bool := false) : Mach :=
  let tail := m.qDev q
  let ph := m.rd HIF_Q_STAT_PHASE [q]
  let m := m.emit (.entry q tail (ws ph))
  let m := m.wr HIF_Q_PTR_DEV_PTR [q] ((tail + 1) % m.qSize q)
  let m := if tail + 1 = m.qSize q then m.wr HIF_Q_STAT_PHASE [q] (1 - ph) else m
  let m := m.inc HIF_Q_CNT_ENTRIES [q]
  let m := m.wb HIF_Q_STAT_FULL [q] (m.qFull q)
  m.coalesce q now

/-! ### Events -/

/-- The words of an event entry (Table 11.7). -/
def evWords (e : EvRec) (lost : Bool) (ph : Nat) : List Nat :=
  [e.cls + lost.toNat <<< 4 + e.code <<< 16 + e.src <<< 32 + ph <<< 63, e.dtime, e.data,
   e.datax + e.epoch <<< 32 + e.datas <<< 48]

/-- The event queue of a class (R347). -/
def Mach.evQueue (m : Mach) (cls : Nat) : Nat := m.rd HIF_EVT_ROUTE_QID [cls]

/-- Write an event into its queue now. -/
def Mach.evWrite (m : Mach) (q : Nat) (e : EvRec) : Mach :=
  let st := m.qst q
  (m.setQst q { st with lost := false }).produce q (evWords e st.lost) e.urgent

/-- Deliver, hold or drop an event (R347, R348). -/
def Mach.evPut (m : Mach) (e : EvRec) : Mach :=
  let q := m.evQueue e.cls
  if m.qReady q && !(m.hif.evbuf.any fun x => m.evQueue x.cls == q) then m.evWrite q e
  else if m.hif.evbuf.length < 256 then { m with hif := { m.hif with evbuf := m.hif.evbuf ++ [e] } }
  else
    let m := m.inc HIF_EVT_ROUTE_DROPPED [e.cls]
    let m := m.inc HIF_Q_LOST_LOST [q]
    let m := m.setQst q { m.qst q with lost := true }
    m.fault 42 e.cls

/-- Place the data items of an event: wide items, then short ones (R346). -/
def evItems (wide short : List Nat) : Nat × Nat × Nat :=
  match wide with
  | a :: b :: _ => (a % 2 ^ 64, b % 2 ^ 32, short.headD 0 % 2 ^ 16)
  | _ => (wide.headD 0 % 2 ^ 64, short.headD 0 % 2 ^ 16 + (short.getD 1 0 % 2 ^ 16) <<< 16, short.getD 2 0 % 2 ^ 16)

/-- An event whose moment is `t` (DTIME units) under EPOCH `ep`. -/
def evRec (t ep cls code src : Nat) (wide short : List Nat) (urgent : Bool := false) : EvRec :=
  let d := evItems wide short
  { cls := cls, code := code, src := src, dtime := t % 2 ^ 64, epoch := ep, data := d.1, datax := d.2.1, datas := d.2.2,
    urgent := urgent }

/-- Raise an event whose moment is `t` (DTIME units), under the present EPOCH or the one given (Table 11.7). -/
def Mach.raiseAt (m : Mach) (t cls code src : Nat) (wide short : List Nat) (ep : Nat := m.epoch) : Mach :=
  m.evPut (evRec t ep cls code src wide short)

/-- Raise an event at the present moment. -/
def Mach.raise (m : Mach) (cls code src : Nat) (wide : List Nat := []) (short : List Nat := []) : Mach :=
  m.raiseAt m.dtime cls code src wide short

/-! ### Commands -/

/-- The words of a completion entry (Table 11.6). -/
def cplWords (c : Cpl) (ph : Nat) : List Nat :=
  [c.result, c.tag + c.status <<< 16 + c.seq <<< 32 + c.head <<< 48 + ph <<< 63]

/-- Write a completion into the queue paired with its submission queue, or hold it while the host cannot be reached. -/
def Mach.putCpl (m : Mach) (c : Cpl) : Mach :=
  if m.hostUp then m.produce (c.q + 1) (cplWords c) c.irqNow
  else { m with hif := { m.hif with held := m.hif.held ++ [c] } }

/-- Complete a command (R340).  `result` counts only with a status that carries one. -/
def Mach.complete (m : Mach) (h : HostCmd) (status result : Nat) : Mach :=
  m.putCpl ⟨h.q.val, result % 2 ^ 64, h.tag.toNat, status, h.seq.toNat, h.irqNow, (h.seq.toNat + 1) % m.qSize h.q.val % 2 ^ 12⟩

/-! ### Audit log -/

/-- Audit kinds (Table 13.3). -/
def auChange : Nat := 0
def auState : Nat := 1
def auRefused : Nat := 2
def auTime : Nat := 3
def auExport : Nat := 4
def auStart : Nat := 5
def auNote : Nat := 6

/-- The seal state in the coding of HOOP_STAT. -/
def SealSt.code : SealSt → Nat
  | .opened => 0 | .sealed => 1 | .broken => 2

def Mach.logUsed (m : Mach) : Nat := m.hoop.log.length

/-- Show the fill of the audit log in the registers (R391). -/
def Mach.logRegs (m : Mach) : Mach :=
  let m := m.wr HOOP_LOG_USED_USED [] m.logUsed
  let m := m.wb HOOP_STAT_LOG_HIGH [] (7680 ≤ m.logUsed)
  let m := m.wb HOOP_STAT_LOG_FULL [] (8128 ≤ m.logUsed)
  (m.wb HIF_ALERT_STAT_AUDIT_FULL [] (8128 ≤ m.logUsed)).alertEval

/-- Enter an audit entry with its moment (R390, R391, R392); at most 256 wait in the buffer for flash.  A full log keeps none and
counts it in LOST; MEC counts it all the same (assumption 153). -/
def Mach.auditAt (m : Mach) (t : Nat) (sl : SealSt) (kind source code a b : Nat) : Mach :=
  let m := if kind = auChange ∨ kind = auState then m.inc HOOP_MEC_MEC [] else m
  if 8192 ≤ m.logUsed then
    let m := m.inc HOOP_LOG_USED_LOST []
    (m.raise 9 0x0009 0 [] [m.rd HOOP_LOG_USED_LOST]).msix1 4
  else
    let w0 := kind + source <<< 4 + sl.code <<< 6 + (code % 256) <<< 8 + m.epoch <<< 16 + m.rd HOOP_MEC_MEC <<< 32
    let m := { m with hoop := { m.hoop with log := m.hoop.log ++ [[w0, t % 2 ^ 64, a % 2 ^ 64, b % 2 ^ 64]],
                                            unflushed := min 256 (m.hoop.unflushed + 1) } }
    let m := m.logRegs
    let m := if m.logUsed = 7680 then (m.raise 9 0x0005 0 [] [m.logUsed]).msix1 3 else m
    if m.logUsed = 8128 then (m.raise 9 0x0006 0 [] [m.logUsed]).msix1 3 else m

def Mach.audit (m : Mach) (sl : SealSt) (kind source code a b : Nat) : Mach :=
  m.auditAt m.dtime sl kind source code a b

/-- A TIME entry with the items of its event (Table 13.3). -/
def Mach.auditTime (m : Mach) (sl : SealSt) (code a b : Nat) : Mach := m.audit sl auTime 2 code a b

/-! Status codes (Table 11.9). -/
def DONE : Nat := 0x0000
def DONE_FLAGS : Nat := 0x0001
def DEFERRED : Nat := 0x0002
def BAD_OPCODE : Nat := 0x0100
def BAD_FIELD : Nat := 0x0101
def BAD_TARGET : Nat := 0x0102
def WRONG_STATE : Nat := 0x0103
def BUSY : Nat := 0x0104
def QUEUE_STALE : Nat := 0x0105
def NO_AREA : Nat := 0x0200
def POST_EXCEEDS_AREA : Nat := 0x0201
def BANDWIDTH : Nat := 0x0202
def PRE_EXCEEDS_RING : Nat := 0x0203
def SEALED : Nat := 0x0300
def SEAL_LOG_FULL : Nat := 0x0301
def OUTSIDE_SEALED_BAND : Nat := 0x0302
def PAIR_NOT_PRIMARY : Nat := 0x0400
def PAIR_LINK_DOWN : Nat := 0x0401
def DMA_HALTED : Nat := 0x0500
def BASTING_ONLY : Nat := 0x0600
def SELVEDGE : Nat := 0x0601
def CLOCK_INVALID : Nat := 0x0700

/-- A completion with DONE. -/
def Mach.done (m : Mach) (h : HostCmd) (result : Nat) : Mach := m.complete h DONE result

/-- Keep an accepted command until its outcome arrives. -/
def Mach.wait (m : Mach) (op : Nat) (h : HostCmd) (at_ : Nat) : Mach :=
  { m with hif := { m.hif with waits := m.hif.waits ++ [⟨op, h, at_⟩] } }

/-- The commands that wait with an opcode and target. -/
def Mach.waitsOf (m : Mach) (op tgt : Nat) : List Wait :=
  m.hif.waits.filter fun w => w.op == op && w.h.tgt == tgt

/-- Take those commands off the list. -/
def Mach.unwait (m : Mach) (op tgt : Nat) : Mach :=
  { m with hif := { m.hif with waits := m.hif.waits.filter fun w => !(w.op == op && w.h.tgt == tgt) } }

/-- Complete every command that waits with an opcode and target. -/
def Mach.finish (m : Mach) (op tgt status result : Nat) : Mach :=
  (m.waitsOf op tgt).foldl (fun m w => m.complete w.h status result) (m.unwait op tgt)

/-- Schedule a change for the boundary that opens a stitch; changes of one boundary apply in order of acceptance
(R342). -/
def Mach.at_ (m : Mach) (due : Nat) (c : Change) : Mach :=
  { m with hif := { m.hif with changes := m.hif.changes ++ [(due, c)] } }

/-! ### Bits of host data and memory bytes -/

/-- 64-bit words as bytes, little-endian. -/
def wordsBytes (ws : List Nat) : List (BitVec 8) := ws.flatMap (toBytes 8)

/-- Write 64-bit words to host memory, in a class of PCIe transmit. -/
def Mach.hostWords (m : Mach) (addr : Nat) (ws : List Nat) (cls : Nat := 3) (d : DataFor := .nobody) : Mach :=
  m.emit (.host addr (wordsBytes ws) cls false d)

/-- Read host data that an accepted command names; such a read never sets No-Snoop (R335). -/
def Mach.hostRead (m : Mach) (addr n : Nat) : Mach := m.emit (.read addr n 3 false)

end Sys2Proof.Machine
end

