-- ==== Sys2Proof/Machine/Command.lean ====
section
/-! DEFINITION. The processing every command shares: the checks of R352 in their order, forwarding to the partner (R414),
refusal and its audit entry, and acceptance with its stitch of application. -/
namespace Sys2Proof.Machine
open Sys2Proof

/-! ### Roles of a pair (TWL_STAT.ROLE) -/
def roleUnpaired : Nat := 0
def roleForming : Nat := 1
def rolePrimary : Nat := 2
def roleSecondary : Nat := 3
def rolePassive : Nat := 4
def roleSolo : Nat := 5

def Mach.role (m : Mach) : Nat := m.rd TWL_STAT_ROLE

/-- The device mirrors its decisions to a partner over a link that is up. -/
def Mach.mirroring (m : Mach) : Bool := m.role == rolePrimary && m.on TWL_STAT_LINK_UP

/-- A formed pair, from formation until it is dissolved: the pair guard and the alive lines apply (R408, R417). -/
def Mach.formed (m : Mach) : Bool := decide (rolePrimary ≤ m.role)

/-- Opcodes that a primary forwards (Table 14.3). -/
def forwarded (op : Nat) : Bool :=
  (0x10 ≤ op && op ≤ 0x3F) || (0x50 ≤ op && op ≤ 0x61) || (0x63 ≤ op && op ≤ 0x65) ||
  (0x70 ≤ op && op ≤ 0x7C) || op == 0x81 || op == 0x82 || op == 0x85 || (0x90 ≤ op && op ≤ 0x92)

/-! ### Services (R21, Table 1.4) -/

/-- What a command asks of the device state.  `acq` serves acquisition: all of it in full service, and in Basting what
Record mode on FC0–FC15 needs; the command says whether its target belongs to that. -/
inductive Svc where
  | any | full | acq (inBasting : Bool)
  deriving DecidableEq, Repr

/-- The status with which R21 refuses a service in the present state. -/
def svcRefusal (v : Svc) (d : Dev) : Option Nat :=
  match d, v with
  | .full, _ => none
  | _, .any => none
  | .basting, .acq true => none
  | .basting, _ => some BASTING_ONLY
  | .selvedge, _ => some SELVEDGE
  | .retention, _ => some WRONG_STATE

/-! ### Channels unused under combining (R15) -/

/-- Combining factor c of the quad of channel `n`. -/
def Mach.comb (m : Mach) (n : Nat) : Nat :=
  match m.rd TIL_QUAD_CFG_FACTOR [n / 4] with
  | 1 => 2 | 2 => 4 | _ => 1

def unusedAt (c n : Nat) : Bool := n % c != 0
def Mach.unused (m : Mach) (n : Nat) : Bool := unusedAt (m.comb n) n

/-! ### The checks -/

/-- What Table 11.8 and a command's own tables fix of it. -/
structure CmdInfo where
  op : Nat
  /-- the defined bits of payload words 1 to 7 -/
  masks : List Nat
  /-- targets in range -/
  tgt : Nat → Bool
  /-- the service it asks for -/
  svc : Mach → HostCmd → Svc := fun _ _ => .full
  /-- it names a channel unused under combining (R15) -/
  r15 : Mach → HostCmd → Bool := fun _ _ => false
  /-- an earlier like command does not make it BUSY -/
  again : Bool := false

/-- The opcode whose commands request a maintenance activity (Table 15.3). -/
def actOp : Nat → Nat
  | 1 => 0x12 | 3 => 0x94 | 6 => 0xE6 | 7 => 0xA5 | 8 => 0xE5 | 9 => 0xD3 | 10 => 0xA4 | 11 => 0x04 | _ => 0x100

/-- A command with an opcode and target runs a maintenance step and has not completed. -/
def Mach.maintPending (m : Mach) (op tgt : Nat) : Bool :=
  m.flt.running.any fun r => !r.was && actOp r.act == op && match r.cmd with | some h => h.tgt == tgt | none => false

/-- Only admin opcodes that a command queue may not hold (R343). -/
def adminOnly (op : Nat) : Bool := op == 0x01 || op == 0x02 || (0x04 ≤ op && op ≤ 0x07)

/-- A payload word has a bit set outside its defined bits. -/
def rsvSet (h : HostCmd) (masks : List Nat) : Bool :=
  (List.range 7).any fun i => h.word (i + 1) &&& masks.getD i 0 != h.word (i + 1)

/-- The role check of Table 14.3. -/
def pairRefusal (op : Nat) (m : Mach) : Option Nat :=
  if forwarded op then
    if m.role = roleSecondary then some PAIR_NOT_PRIMARY
    else if m.role = rolePassive then some PAIR_LINK_DOWN
    else none
  else none

/-- Checks 1 to 6 of R352, in order. -/
def commonRefusal (ci : CmdInfo) (h : HostCmd) (m : Mach) : Option Nat :=
  if adminOnly ci.op && h.q.val != 0 then some BAD_OPCODE
  else if h.rsv != 0 || rsvSet h ci.masks then some BAD_FIELD
  else if !ci.tgt h.tgt || ci.r15 m h then some BAD_TARGET
  else match svcRefusal (ci.svc m h) m.dev with
    | some st => some st
    | none =>
      match pairRefusal ci.op m with
      | some st => some st
      | none =>
        if !ci.again && (!(m.waitsOf ci.op h.tgt).isEmpty || m.maintPending ci.op h.tgt) then some BUSY
        else if forwarded ci.op && m.mirroring && m.on TWL_STAT_RETRAIN then some BUSY
        else none

/-- The first status of a list of checks, each a condition that refuses and its status. -/
def firstOf : List (Bool × Nat) → Option Nat
  | [] => none
  | (c, st) :: t => if c then some st else firstOf t

/-- The stitch of application of a command accepted now: the first boundary, or on a primary that forwards it the fourth,
later still beyond 24 of a stitch (R145, R414). -/
def Mach.dueOf (m : Mach) (op : Nat) : Nat :=
  if forwarded op && m.mirroring then
    m.stitch + 4 + (if m.pair.accStitch = m.stitch then m.pair.accCount / 24 else 0)
  else m.stitch + 1

/-- Note a forwarded command for the mirror frames, with the next PSEQ. -/
def Mach.forward (m : Mach) (op : Nat) (h : HostCmd) : Mach :=
  if forwarded op && m.mirroring then
    let q := m.rd TWL_PSEQ_PSEQ
    let n := if m.pair.accStitch = m.stitch then m.pair.accCount else 0
    let due := m.dueOf op
    let m := m.wr TWL_PSEQ_PSEQ [] (q + 1)
    { m with pair := { m.pair with fwd := m.pair.fwd ++ [⟨q % 65536, due, op, h, 0⟩],
                                   accStitch := m.stitch, accCount := n + 1 } }
  else m

/-- The region that a change command concerns, as a REFUSED entry gives it (Table 13.3, R387; 0 none). -/
def refusedRegion (op : Nat) : Nat :=
  if op = 0x12 then 2 else if op = 0x80 then 6 else if op = 0xB5 then 7 else 0

/-- The entry and the event of a command refused by the Hoop (R385, R2). -/
def Mach.refusedCmd (m : Mach) (sl : SealSt) (op : Nat) : Mach :=
  ((m.audit sl auRefused 0 (refusedRegion op) op 1).fault 51).raise 9 0x0004 0 [] [op, 1]

/-- Complete a refused command.  A sealed change refused because the Hoop is not OPEN is logged (R385). -/
def Mach.refuse (m : Mach) (sl : SealSt) (op : Nat) (h : HostCmd) (st : Nat) : Mach :=
  let m := m.complete h st 0
  if st = SEALED then m.refusedCmd sl op else m

/-- Process a command: its checks, then its effect, given the stitch of application. -/
def runCmd (ci : CmdInfo) (own : HostCmd → State → Option Nat) (eff : HostCmd → Nat → State → State)
    (h : HostCmd) (s : State) : State :=
  match commonRefusal ci h s.m with
  | some st => { s with m := s.m.refuse s.hoopSeal.st ci.op h st }
  | none =>
    match own h s with
    | some st => { s with m := s.m.refuse s.hoopSeal.st ci.op h st }
    | none => eff h (s.m.dueOf ci.op) { s with m := s.m.forward ci.op h }

/-- An effect that touches neither the seal nor memory nor the queue. -/
def lift (f : HostCmd → Nat → State → Mach) (h : HostCmd) (due : Nat) (s : State) : State := { s with m := f h due s }

/-- The same for an event. -/
def State.upd (s : State) (f : Mach → Mach) : State := { s with m := f s.m }

def tgt0 (t : Nat) : Bool := t == 0
def below (n t : Nat) : Bool := decide (t < n)

/-- All bits up to width `n`. -/
def mask (n : Nat) : Nat := 2 ^ n - 1

end Sys2Proof.Machine
end

