-- ==== Sys2Proof/Machine/Memory.lean ====
section
/-! DEFINITION. Record memory: bytes and lines, the address map, usable addresses, queued line accesses, poison and areas
(R290–R316). -/
namespace Sys2Proof.Machine
open Sys2Proof

/-! ### Bytes and lines -/

/-- What an unlisted byte of record memory reads as; the spec leaves it open (assumption 3). -/
def emptyByte : BitVec 8 := 0

/-- Read one byte. -/
def cellAt : List Host.Cell → Nat → BitVec 8
  | [], _ => emptyByte
  | (a, b) :: t, k => if k = a then b else if k < a then emptyByte else cellAt t k

/-- Addresses strictly rising from a bound, and no entry equal to what an unlisted address reads as. -/
def cellsWfFrom : Nat → List Host.Cell → Bool
  | _, [] => true
  | lo, (a, b) :: t => decide (lo ≤ a) && decide (b ≠ emptyByte) && cellsWfFrom (a + 1) t

/-- The canonical form of memory. -/
def Memory.wf (l : List Host.Cell) : Bool := cellsWfFrom 0 l

/-- The listed cells that bytes from an address give. -/
def cellsOf : Nat → List (BitVec 8) → List Host.Cell
  | _, [] => []
  | a, b :: bs => if b = emptyByte then cellsOf (a + 1) bs else (a, b) :: cellsOf (a + 1) bs

/-- Replace the bytes from an address. -/
def writeCells (l : List Host.Cell) (a : Nat) (bs : List (BitVec 8)) : List Host.Cell :=
  (l.takeWhile fun c => decide (c.1 < a)) ++ cellsOf a bs ++ (l.dropWhile fun c => decide (c.1 < a + bs.length))

/-- Forget the bytes of a range: they read as unlisted bytes do. -/
def clearCells (l : List Host.Cell) (lo hi : Nat) : List Host.Cell :=
  l.filter fun c => !(decide (lo ≤ c.1) && decide (c.1 < hi))

/-- `n` bytes from an address. -/
def readCells (l : List Host.Cell) (a n : Nat) : List (BitVec 8) := (List.range n).map fun i => cellAt l (a + i)

def Dram.isPoison (d : Dram) (line : Nat) : Bool := d.poison.contains line

/-- A whole-line write: the line's bytes, and its poison. -/
def Dram.writeLine (d : Dram) (line : Nat) (bs : List (BitVec 8)) (poison : Bool) : Dram :=
  ⟨writeCells d.cells (64 * line) (bs.take 64), if poison then sins d.poison line else d.poison.filter (· != line)⟩

/-- Write a line back poisoned (R309). -/
def Dram.spoil (d : Dram) (line : Nat) : Dram := { d with poison := sins d.poison line }

/-- Write zeros over a range of whole lines (R315). -/
def Dram.clear (d : Dram) (lo hi : Nat) : Dram :=
  ⟨clearCells d.cells lo hi, d.poison.filter fun l => !(decide (lo ≤ 64 * l) && decide (64 * l < hi))⟩

/-! ### Address map (Table 10.2) -/
def mcOf (line : Nat) : Nat := line % 16
def bankOf (line : Nat) : Nat := bits line 4 5
def rowOf (line : Nat) : Nat := bits line 15 17
def rankOf (line : Nat) : Nat := bits line 32 2
/-- A bank of the device as one number: channel, rank, bank. -/
def bankId (line : Nat) : Nat := (mcOf line * 4 + rankOf line) * 32 + bankOf line

def Mach.ranks (m : Mach) : Nat := match m.rd MEM_CFG_RANKS with | 0 => 1 | 1 => 2 | _ => 4
/-- Rows per bank (Table 10.1). -/
def Mach.rowsPerBank (m : Mach) : Nat := match m.rd MEM_CFG_DENSITY with | 0 => 65536 | 1 => 98304 | _ => 131072
/-- The spare rank, where one is kept (R293). -/
def Mach.spareRank (m : Mach) : Option Nat :=
  if m.on MEM_CFG_SPARE_EN && decide (2 ≤ m.ranks) then some (m.ranks - 1) else none

/-- End of the usable addresses of a rank: the highest row is reserved (R293). -/
def Mach.rankEnd (m : Mach) (r : Nat) : Nat := r * 2 ^ 38 + (m.rowsPerBank - 1) * 2 ^ 21

def Mach.rankUsable (m : Mach) (r : Nat) : Bool := decide (r < m.ranks) && m.spareRank != some r

/-- Every address of a range is usable; a range never runs over a rank's end. -/
def Mach.rangeUsable (m : Mach) (lo hi : Nat) : Bool :=
  let r := lo / 2 ^ 38
  m.rankUsable r && decide (hi ≤ m.rankEnd r)

/-- Number of a line among those its channel holds in its rank, as the migrator copies them (R312). -/
def lineInRank (line : Nat) : Nat := bits line 4 28
/-- The rank whose components serve a line: the spare for a retired rank, and for the copied part of one that migrates
(R312). -/
def Mach.physRank (m : Mach) (line : Nat) : Nat :=
  let mc := mcOf line
  let r := rankOf line
  match m.spareRank with
  | none => r
  | some sp =>
    if m.on MEM_MC_STAT_SPARE_USED [mc] && m.rd MEM_MC_STAT_SPARE_FOR [mc] == r then sp
    else if m.on MEM_MC_STAT_MIG [mc] && m.rd MEM_MC_STAT_MIG_RANK [mc] == r &&
        decide (lineInRank line < m.rd MEM_MC_MIG_POINTER [mc]) then sp
    else r

/-! ### Memory state -/
def memUninit : Nat := 0
def memVerifying : Nat := 1
def memAvailable : Nat := 2
def memUnavailable : Nat := 3
def memFailed : Nat := 4
def memRetention : Nat := 5
def Mach.memOk (m : Mach) : Bool := m.rd MEM_STAT_STATE == memAvailable

/-! ### Areas -/
def areaRecord : Nat := 1
def areaAcc : Nat := 2
def areaSpool : Nat := 3
def areaStore : Nat := 4
def areaStaging : Nat := 5

def Mach.areaType (m : Mach) (a : Nat) : Nat := m.rd MEM_AREA_CFG_TYPE [a]
def Mach.areaBase (m : Mach) (a : Nat) : Nat := m.rd MEM_AREA_BASE_VALUE [a] * 65536
def Mach.areaSize (m : Mach) (a : Nat) : Nat := m.rd MEM_AREA_SIZE_VALUE [a] * 65536
def Mach.areaInvalid (m : Mach) (a : Nat) : Bool := m.on MEM_AREA_CFG_INVALID [a]

/-- The area that holds an address. -/
def Mach.areaAt (m : Mach) (addr : Nat) : Option Nat :=
  (List.range 256).find? fun a =>
    m.areaType a != 0 && decide (m.areaBase a ≤ addr) && decide (addr < m.areaBase a + m.areaSize a)

/-- An area becomes INVALID once, with its cause (R316). -/
def Mach.invalidate (m : Mach) (cause a : Nat) : Mach :=
  if m.areaType a = 0 ∨ m.areaInvalid a then m
  else (m.wr MEM_AREA_CFG_INVALID [a] 1).raise 7 0x0007 a [] [cause]

def Mach.invalidateAll (m : Mach) (cause : Nat) : Mach := each (List.range 256) (fun m a => m.invalidate cause a) m

/-! ### Queued accesses -/
def Mach.putReq (m : Mach) (r : MemReq) : Mach := { m with mem := { m.mem with queue := m.mem.queue ++ [r] } }

/-- Queue a write of a line, or of a part of it. -/
def Mach.writeLine (m : Mach) (cls : Nat) (src : MemSrc) (tag line : Nat) (bs : List (BitVec 8)) (poison : Bool)
    (part : Option Nat := none) : Mach :=
  m.putReq { cls := cls, src := src, line := line, data := some bs, poison := poison, since := m.dtime, tag := tag, part := part }

/-- Bytes over a part of a line, the rest as it was (R295). -/
def patch (old : List (BitVec 8)) (ofs : Nat) (bs : List (BitVec 8)) : List (BitVec 8) :=
  old.take ofs ++ bs ++ old.drop (ofs + bs.length)

/-- What a line holds after a queued access of it. -/
def MemReq.bytesAfter (r : MemReq) (old : List (BitVec 8)) : List (BitVec 8) :=
  match r.data, r.part with
  | some bs, none => bs
  | some bs, some o => patch old o bs
  | none, _ => old

/-- A line is poisoned after a queued access of it: a write of a part leaves it as it was. -/
def MemReq.poisonAfter (r : MemReq) (old : Bool) : Bool := if r.data.isSome && r.part.isNone then r.poison else old

/-- The queued accesses of a line, oldest first. -/
def Mach.queuedOf (m : Mach) (line : Nat) : List MemReq := m.mem.queue.filter fun r => r.line == line

/-- A queued write replaces the whole line. -/
def Mach.queued (m : Mach) (line : Nat) : Bool := (m.queuedOf line).any fun r => r.data.isSome && r.part.isNone

/-- A line as its readers see it: memory with the queued writes over it (R297). -/
def State.line (s : State) (line : Nat) : List (BitVec 8) :=
  (s.m.queuedOf line).foldl (fun b r => r.bytesAfter b) (readCells s.dram.cells (64 * line) 64)

def State.linePoison (s : State) (line : Nat) : Bool :=
  (s.m.queuedOf line).foldl (fun b r => r.poisonAfter b) (s.dram.isPoison line)

/-- Bytes of memory as their readers see them. -/
def State.bytes (s : State) (a n : Nat) : List (BitVec 8) :=
  let l0 := a / 64
  let k := if n = 0 then 0 else (a + n - 1) / 64 + 1 - l0
  (((List.range k).flatMap fun i => s.line (l0 + i)).drop (a % 64)).take n

/-- A line of a range reads poisoned. -/
def State.anyPoison (s : State) (a n : Nat) : Bool :=
  let l0 := a / 64
  let k := if n = 0 then 0 else (a + n - 1) / 64 + 1 - l0
  (List.range k).any fun i => s.linePoison (l0 + i)

/-- Queue a write of bytes at any address: whole lines as they are, parts as read-modify-writes (R295). -/
def State.writeBytes (s : State) (cls : Nat) (src : MemSrc) (a : Nat) (bs : List (BitVec 8)) : State :=
  let l0 := a / 64
  let k := if bs.isEmpty then 0 else (a + bs.length - 1) / 64 + 1 - l0
  each (List.range k) (fun s i =>
    let l := l0 + i
    let lo := max a (64 * l)
    let hi := min (a + bs.length) (64 * l + 64)
    let part := (bs.drop (lo - a)).take (hi - lo)
    if part.length = 64 then { s with m := s.m.writeLine cls src 0 l part false }
    else { s with m := s.m.writeLine cls src 0 l part false (some (lo - 64 * l)) }) s

end Sys2Proof.Machine
end

