-- ==== Sys2Proof/Machine/Filter.lean ====
section
/-! DEFINITION. The correction arithmetic of a channel sample (R33, R45, R46): rounding, the skew filter's taps, and the
three filter steps. -/
namespace Sys2Proof.Machine
open Sys2Proof

/-- Nearest integer to `num / den` (`den` positive), ties to even. -/
def roundHalfEven (num den : Int) : Int :=
  let q := num / den
  let r := num % den
  if 2 * r < den then q else if den < 2 * r then q + 1 else if q % 2 = 0 then q else q + 1

/-- Division rounding towards zero. -/
def divTrunc (a b : Int) : Int := Int.tdiv a b

/-- Saturate to 16-bit two's complement (R33). -/
def sat16 (x : Int) : Int := clampI (-32768) 32767 x

/-- The P12 value of a corrected sample (R149). -/
def p12 (x : Int) : Int := clampI (-2048) 2047 (roundHalfEven x 16)

/-- The series Σ u^m / (m!)² at `u = U / 2^34`, scaled by 2^120: I0(2√u), which is the Kaiser window's numerator. -/
def besselSeries (U : Nat) : Nat :=
  let rec go : Nat → Nat → Nat → Nat → Nat
    | 0, _, _, acc => acc
    | fuel + 1, m, term, acc =>
      let t := term * U / (2 ^ 34 * m * m)
      if t = 0 then acc else go fuel (m + 1) t (acc + t)
  go 120 1 (2 ^ 120) (2 ^ 120)

/-- Tap `k` of the windowed sinc at position `k − 8 − D / 65536`, up to a factor common to all taps.  With D no multiple of
65 536 the sine at every position is ± the same value, so the tap is (−1)^k times the window over the position. -/
def rawTap (D : Int) (k : Nat) : Int :=
  let X : Int := ((k : Int) - 8) * 65536 - D
  if 2 ^ 38 < X * X then 0
  else
    let s := (besselSeries (2 ^ 38 - X * X).toNat : Int) * 2 ^ 40 / X
    if k % 2 = 0 then s else -s

/-- Index of the entry of largest magnitude, the lowest at equal magnitudes. -/
def argMax (l : List Int) : Nat :=
  (l.foldl (fun (st : Nat × Nat × Nat) q =>
    let (i, best, mag) := st
    if mag < q.natAbs then (i + 1, i, q.natAbs) else (i + 1, best, mag)) (0, 0, 0)).2.1

/-- The sixteen quantised taps of the skew filter for a delay of `D / 65536` channel samples (R46). -/
def fdTaps (D : Int) : List Int :=
  if D % 65536 = 0 then
    (List.range 16).map fun k : Nat => if (k : Int) = 8 + D / 65536 then (65536 : Int) else 0
  else
    let raw := (List.range 16).map (rawTap D)
    let w := raw.foldl (· + ·) 0
    let (num, den) := if w < 0 then (raw.map (-·), -w) else (raw, w)
    let q := num.map fun t => clampI (-131072) 131071 (roundHalfEven (t * 65536) den)
    let res := 65536 - q.foldl (· + ·) 0
    let i := argMax q
    q.mapIdx fun k t => if k = i then t + res else t

/-- Sum of products. -/
def dot : List Int → List Int → Int
  | a :: as, b :: bs => a * b + dot as bs
  | _, _ => 0

/-- y1 of a raw 12-bit code (R46): scaling, offset, gain. -/
def correctRaw (raw : Int) (c : Coef) : Int :=
  let y0 := raw * 16 - c.off
  y0 + y0 * c.gain / 2 ^ 17

/-- Saturating 16-bit sum of table value and trim, coefficient by coefficient (R45). -/
def Coef.eff (a b : Coef) : Coef :=
  ⟨sat16 (a.off + b.off), sat16 (a.gain + b.gain), sat16 (a.dly + b.dly), sat16 (a.bm + b.bm), sat16 (a.bp + b.bp)⟩

/-- The five coefficients as a list, in the order of Table 2.5. -/
def Coef.list (a : Coef) : List Int := [a.off, a.gain, a.dly, a.bm, a.bp]

def Coef.ofList (l : List Int) : Coef := ⟨l.getD 0 0, l.getD 1 0, l.getD 2 0, l.getD 3 0, l.getD 4 0⟩

/-- Interpolation between two table points with weight `w` of 256 (R49). -/
def lerp (a b : Int) (w : Nat) : Int := a + ((b - a) * w + 128) / 256

def Coef.lerp (a b : Coef) (w : Nat) : Coef :=
  ⟨Machine.lerp a.off b.off w, Machine.lerp a.gain b.gain w, Machine.lerp a.dly b.dly w, Machine.lerp a.bm b.bm w,
   Machine.lerp a.bp b.bp w⟩

/-- What one sample adds to a channel's filters: the new filter state and, once the filters are full, the stream value
after step 3 (R41) with its sample index and whether it marks OVERRANGE: it saturated, or a raw code at an end of the range
has weight in it (R34). -/
structure FilterOut where
  pipe : List PipeEl
  y2 : List (Nat × Int × Bool)
  out : Option (Nat × Int × Bool)

/-- Feed one channel sample through skew and bandwidth filters (R46).  The newest sample A gives y2 of A − 7 and the
output of A − 8. -/
def filterStep (c : Nat) (pipe : List PipeEl) (y2 : List (Nat × Int × Bool)) (el : PipeEl) : FilterOut :=
  let pipe := (el :: pipe).take 17
  match pipe[7]? with
  | some mid =>
    if pipe.length < 16 then ⟨pipe, y2, none⟩
    else
      let taps := fdTaps (mid.dly * c)
      let win := (pipe.take 16).reverse
      let v := dot taps (win.map PipeEl.y1)
      let full := (taps.zip win).any fun p => p.1 != 0 && p.2.ovr
      let y2 := ((mid.idx, v, full) :: y2).take 3
      match y2, pipe[8]? with
      | [(_, hi, fh), (i, me, fm), (_, lo, fl)], some e =>
        let c0 := 65536 - e.bm - e.bp
        let y3 := e.bm * lo + c0 * me + e.bp * hi
        let r := roundHalfEven y3 (2 ^ 32)
        ⟨pipe, y2, some (i, sat16 r, decide (sat16 r ≠ r) || (e.bm != 0 && fl) || (c0 != 0 && fm) || (e.bp != 0 && fh))⟩
      | _, _ => ⟨pipe, y2, none⟩
  | none => ⟨pipe, y2, none⟩

end Sys2Proof.Machine
end

