-- ==== Sys2Proof/Machine/Fir.lean ====
section
/-! DEFINITION. The fixed filters after step 3 of R41: the bandwidth limit and the half-band stages (R42, R43, R498).  Their
taps are constants of the device that nobody publishes: free constants, which count where they meet the masks of R498.
DESIGN CHOICE (assumption 124): where they do not, taps that do stand in their place. -/
namespace Sys2Proof.Machine
open Sys2Proof

/-! ### Responses -/

/-- 2π scaled by 2^60. -/
def twoPi60 : Int := 7244019458077122842

/-- Sine of an angle, both scaled by 2^40, from its power series. -/
def sinOf (x : Int) : Int :=
  let x2 := x * x / 2 ^ 40
  ((List.range 16).foldl (fun (st : Int × Int) (k : Nat) =>
    let (t, s) := st
    let s := s + t
    (-(t * x2 / 2 ^ 40) / ((2 * (k : Int) + 2) * (2 * (k : Int) + 3)), s)) (x, 0)).2

/-- Sine of `p / 2^24` turns, scaled by 2^40. -/
def sin40 (p : Nat) : Int := sinOf ((if p < 2 ^ 23 then (p : Int) else (p : Int) - 2 ^ 24) * twoPi60 / 2 ^ 44)

/-- Frequencies are in cycles per sample, scaled by 2^24. -/
def freqOne : Nat := 2 ^ 24

/-- The response of taps at a frequency, scaled by 2^40: sums with cosine and with sine, plain and weighted by position. -/
def response (h : List Int) (p : Nat) : Int × Int × Int × Int :=
  h.zipIdx.foldl (fun (a, b, ka, kb) (x, k) =>
    let c := x * sin40 ((p * k + freqOne / 4) % freqOne)
    let s := x * sin40 (p * k % freqOne)
    (a + c, b + s, ka + k * c, kb + k * s)) (0, 0, 0, 0)

/-- Power at a frequency, and the power of the sum of the taps, which is that at DC; both scaled by 2^80. -/
def powerAt (h : List Int) (p : Nat) : Int := let r := response h p; r.1 * r.1 + r.2.1 * r.2.1
def powerDc (h : List Int) : Int := (h.foldl (· + ·) 0 * 2 ^ 40) ^ 2

/-- The group delay at a frequency lies within half a sample of `d`. -/
def delayNear (h : List Int) (d : Int) (p : Nat) : Bool :=
  let r := response h p
  let w := r.1 * r.1 + r.2.1 * r.2.1
  decide (2 * (r.1 * r.2.2.1 + r.2.1 * r.2.2.2 - d * w).natAbs ≤ w.natAbs)

/-- Frequencies from `a` to `b` at which a mask is read, both ends among them. -/
def freqGrid (a b : Nat) : List Nat := (List.range 33).map fun i => a + (b - a) * i / 32

/-- The values fall from one to the next. -/
def falling : List Int → Bool
  | a :: b :: t => decide (b < a) && falling (b :: t)
  | _ => true

/-! ### Bandwidth limit (R42) -/

/-- The cut-off of a BWL code (Table 2.4). -/
def bwlEdge : Nat → Nat
  | 1 => 400 * freqOne / 1000
  | 2 => 200 * freqOne / 1000
  | 3 => 100 * freqOne / 1000
  | 4 => 40 * freqOne / 1000
  | 5 => 10 * freqOne / 1000
  | _ => 4 * freqOne / 1000

/-- The mask of a BWL code: half power within 5 % of its cut-off, a monotonic fall to there, a delay of 64. -/
def bwlMask (code : Nat) (h : List Int) : Bool :=
  let e := bwlEdge code
  let g := freqGrid 0 (e * 95 / 100)
  decide (0 < h.foldl (· + ·) 0) && decide (powerDc h ≤ 2 * powerAt h (e * 95 / 100)) &&
  decide (2 * powerAt h (e * 105 / 100) ≤ powerDc h) && falling (g.map (powerAt h)) && g.all (delayNear h 64)

/-- Taps symmetric about position 64, from the middle outwards. -/
def around64 (c : List Int) : List Int :=
  List.replicate (65 - c.length) 0 ++ c.reverse ++ c.drop 1

/-- Taps that meet the mask of a code. -/
def bwlPlain : Nat → List Int
  | 1 => around64 [1000, 97]
  | 2 => around64 [1000, 368]
  | 3 => around64 [1000, 1000, 624]
  | 4 => around64 (List.replicate 6 1)
  | 5 => around64 (List.replicate 23 1)
  | _ => around64 (List.replicate 56 1)

/-- The taps of a BWL code. -/
def bwlTaps (code : Nat) : List Int :=
  let h := Config.taps code
  if bwlMask code h then h else bwlPlain code

/-! ### Half-band stages (R43) -/

/-- The mask of a half-band stage, at its input rate: a pass band to 0.20, 80 dB less above 0.30, a delay of 15. -/
def halfMask (h : List Int) : Bool :=
  let pass := freqGrid 0 (freqOne / 5)
  decide (0 < h.foldl (· + ·) 0) && pass.all (fun p => decide (powerDc h ≤ 2 * powerAt h p)) &&
  (freqGrid (3 * freqOne / 10) (freqOne / 2)).all (fun p => decide (100000000 * powerAt h p ≤ powerDc h)) &&
  pass.all (delayNear h 15)

/-- Taps that meet it: a least-squares fit of a delay of 15 in the pass band and of nothing in the stop band. -/
def halfPlain : List Int :=
  [-103, 53, 517, -167, -1668, 386, 4441, -749, -10746, 1290, 25422, -2033, -65707, 2976, 284525, 520202, 385859, 5332,
   -164969, -6607, 120634, 7820, -100123, -8865, 86470, 9642, -75184, -10076] ++
  [64756, 10120, -54725, -9771, 45087, 9063, -36027, -8069, 27790, 6882, -20594, -5609, 14579, 4353, -9794, -3201, 6186,
   2213, -3627, -1425, 1937, 840, -912, -442, 355, 197, -97, -67]

def halfTaps : List Int :=
  let h := Config.taps 0
  if halfMask h then h else halfPlain

/-! ### The filter of FILTERED (R175): a fourth-order CIC decimating by M, then a symmetric 48-tap FIR -/

/-- Power of the cascade of CIC and FIR at frequency `p`, counted at the rate between them, against that at DC, as a pair to be
compared; the CIC's shape no longer changes beyond M = 64. -/
def cascadeAt (M : Nat) (h : List Int) (p : Nat) : Int × Int :=
  let k := min M 64
  let s := fun (d : Nat) => sinOf (p * twoPi60 / (d * 2 ^ 44))
  (powerAt h p * s 2 ^ 8, powerDc h * (k * s (2 * k)) ^ 8)

/-- The mask of R175: ±0.01 dB to 0.40 of the output rate, and 85 dB less above 0.60 of it. -/
def logMask (M : Nat) (h : List Int) : Bool :=
  decide (h.length = 48) && decide (0 < h.foldl (· + ·) 0) &&
  (freqGrid (freqOne / 160) (freqOne / 5)).all (fun p =>
    let (a, b) := cascadeAt M h p
    decide (10000 * (a - b).natAbs ≤ 23 * b.natAbs)) &&
  (freqGrid (3 * freqOne / 10) (freqOne / 2)).all (fun p => decide (316227766 * powerAt h p ≤ powerDc h))

/-- Taps that meet it, from the middle outwards: a least-squares fit of the reciprocal of the CIC's droop, which is a series in
1 / M². -/
def logPlain : List (Int × Int × Int × Int) :=
  [(2106801, -276721, 28462, -2038), (591805, 68602, -13092, 1168), (-560750, 253836, -30391, 2265), (-346835, 73109,
   -1795, -214), (263664, -124890, 21462, -1861), (224841, -66781, 7098, -339), (-144231, 68128, -12708, 1264), (-151618,
   50578, -6801, 488), (81504, -38344, 7375, -779), (102138, -36075, 5346, -442), (-45006, 21205, -4151, 453), (-67069,
   24502, -3825, 340), (23267, -11078, 2206, -247), (42103, -15730, 2537, -235), (-10678, 5223, -1065, 122), (-24775, 9409,
   -1552, 148), (3890, -2042, 437, -52), (13297, -5117, 859, -84), (-700, 510, -128, 17), (-6224, 2424, -413, 41), (-438,
   80, 2, -2), (2278, -900, 156, -16), (572, -197, 29, -2), (-275, 117, -22, 2)]

/-- The 48 taps behind a CIC that decimates by M. -/
def logTaps (M : Nat) : List Int :=
  let both := fun (l : List Int) => l.reverse ++ l
  let h := both (Config.logTaps M)
  if logMask M h then h
  else both (logPlain.map fun (a, b, c, d) => a * M ^ 6 + b * M ^ 4 + c * M ^ 2 + d)

/-- Running sums, each of the one before, with a new value at the head: the CIC's integrators. -/
def integrate : Int → List Int → List Int
  | _, [] => []
  | x, a :: l => (a + x) :: integrate (a + x) l

/-- Differences of a value along the CIC's combs: the new delays, and what comes out. -/
def combStep : Int → List Int → List Int × Int
  | x, [] => ([], x)
  | x, a :: l => let (t, y) := combStep (x - a) l; (x :: t, y)

/-! ### A filter at work -/

/-- The value of taps over a history, newest first, with a DC gain of exactly 1; `none` where the history is too short.  The
flag is that of any sample with weight. -/
def firAt (h : List Int) (x : List (Int × Bool)) : Option (Int × Bool) :=
  if x.length < h.length then none
  else
    let y := (h.zip x).foldl (fun (a : Int × Int × Bool) p =>
      (a.1 + p.1 * p.2.1, a.2.1 + p.1, a.2.2 || (p.1 != 0 && p.2.2))) (0, 0, false)
    some (sat16 (roundHalfEven y.1 y.2.1), y.2.2)

end Sys2Proof.Machine
end

