-- ==== Sys2Proof/Machine/Clock.lean ====
section
/-! DEFINITION. Device time: the increment of DTIME, the latches of stitch boundaries, and the conversions between times,
stitches and sample indices (R75, R78, R109, R110). -/
namespace Sys2Proof.Machine
open Sys2Proof

def pllSearching : Nat := 0
def pllLocked : Nat := 1
def pllLost : Nat := 2

def Mach.spllLocked (m : Mach) : Bool := m.rd TBS_STATUS_SPLL_ST == pllLocked
def Mach.fallback (m : Mach) : Bool := m.on TBS_STATUS_ACQ_FALLBACK

/-- TPLL states (TBS_STATUS.TPLL_ST). -/
def tpFree : Nat := 0
def tpQualifying : Nat := 1
def tpLocked : Nat := 2
def tpCoasting : Nat := 3
def tpSlewing : Nat := 4
def tpStepPending : Nat := 5

/-- Nearest integer to `a / b`, halves up. -/
def divRound (a b : Nat) : Nat := (2 * a + b) / (2 * b)

/-- DTIME units with 40 fractional bits that a core cycle lasts by the loops' programmed rates (R75, R94): on the
fallback clock 10 240 units per XTAL period, whose cycle is 1.6 ns from CPLL or 10 ns from XTAL. -/
def Mach.baseInc (m : Mach) : Nat :=
  if m.fallback then
    if m.on TBS_STATUS_SYS_FALLBACK then 10240 * 2 ^ 40 else divRound (16384 * 2 ^ 40) 10
  else divRound (2000000 * 1024 * 2 ^ 40) (m.tb.oldKhz.getD (m.rd TBS_SLICE_FREQ_SLICE_KHZ))

/-- How much of the measured offset one cycle removes: SPLL, and sampling and DTIME with it, runs at most 1 ppm fast or slow
while TPLL pulls in or slews (R83, R84). -/
def Mach.cycPull (m : Mach) : Int :=
  if m.fallback || m.rd TBS_STATUS_TPLL_ST == tpStepPending || m.rd TBS_STATUS_TPLL_ST == tpCoasting then 0
  else
    let d : Int := m.baseInc / 1000000
    clampI (-d) d m.tb.offset

/-- DTIME units with 40 fractional bits of a core cycle: its programmed period, whatever SPLL is pulled by (R75, R84). -/
def Mach.cycInc (m : Mach) : Nat := m.baseInc

/-- Quarters of XTAL's 25 per 6.25 fallback cycles: XTAL's edges by the end of the next cycle of the fallback clock, 0 or 1, and
what is left over. -/
def Mach.xtalStep (m : Mach) : Nat × Nat :=
  if m.on TBS_STATUS_SYS_FALLBACK then (1, m.tb.xtal) else ((m.tb.xtal + 4) / 25, (m.tb.xtal + 4) % 25)

/-- What the next core cycle adds to DTIME, with 40 fractional bits: the programmed cycle, or 10 240 units for each XTAL period
that ends with it (R75, assumption 150). -/
def Mach.dtStep (m : Mach) : Nat := if m.fallback then m.xtalStep.1 * (10240 * 2 ^ 40) else m.baseInc

/-- DTIME and the loops after the core cycle just counted: DTIME moves on, a wrap waits for DTIME_WRAP, what TPLL pulls shrinks,
PPSOUT's time runs, and a whole second of locked operation keeps TPLL's word (R75, R81, R83, R90).  The word itself is free
within SPLL's pull of 100 ppm. -/
def Mach.advance (m : Mach) : Mach :=
  let d := m.dtStep
  let t := m.tb.dt + d
  let sec := m.rd TBS_STATUS_TPLL_ST == 2 && t / (secDt * 2 ^ 40) != m.tb.dt / (secDt * 2 ^ 40)
  let tb := { m.tb with
    dt := t % 2 ^ 104
    xtal := if m.fallback then m.xtalStep.2 else 0
    wrapped := if 2 ^ 104 ≤ t then some m.cycles else m.tb.wrapped
    offset := m.tb.offset - m.cycPull
    ppsLeft := m.tb.ppsLeft.map (· - d) }
  if sec then
    let (f, m) := m.free 32
    let w := clampI (-109951162) 109951162 (sext 32 f)
    { m with tb := { tb with word := w, words := (w :: tb.words).take 1024 } }
  else { m with tb := tb }

/-- The word at which SPLL is held from the loss of the reference: the average of the last 2^HOLD_AVG seconds of locked
operation, where there are so many (R81). -/
def Mach.holdWord (m : Mach) : Int :=
  let n := 2 ^ m.rd TBS_CFG_HOLD_AVG
  let l := m.tb.words.take n
  if l.length = n then roundHalfEven (l.foldl (· + ·) 0) n else m.tb.word

/-- EPOCH at the opening of a core cycle counted from stitch 0 (R86). -/
def Mach.epochAt (m : Mach) (c : Nat) : Nat :=
  match m.tb.epochs.find? fun p => decide (p.1 ≤ c) with
  | some p => p.2
  | none => match m.tb.epochs.getLast? with | some p => (p.2 + 65535) % 65536 | none => m.epoch

/-- EPOCH changes between two samples, given by the core cycles they were taken in (R86). -/
def Mach.epochSpan (m : Mach) (a b : Nat) : Bool := m.tb.epochs.any fun p => decide (a < p.1 ∧ p.1 ≤ b)

/-- DTIME and EPOCH of a latch some time on, with 40 fractional bits: DTIME that wraps is of the next EPOCH (R76). -/
def Latch.after (l : Latch) (d : Nat) : Nat × Nat := ((l.t + d) % 2 ^ 104, (l.epoch + (l.t + d) / 2 ^ 104) % 65536)

/-- The latch of a stitch: its own, or one worked out from the newest latch not after it. -/
def Mach.latch (m : Mach) (k : Nat) : Latch :=
  match m.tb.latches.find? fun l => decide (l.stitch ≤ k) with
  | some l => let (t, e) := l.after ((k - l.stitch) * 256 * l.inc); ⟨k, t, e, l.inc⟩
  | none => ⟨k, m.tb.dt, m.epoch, m.cycInc⟩

/-- DTIME and EPOCH an amount with 40 fractional bits after the opening of a stitch (R78). -/
def Mach.timeIn (m : Mach) (k d : Nat) : Nat × Nat := (m.latch k).after d

/-- Latched DTIME of a stitch in DTIME units. -/
def Mach.latchDt (m : Mach) (k : Nat) : Nat := (m.latch k).t >>> 40

/-- Tb: the base sample period in DTIME units with 40 fractional bits, an eighth of a cycle's increment (R78). -/
def tbOf (inc : Nat) : Nat := divRound inc 8

/-- Tb at the present rate. -/
def Mach.tb40 (m : Mach) : Nat := tbOf m.cycInc

/-- The time, with 40 fractional bits, of base sample `b` counted from stitch 0 (R78). -/
def Mach.baseTime (m : Mach) (b : Nat) : Nat :=
  let l := m.latch (b / 2048)
  (l.t + (b % 2048) * tbOf l.inc) % 2 ^ 104

/-- Round a time with 40 fractional bits to units of 2^-18 ns, ties to even (R110). -/
def toT (t : Nat) : Nat := (roundHalfEven t (2 ^ 32)).toNat % 2 ^ 72

/-- The instant of a core cycle of a stitch, in units of 2^-18 ns. -/
def Mach.cycleT (m : Mach) (k cyc : Nat) : Nat := toT ((m.latch k).t + cyc * (m.latch k).inc)

/-- The core cycle, counted from stitch 0, in which an output sample was taken. -/
def Mach.outCycle (m : Mach) (n i : Nat) : Nat := i * 2 ^ m.rd TIL_CH_CFG_DEC_LOG2 [n] / (8 * m.comb n)

/-- The sampling rate of a channel: combining factor, ingest decimation. -/
def Mach.decim (m : Mach) (n : Nat) : Nat := 2 ^ m.rd TIL_CH_CFG_DEC_LOG2 [n]

/-- Base samples, times `c`, between output samples: output index `i` of a channel is base position `i · D / c`. -/
def Mach.outBase (m : Mach) (n i : Nat) : Nat := i * m.decim n / m.comb n

/-- Time, with 40 fractional bits, and EPOCH of output sample `i` of channel `n`: its stitch's latch plus its position times
Tb / c (R78, R109). -/
def Mach.outStamp (m : Mach) (n i : Nat) : Nat × Nat :=
  let p := i * m.decim n
  let c := m.comb n
  let k := p / (2048 * c)
  m.timeIn k ((p % (2048 * c)) * tbOf (m.latch k).inc / c)
def Mach.outTime (m : Mach) (n i : Nat) : Nat := (m.outStamp n i).1

/-- First output index of a stitch. -/
def Mach.firstOut (m : Mach) (n k : Nat) : Nat := ceilDiv (k * 2048 * m.comb n) (m.decim n)

/-- The stitch an output sample was taken in. -/
def Mach.outStitch (m : Mach) (n i : Nat) : Nat := i * m.decim n / (2048 * m.comb n)

/-- Arrival delay of a trigger unit's sample in core cycles, times 8c (Table 4.3). -/
def Mach.arrDelay8c (m : Mach) (n : Nat) : Nat :=
  let c := m.comb n
  40 * 8 * c + (if m.rd TIL_CH_CFG_BWL [n] = 0 then 0 else 64) + 15 * (m.decim n - 1)

/-- The stitch in which an output sample arrives in the core: its sampling instant plus its arrival delay. -/
def Mach.arrStitch (m : Mach) (n i : Nat) : Nat :=
  (i * m.decim n + m.arrDelay8c n) / (2048 * m.comb n)

/-- First output sample of a channel whose time is at or after T (R143), with T and the time of the sample both to the
nearest 2^-18 ns (R110): the least time that rounds to T or above. -/
def Mach.trigSample (m : Mach) (n t : Nat) : Nat :=
  let t40 := t * 2 ^ 32 - 2 ^ 31 + t % 2
  let l := match m.tb.latches.find? fun l => decide (l.t ≤ t40) with
    | some l => l
    | none => m.latch m.stitch
  let c := m.comb n
  -- position in channel samples since the stitch opened, rounded up to an output sample
  let q := ceilDiv ((t40 - l.t) * c) (tbOf l.inc)
  ceilDiv (l.stitch * 2048 * c + q) (m.decim n)

end Sys2Proof.Machine
end

