-- ==== Sys2Proof/Machine/Flags.lean ====
section
/-! DEFINITION. Record flags (Table 5.3): their bits, the flags that stand over a channel's blocks, and the result of a
command that copies flagged data (R344). -/
namespace Sys2Proof.Machine
open Sys2Proof

def fPreShort : Nat := 2 ^ 0
def fTruncated : Nat := 2 ^ 1
def fOverrange : Nat := 2 ^ 2
def fChkMismatch : Nat := 2 ^ 3
def fClkLost : Nat := 2 ^ 4
def fTbCoast : Nat := 2 ^ 5
def fTbEpoch : Nat := 2 ^ 6
def fSupply : Nat := 2 ^ 7
def fPoison : Nat := 2 ^ 8
def fBasted : Nat := 2 ^ 9
def fDiverge : Nat := 2 ^ 10
def fCalLimit : Nat := 2 ^ 11
def fBroken : Nat := 2 ^ 12

/-- `f` or nothing. -/
def flagIf (b : Bool) (f : Nat) : Nat := if b then f else 0

/-- The union of flag sets. -/
def orAll (l : List Nat) : Nat := l.foldl (· ||| ·) 0

/-- TB_COAST marks blocks while TPLL is not LOCKED and SRC is not 0 (R82). -/
def Mach.coasting (m : Mach) : Bool := m.rd TBS_CFG_SRC != 0 && m.rd TBS_STATUS_TPLL_ST != tpLocked

/-- A supply warning stands on some rail (R456). -/
def Mach.supplyWarn (m : Mach) : Bool := m.rd PWR_RAIL_STAT_WARN != 0

/-- Flags that every block of the device carries now: TB_COAST, SUPPLY_EVENT, CLK_LOST and, in a broken interval,
HOOP_BROKEN (R82, R383). -/
def Mach.devFlags (m : Mach) (brokenInterval : Bool) : Nat :=
  flagIf m.coasting fTbCoast ||| flagIf m.supplyWarn fSupply ||| flagIf m.fallback fClkLost |||
  flagIf brokenInterval fBroken

/-- Channels whose slices channel `n` drives (R14). -/
def Mach.driven (m : Mach) (n : Nat) : List Nat := (List.range (m.comb n)).map (n + ·)

/-- Flags that every block of a channel carries now: CAL_ADAPT_LIMIT while a slice it uses is frozen (R53), CHK_MISMATCH
while it is CHK_LASTING (R63). -/
def Mach.chanFlags (m : Mach) (n : Nat) : Nat :=
  flagIf ((m.driven n).any fun k => m.rd TIL_CH_STAT_FROZEN [k] != 0) fCalLimit |||
  flagIf (m.on TIL_CH_STAT_CHK_LASTING [n]) fChkMismatch

/-- RESULT of a copy command: with flags, DONE_FLAGS and the flags in the top 16 bits (R344). -/
def Mach.doneFlags (m : Mach) (h : HostCmd) (flags result : Nat) : Mach :=
  if flags = 0 then m.complete h DONE result
  else m.complete h DONE_FLAGS (result % 2 ^ 48 + flags <<< 48)

end Sys2Proof.Machine
end

