-- ==== Sys2Proof/Machine/Tiles.lean ====
section
/-! DEFINITION. The sampler tiles: channel state, the correction of raw samples into the channel stream, block flags,
temperature interpolation, background trims, check comparison and settling. -/
namespace Sys2Proof.Machine
open Sys2Proof

def chOff : Nat := 0
def chSettling : Nat := 1
def chOn : Nat := 2
def chUnused : Nat := 3

def Mach.chan (m : Mach) (n : Nat) : Chan := tget {} m.smp.chans n
def Mach.setChan (m : Mach) (n : Nat) (c : Chan) : Mach :=
  { m with smp := { m.smp with chans := tput {} m.smp.chans n c } }
def Mach.modChan (m : Mach) (n : Nat) (f : Chan → Chan) : Mach := m.setChan n (f (m.chan n))

def Mach.slice (m : Mach) (s : Nat) : Slice := tget {} m.smp.slices s
def Mach.setSlice (m : Mach) (s : Nat) (v : Slice) : Mach :=
  { m with smp := { m.smp with slices := tput {} m.smp.slices s v } }

def Mach.chState (m : Mach) (n : Nat) : Nat := m.rd TIL_CH_STAT_STATE [n]
def Mach.chIsOn (m : Mach) (n : Nat) : Bool := m.chState n == chOn

/-- Its stream flows: it is ON, or a change of factor is accepted and has not taken effect (Table 2.3). -/
def Mach.flows (m : Mach) (n : Nat) : Bool := m.chIsOn n || (m.chan n).going

def allCh : List Nat := List.range 64
def tileCh (t : Nat) : List Nat := (List.range 16).map (16 * t + ·)
def quadCh (q : Nat) : List Nat := (List.range 4).map (4 * q + ·)

/-! ### Rings and blocks -/

/-- Depth of a channel's ring in samples (R140, Table 2.2). -/
def Mach.depth (m : Mach) (n : Nat) : Nat := m.comb n * 1048576 * 2 / 3

/-- CAP_RING_FILL: valid samples of history, which saturates at the depth (R141). -/
def Mach.fill (m : Mach) (n : Nat) : Nat :=
  let c := m.chan n
  min (m.depth n) (c.histNext - c.fillFrom)

/-- Valid history before output sample `i`. -/
def Mach.fillAt (m : Mach) (n i : Nat) : Nat :=
  let c := m.chan n
  min (m.depth n) (i - c.fillFrom)

/-- Output sample `i` of a channel, where the history holds it. -/
def Chan.sample (c : Chan) (i : Nat) : Option Int :=
  if i < c.histNext then c.hist[c.histNext - 1 - i]? else none

/-- Flags of a block of a channel. -/
def Mach.blkFlags (m : Mach) (n b : Nat) : Nat := tget 0 (m.chan n).blk b

/-- The stitch that names a block: the one in which its first sample was taken, also where a decimated block spans several
(DESIGN CHOICE, assumption 125). -/
def Mach.blkStitch (m : Mach) (n b : Nat) : Nat := m.outStitch n (2048 * b)

/-- Add flags to a block. A block's first OVERRANGE is counted and, after an unflagged block, reported (R34). -/
def Mach.markBlk (m : Mach) (n b flags : Nat) : Mach :=
  let c := m.chan n
  let old := tget 0 c.blk b
  if old ||| flags = old then m
  else
    let m := m.setChan n { c with blk := tput 0 c.blk b (old ||| flags) }
    if flags &&& fOverrange != 0 && old &&& fOverrange == 0 then
      let m := m.inc TIL_CH_OVR_CNT_OVR_BLOCKS [n]
      let m := m.modChan n fun c => { c with estOvr := c.estOvr + 1 }
      if m.on TIL_CH_CFG_OVR_EVT [n] && (b == 0 || m.blkFlags n (b - 1) &&& fOverrange == 0) then
        let k := m.blkStitch n b
        m.raiseAt (m.latchDt k) 2 0x0010 n [k] [] (m.latch k).epoch
      else m
    else m

/-- The blocks of a channel that hold samples of stitch `k`. -/
def Mach.blocksOf (m : Mach) (n k : Nat) : List Nat :=
  let lo := k * m.comb n / m.decim n
  let hi := ((k + 1) * m.comb n - 1) / m.decim n
  (List.range (hi + 1 - lo)).map (lo + ·)

/-- Mark the blocks of stitch `k` of every channel whose stream flows. -/
def Mach.markStitch (m : Mach) (k : Nat) (flags : Nat) : Mach :=
  if flags = 0 then m
  else each allCh (fun m n =>
    if m.flows n then each (m.blocksOf n k) (fun m b => m.markBlk n b flags) m else m) m

/-- Mark the blocks of the present stitch of one channel. -/
def Mach.markChan (m : Mach) (n : Nat) (flags : Nat) : Mach :=
  if flags = 0 then m else each (m.blocksOf n m.stitch) (fun m b => m.markBlk n b flags) m

/-- Keep no more history and flags than rings and records can use, and flags from the block that a stream still needs. -/
def Mach.trimChan (m : Mach) (n from_ : Nat) : Mach :=
  let d := m.depth n
  m.modChan n fun c => { c with
    hist := c.hist.take (d + 65536),
    s3 := c.s3.take (131072 * m.comb n)
    blk := c.blk.filter fun p => decide (c.histNext ≤ (p.1 + 1) * 2048 + d + 2048) || decide (from_ ≤ p.1) }

/-! ### Correction -/

/-- The slice that takes channel sample `i` (R35, R36). -/
def Mach.sliceOf (m : Mach) (n i : Nat) : Nat :=
  let c := m.comb n
  let j := i % (4 * c)
  4 * (n + j % c) + j / c

/-- Coefficients in use by a slice (R45). -/
def Mach.coefOf (m : Mach) (s : Nat) : Coef := let v := m.slice s; v.interp.eff v.trim

/-- The channel takes samples now: its stream flows, or it settles with its slices switched, and no calibration or relock
holds it. -/
def Mach.taking (m : Mach) (n : Nat) : Bool :=
  !(m.chan n).held && !m.fallback &&
  (m.flows n || (m.chState n == chSettling && (m.chan n).settleFrom ≤ m.stitch))

/-- Give a stage of a channel one more input; its value is free while its history is too short (assumption 124). -/
def Mach.firStep (m : Mach) (n stage : Nat) (h : List Int) (x : Int × Bool) : Mach × Int × Bool :=
  let c := m.chan n
  let l := (x :: c.fir.getD stage []).take h.length
  let m := m.setChan n { c with fir := (List.range (max c.fir.length (stage + 1))).map fun j => if j = stage then l else c.fir.getD j [] }
  match firAt h l with
  | some y => (m, y)
  | none => let (y, m) := m.free 16; (m, sext 16 y, false)

/-- The bandwidth limit: input `i` gives the output of `i − 64`, whose delay is taken off its time (R42, R44). -/
def Mach.limit (m : Mach) (n : Nat) (x : Nat × Int × Bool) : Mach × Option (Nat × Int × Bool) :=
  let code := m.rd TIL_CH_CFG_BWL [n]
  if code = 0 then (m, some x)
  else
    let (m, y) := m.firStep n 0 (bwlTaps code) x.2
    (m, if x.1 < 64 then none else some (x.1 - 64, y))

/-- Half-band stage `j`: input `2p + 15` gives output `p` (R43). -/
def Mach.halve (m : Mach) (n j : Nat) (x : Nat × Int × Bool) : Mach × Option (Nat × Int × Bool) :=
  let (m, y) := m.firStep n j halfTaps x.2
  (m, if x.1 < 15 ∨ x.1 % 2 = 0 then none else some ((x.1 - 15) / 2, y))

/-- The bandwidth limit and the cascade of half-band stages, each fed by the one before. -/
def Mach.shape (m : Mach) (n : Nat) (x : Nat × Int × Bool) : Mach × Option (Nat × Int × Bool) :=
  (List.range (m.rd TIL_CH_CFG_DEC_LOG2 [n])).foldl (fun (st : Mach × Option (Nat × Int × Bool)) j =>
    match st.2 with
    | some x => st.1.halve n (j + 1) x
    | none => st) (m.limit n x)

/-- One stream value after step 3 (R41) goes on to check and estimator, and through bandwidth limit and ingest
decimation to the output stream, which delivers from the first valid stitch on. -/
def Mach.stage3 (m : Mach) (n i : Nat) (v : Int) (ovr : Bool) : Mach × List (Nat × Int) :=
  let c := m.comb n
  let D := m.decim n
  let late := fun k => !m.flows n || decide (k / (2048 * c) < (m.chan n).firstValid)
  let m := if late i then m else m.modChan n fun ch => { ch with
      s3 := v :: ch.s3, s3Next := i + 1, estN := ch.estN + 1, estSum := ch.estSum + v,
      estSq := ch.estSq + v.natAbs * v.natAbs }
  match m.shape n (i, v, ovr) with
  | (m, some (p, y, full)) =>
    if late (p * D) then (m, [])
    else
      let m := if full then m.markBlk n (p / 2048) fOverrange else m
      (m.modChan n fun ch => { ch with hist := y :: ch.hist, histNext := p + 1 }, [(p, y)])
  | (m, none) => (m, [])

/-- The filters started empty with this stitch: the samples before `j` that their first output does not reach are of full
stitches (R91), with values that no rule states. -/
def Mach.headFill (m : Mach) (n j : Nat) : Mach × List (Nat × Int) :=
  let i0 := (m.chan n).s3Next
  if !m.flows n || decide (j ≤ i0) || decide (i0 + 17 < j) then (m, [])
  else
    (List.range (j - i0)).foldl (fun (st : Mach × List (Nat × Int)) d =>
      let (x, m) := st.1.free 16
      let (m, o) := m.stage3 n (i0 + d) (sext 16 x) false
      (m, st.2 ++ o)) (m, [])

/-- Take the raw codes of one core cycle of a channel, in sample order; answers the output samples that became ready. -/
def Mach.feed (m : Mach) (n : Nat) (raw : List Int) : Mach × List (Nat × Int) :=
  let c := m.comb n
  let base := (m.tb.stitch * 256 + m.tb.cyc) * 8 * c
  let codes := (List.range (8 * c)).map fun j => raw.getD j 0
  let r := codes.foldl (fun (st : Mach × Nat × List (Nat × Int)) code =>
    let (m, i, outs) := st
    let k := m.coefOf (m.sliceOf n i)
    let ovr := code == -2048 || code == 2047
    let ch := m.chan n
    let fo := filterStep c ch.pipe ch.y2 ⟨i, correctRaw code k, k.dly, k.bm, k.bp, ovr⟩
    let m := m.setChan n { ch with pipe := fo.pipe, y2 := fo.y2 }
    match fo.out with
    | some (j, v, sat) =>
      let (m, o0) := m.headFill n j
      let (m, o) := m.stage3 n j v sat
      (m, i + 1, outs ++ o0 ++ o)
    | none => (m, i + 1, outs)) (m, base, [])
  (r.1, r.2.2)

/-! ### Settling -/

/-- The filters of a channel start empty. -/
def Chan.dry (c : Chan) : Chan := { c with pipe := [], y2 := [], fir := [] }

/-- Begin to take samples with 16 or 64 settling stitches from stitch `k` (Table 2.3): the filters start empty. -/
def Mach.settle (m : Mach) (n k stitches : Nat) (why : Nat := 0) : Mach :=
  let m := m.wr TIL_CH_STAT_STATE [n] chSettling
  m.modChan n fun c => { c.dry with settleFrom := k, firstValid := k + stitches, held := false, going := false, why := why,
                                    estBad := true }

/-- The history starts empty at stitch `k` (R141). -/
def Mach.restartRing (m : Mach) (n k : Nat) : Mach :=
  let i := m.firstOut n k
  m.modChan n fun c => { c with fillFrom := i, histNext := i, hist := [] }

/-- The check window and the estimator interval restart with the channel (the windows of CHK_WIN: DESIGN CHOICE, assumption
126). -/
def Mach.restartWatch (m : Mach) (n k : Nat) : Mach :=
  m.modChan n fun c => { c with s3 := [], s3Next := k * 2048 * m.comb n, chkLen := 0, chkMis := 0, estBad := true }

/-- A channel powers down: its slices, its check converter and its ring stop (R40).  CHK_LASTING stays, for only the end of
a window ends it (R63, assumption 126). -/
def Mach.chanOff (m : Mach) (n state : Nat) : Mach :=
  let m := m.wr TIL_CH_STAT_STATE [n] state
  m.modChan n fun c => { c.dry with s3 := [], hist := [], fillFrom := c.histNext, chkLen := 0, chkMis := 0, estBad := true,
                                    held := false, going := false, why := 0 }

/-! ### Slices: temperature and trims -/

/-- Table entry `p` of a slice (R47). -/
def Mach.tabEntry (m : Mach) (s p : Nat) : Coef := tget {} m.smp.table (32 * s + p)

/-- x, clamped, of a reading in sixteenths of a degree, and whether it needed the clamp (R49). -/
def gridPos (temp base : Int) (step : Nat) : Nat × Bool :=
  let x := (temp - base) * 256 / (step : Int)
  if x < 0 then (0, true) else if 31 * 256 < x then (31 * 256, true) else (x.toNat, false)

/-- Interpolated coefficients of a slice at grid position x. -/
def Mach.interpAt (m : Mach) (s x : Nat) : Coef :=
  let p := x / 256
  let w := x % 256
  if p = 31 then m.tabEntry s 31 else (m.tabEntry s p).lerp (m.tabEntry s (p + 1)) w

/-- All slices of a tile take their values for grid position x. -/
def Mach.interpTile (m : Mach) (t x : Nat) : Mach :=
  each ((List.range 64).map (64 * t + ·)) (fun m s => m.setSlice s { m.slice s with interp := m.interpAt s x }) m

/-- One tile's reading (R49). -/
def Mach.tileReading (m : Mach) (t : Nat) (raw : Nat) : Mach :=
  let temp := sext 16 raw
  let (x, cl) := gridPos temp (m.rdI TIL_TEMP_GRID_BASE [t]) (m.rd TIL_TEMP_GRID_STEP [t])
  let was := m.on TIL_CH_STAT_TEMP_CLAMP [16 * t]
  let m := m.wrs [(TIL_TILE_STAT_TEMP, [t], raw), (TIL_TILE_STAT_POINT, [t], x / 256),
                  (TIL_TILE_STAT_WEIGHT, [t], x % 256)]
  let m := each (tileCh t) (fun m n => m.wb TIL_CH_STAT_TEMP_CLAMP [n] cl) m
  let m := if cl && !was then m.raiseAt (m.latchDt m.stitch) 2 0x0011 t [] [raw] (m.latch m.stitch).epoch else m
  m.interpTile t x

/-- Bands of a slice in coefficient order (R52). -/
def Mach.bands (m : Mach) (s : Nat) : List Nat :=
  [m.rd TIL_SLICE_BAND_A_OFF_BAND [s], m.rd TIL_SLICE_BAND_A_GAIN_BAND [s], m.rd TIL_SLICE_BAND_B_DLY_BAND [s],
   m.rd TIL_SLICE_BAND_B_BW_BAND [s], m.rd TIL_SLICE_BAND_B_BW_BAND [s]]

/-- Candidates against bands: a band of 0 leaves its trim and is not checked; `none` when a check fails. -/
def candidates : List Nat → List Int → List Int → Option (List Int)
  | b :: bs, t :: ts, c :: cs =>
    match candidates bs ts cs with
    | none => none
    | some r => if b = 0 then some (t :: r) else if c.natAbs ≤ b then some (c :: r) else none
  | _, _, _ => some []

/-- Give a slice its trims, which are 16-bit signed numbers (R45; beyond: assumption 129). -/
def Mach.setTrims (m : Mach) (s : Nat) (c : Coef) : Mach :=
  m.setSlice s { m.slice s with trim := Coef.ofList (c.list.map sat16) }

def Mach.frozen (m : Mach) (s : Nat) : Bool := bit (m.rd TIL_CH_STAT_FROZEN [s / 4]) (s % 4)
def Mach.setFrozen (m : Mach) (s : Nat) (b : Bool) : Mach :=
  m.wr TIL_CH_STAT_FROZEN [s / 4] (setBit (m.rd TIL_CH_STAT_FROZEN [s / 4]) (s % 4) b)

/-- All trims and the freeze of a slice are gone. -/
def Mach.clearSlice (m : Mach) (s : Nat) : Mach := (m.setTrims s {}).setFrozen s false

/-- A table commit due replaces the table (R50); the tiles whose measured values it brings lose their trims and freezes
(R58). -/
def Mach.tableSwap (m : Mach) : Mach :=
  match m.smp.tableDue with
  | some t =>
    let due := m.smp.fgDue
    let m := { m with smp := { m.smp with table := t, tableDue := none, fgDue := [] } }
    each due (fun m t => each ((List.range 64).map (64 * t + ·)) (fun m s => m.clearSlice s) m) m
  | none => m

/-- The channel that drives slice `s`. -/
def Mach.driverOf (m : Mach) (s : Nat) : Nat := let n := s / 4; n - n % m.comb n

/-- Freeze a slice at the boundary that opens the present stitch (R53). -/
def Mach.freezeSlice (m : Mach) (s : Nat) : Mach :=
  if m.frozen s then m
  else
    let n := m.driverOf s
    let m := m.setFrozen s true
    let m := m.fault 4 n
    let m := m.raiseAt (m.latchDt m.stitch) 2 0x0012 n [m.stitch] [s] (m.latch m.stitch).epoch
    m.markChan n fCalLimit

/-! ### Check converters -/

/-- Tolerance in check LSB (R61). -/
def Mach.chkTol (m : Mach) : Nat :=
  (roundHalfEven ((m.rd TIL_CHK_TOL_TOL_PCT : Int) * 2097152) 100000).toNat + m.rd TIL_CHK_TOL_TOL_LSB

/-- The window of a check sample: its last channel sample index and length (R60). -/
def Mach.chkWindow (m : Mach) (n at_ : Nat) : Nat × Nat :=
  ((at_ - m.rd TIL_CHK_ALIGN_ALIGN [n]) * m.comb n, 2500 * m.comb n)

/-- The channel samples of a window, where all of them exist. -/
def Chan.window (c : Chan) (last len : Nat) : Option (List Int) :=
  if last < c.s3Next then
    let w := (c.s3.drop (c.s3Next - 1 - last)).take len
    if w.length = len then some w else none
  else none

/-- A sum over a window scaled to check codes (R60). -/
def fastValue (w : List Int) : Int := roundHalfEven (w.foldl (· + ·) 0 * 16) (5 * w.length)

/-- A change of a channel between TRANSIENT and CHK_LASTING (R63), with its moment. -/
def Mach.chkChange (m : Mach) (n : Nat) (lasting : Bool) (t count : Nat) : Mach :=
  let m := m.wb TIL_CH_STAT_CHK_LASTING [n] lasting
  let m := if lasting then (m.fault 5 n).markChan n fChkMismatch else m
  m.raiseAt t 2 0x0013 n [] [lasting.toNat, count]

/-- A check sample ends its place in the window: compared or not, a mismatch or not (R62, R63). -/
def Mach.chkCount (m : Mach) (n t : Nat) (mismatch : Bool) : Mach :=
  let m := m.modChan n fun c => { c with chkLen := c.chkLen + 1, chkMis := c.chkMis + mismatch.toNat }
  let m := if mismatch then m.inc TIL_CHK_CNT_MISMATCH [n] else m
  let thr := m.rd TIL_CHK_WIN_CHK_THR
  let m := if mismatch && (m.chan n).chkMis == thr && !m.on TIL_CH_STAT_CHK_LASTING [n] then
      m.chkChange n true t thr else m
  if (m.chan n).chkLen < m.rd TIL_CHK_WIN_CHK_WIN then m
  else
    let cnt := (m.chan n).chkMis
    let m := m.modChan n fun c => { c with chkLen := 0, chkMis := 0 }
    if m.on TIL_CH_STAT_CHK_LASTING [n] && decide (cnt < thr) then m.chkChange n false t cnt else m

end Sys2Proof.Machine
end

