-- ==== Sys2Proof/Machine/Units.lean ====
section
/-! DEFINITION. Trigger units (R101–R110): crossing detectors, the eight unit types, unit states, interpolated time-stamps,
and the quad segments their candidates drive. -/
namespace Sys2Proof.Machine
open Sys2Proof

def Mach.unit (m : Mach) (u : Nat) : TUnit := tget {} m.trg.units u
def Mach.setUnit (m : Mach) (u : Nat) (v : TUnit) : Mach :=
  { m with trg := { m.trg with units := tput {} m.trg.units u v } }

/-- The stitch whose arrivals the next qualification slot takes: what a source works out after the slot of its stitch of arrival
goes into this one (assumption 138). -/
def Mach.openArr (m : Mach) : Nat := if m.tb.slot = 0 then m.tb.stitch - 1 else m.tb.stitch

/-- Deliver an event or a change of a pattern input. -/
def Mach.putEv (m : Mach) (e : Ev) : Mach :=
  { m with trg := { m.trg with events := m.trg.events ++ [{ e with arr := max e.arr m.openArr }] } }
def Mach.putPChg (m : Mach) (e : PChg) : Mach :=
  { m with trg := { m.trg with pchg := m.trg.pchg ++ [{ e with arr := max e.arr m.openArr }] } }

/-! ### Interpolation (R109) -/

/-- The cubic fit's coefficients c[m] for eight samples, in corrected codes. -/
def Mach.fit (m : Mach) (y : List Int) : List Rat :=
  (List.range 4).map fun i => ((dot ((List.range 8).map fun j => m.rdI TRG_INTERP_KC [i, j]) y : Int) : Rat) / 65536

def polyAt (c : List Rat) (x : Rat) : Rat := c.getD 0 0 + c.getD 1 0 * x + c.getD 2 0 * x * x + c.getD 3 0 * x * x * x
def polyD (c : List Rat) (x : Rat) : Rat := c.getD 1 0 + 2 * c.getD 2 0 * x + 3 * c.getD 3 0 * x * x

/-- Three Newton steps; none where the slope vanishes on the way. -/
def newton (c : List Rat) (lvl : Rat) : Nat → Rat → Option Rat
  | 0, x => if polyD c x = 0 then none else some x
  | n + 1, x => if polyD c x = 0 then none else newton c lvl n (x - (polyAt c x - lvl) / polyD c x)

/-- Position of a crossing of `lvl` before sample 0, in output samples, and whether it is a linear fall-back. -/
def Mach.crossX (m : Mach) (lvl y1 y0 : Int) (win : Option (List Int)) : Rat × Bool :=
  let x0 : Rat := -1 + ((lvl - y1 : Int) : Rat) / ((y0 - y1 : Int) : Rat)
  match win with
  | none => (x0, true)
  | some y =>
    if y.any fun v => v == 32767 || v == -32768 then (x0, true)
    else match newton (m.fit y) (lvl : Rat) 3 x0 with
      | some x => if -1 < x ∧ x ≤ 0 then (x, false) else (x0, true)
      | none => (x0, true)

/-- A time of output sample `i` plus `x` output samples, in units of 2^-18 ns, ties to even (R110); Ts follows the Tb of the
sample's stitch. -/
def Mach.crossT (m : Mach) (n i : Nat) (x : Rat) : Nat :=
  let ts : Rat := ((tbOf (m.latch (m.outStitch n i)).inc * m.decim n : Nat) : Rat) / ((m.comb n : Nat) : Rat)
  let t : Rat := (((m.outTime n i : Nat) : Rat) + x * ts) / ((2 ^ 32 : Nat) : Rat)
  (roundHalfEven t.num t.den).toNat % 2 ^ 72

/-- The core cycle in which an event at output sample `i` plus `x` output samples arrives (Table 4.3). -/
def Mach.crossArr (m : Mach) (n i : Nat) (x : Rat) : Nat :=
  let q : Rat := ((((i : Nat) : Rat) + x) * ((m.decim n : Nat) : Rat) + ((m.arrDelay8c n : Nat) : Rat)) /
    ((8 * m.comb n : Nat) : Rat)
  (q.num / q.den).toNat

/-! ### Lines -/

def Mach.ioKind (m : Mach) (l : Nat) : Nat := m.rd TRG_IO_KIND [l]
def Mach.ioOut (m : Mach) (l : Nat) : Bool := m.on TRG_IO_DIR [l]

/-- Drive an output line active or inactive at a cycle, through its inversion. -/
def Mach.drive (m : Mach) (l : Nat) (active : Bool) (cycle : Nat) : Mach :=
  let lv := (active != m.on TRG_IO_INV [l]).toNat
  (m.wr TRG_IO_PIN_STATE [l] lv).emit (.pin (.line l) lv cycle)

/-- Cycles that a time in tenths of ns lasts, as (numerator, denominator). -/
def Mach.nsCycles (m : Mach) (tenths : Nat) : Nat × Nat := (tenths * 1024 * 2 ^ 40, 10 * m.cycInc)

/-- The lines that follow a signal: an output line itself, or the lines of KIND 3 that carry a generator's marker (R249). -/
def Mach.signalLines (m : Mach) (l : Nat) : List Nat :=
  if l < 112 then [l]
  else (List.range 112).filter fun x => m.ioOut x && m.ioKind x == 3 && m.rd TRG_IO_INDEX [x] + 112 == l

/-- A pulse holds a line or a marker signal high. -/
def Mach.lineHigh (m : Mach) (l : Nat) : Bool := m.trg.pulses.any fun p => p.line == l && p.started

/-- Pulses begin: a line that is not high yet rises. -/
def Mach.startPulses (m : Mach) (sel : Pulse → Bool) : Mach :=
  each (m.trg.pulses.filter sel) (fun m p =>
    let m := if m.lineHigh p.line then m else each (m.signalLines p.line) (fun m l => m.drive l true p.from_) m
    { m with trg := { m.trg with pulses := m.trg.pulses.map fun x => if x = p then { x with started := true } else x } }) m

/-- Pulses are over: a line that no other pulse holds high falls. -/
def Mach.endPulses (m : Mach) (sel : Pulse → Bool) (at_ : Pulse → Nat) : Mach :=
  each (m.trg.pulses.filter sel) (fun m p =>
    let m := { m with trg := { m.trg with pulses := m.trg.pulses.filter fun x => x != p } }
    if !p.started || m.lineHigh p.line then m
    else each (m.signalLines p.line) (fun m l => m.drive l false (at_ p)) m) m

/-- A candidate drives its quad's segment line for four cycles, extended by further candidates (R130). -/
def Mach.quadSegment (m : Mach) (u i : Nat) : Mach :=
  let n := u / 2
  let q := n / 4
  let l := 96 + q
  if m.ioOut l && m.ioKind l == 2 && bit (m.rd TRG_QSEG_MASK [q]) (u % 8) then
    let c := m.comb n
    let (a, b) := m.nsCycles 120
    -- (i·D + extra)/(8c) + 46 + 12 ns, rounded up
    let start := ceilDiv ((i * m.decim n + (m.arrDelay8c n - 320 * c) + 46 * 8 * c) * b + 8 * c * a) (8 * c * b)
    match m.trg.pulses.find? fun p => p.line == l && decide (p.from_ ≤ start) && decide (start ≤ p.to_) with
    | some p =>
      { m with trg := { m.trg with pulses := m.trg.pulses.map fun x => if x = p then { x with to_ := max x.to_ (start + 4) } else x } }
    | none => { m with trg := { m.trg with pulses := m.trg.pulses ++ [⟨l, start, start + 4, 16, false⟩] } }
  else m

/-! ### Crossings become events -/

/-- Finish a crossing: a candidate becomes an event of the unit, a state change a change of its pattern input. -/
def Mach.finishCross (m : Mach) (x : Cross) (cut : Bool) : Mach :=
  let n := x.u / 2
  let ch := m.chan n
  let (p, lin) : Rat × Bool :=
    match x.lvl with
    | none => (0, false)
    | some lvl =>
      let y := (List.range 8).map fun (j : Nat) => if x.idx + j < 4 then none else ch.sample (x.idx + j - 4)
      let present := !cut && decide (x.start + 4 ≤ x.idx) && y.all Option.isSome
      let win := if present then some (y.map fun (v : Option Int) => v.getD 0) else none
      let y1 := if x.idx = 0 then 0 else (ch.sample (x.idx - 1)).getD 0
      m.crossX lvl y1 ((ch.sample x.idx).getD 0) win
  let t := m.crossT n x.idx p
  let c := m.crossArr n x.idx p
  let k := m.outStitch n x.idx
  let m := match x.st with
    | some b => m.putPChg { sid := x.u, v := b, t := t, arr := c / 256, arrC := c, from_ := k }
    | none => m
  if x.cand then
    let m := if lin then m.inc TRG_UNIT_LIN_COUNT [x.u] else m
    m.putEv { sid := x.u, t := t, arr := c / 256, arrC := c, from_ := k }
  else m

/-- Finish the crossings of a channel whose later samples are there. -/
def Mach.flushCross (m : Mach) (n : Nat) : Mach :=
  let next := (m.chan n).histNext
  let ready := m.trg.cross.filter fun x => x.u / 2 == n && decide (x.idx + 3 < next)
  if ready.isEmpty then m
  else
    let rest := m.trg.cross.filter fun x => !(x.u / 2 == n && decide (x.idx + 3 < next))
    each ready (fun m x => m.finishCross x false) { m with trg := { m.trg with cross := rest } }

/-- Keep a crossing until the samples its interpolation needs have come; a candidate is counted, and drives its quad's segment
by its sample (R106, R130). -/
def Mach.addCross (m : Mach) (u i : Nat) (lvl : Option Int) (cand : Bool) (st : Option Bool) : Mach :=
  let m := { m with trg := { m.trg with cross := m.trg.cross ++ [⟨u, (m.unit u).start, i, lvl, cand, st⟩] } }
  if cand then (m.inc TRG_UNIT_CNT_COUNT [u]).quadSegment u i else m

/-! ### One unit and one sample -/

/-- COND of R103 on a duration. -/
def condOk (cond t1 t2 w : Nat) : Bool :=
  match cond with
  | 0 => decide (w < t1)
  | 1 => decide (t1 < w)
  | 2 => decide (t1 ≤ w) && decide (w ≤ t2)
  | _ => true

/-- Settings of a unit. -/
structure UCfg where
  type : Nat
  pol : Nat
  cond : Nat
  a : Int
  b : Int
  h : Int
  t1 : Nat
  t2 : Nat

def Mach.ucfg (m : Mach) (u : Nat) : UCfg :=
  ⟨m.rd TRG_UNIT_CFG_TYPE [u], m.rd TRG_UNIT_CFG_POL [u], m.rd TRG_UNIT_CFG_COND [u], m.rdI TRG_UNIT_LEVEL_LEVEL_A [u],
   m.rdI TRG_UNIT_LEVEL_LEVEL_B [u], max 1 (m.rd TRG_UNIT_HYST_HYST [u] : Int), m.rd TRG_UNIT_T1_T [u],
   m.rd TRG_UNIT_T2_T [u]⟩

/-- A crossing of level A (or B), rising or falling. -/
structure Hit where
  isA : Bool
  rise : Bool

/-- The crossings of one sample, in the order the signal passes the levels, and the detectors after it (R102). -/
def detect (g : UCfg) (v : TUnit) (y : Int) : List Hit × TUnit :=
  let two := g.type == 1 || g.type == 3 || g.type == 5
  let ra := v.ar && decide (g.a ≤ y)
  let fa := v.af && decide (y ≤ g.a)
  let rb := two && v.br && decide (g.b ≤ y)
  let fb := two && v.bf && decide (y ≤ g.b)
  let hits := (if rb then [⟨false, true⟩] else []) ++ (if ra then [⟨true, true⟩] else []) ++
              (if fa then [⟨true, false⟩] else []) ++ (if fb then [⟨false, false⟩] else [])
  (hits, { v with
    ar := !ra && (v.ar || decide (y ≤ g.a - g.h)),
    af := !fa && (v.af || decide (g.a + g.h ≤ y)),
    br := !rb && (v.br || decide (y ≤ g.b - g.h)),
    bf := !fb && (v.bf || decide (g.b + g.h ≤ y)) })

/-- The direction of a crossing is the one POL asks for. -/
def polDir (pol : Nat) (rise : Bool) : Bool := pol == 2 || rise == (pol == 0)

/-- A measurement closed with polarity `neg` and duration w meets POL and COND. -/
def closeOk (g : UCfg) (neg : Bool) (start : Option Nat) (i : Nat) : Bool :=
  match start with
  | none => false
  | some s =>
    (g.pol == 2 || (g.pol == 1) == neg) &&
    (if g.type = 4 then decide (i - s < g.t1) else condOk g.cond g.t1 g.t2 (i - s))

/-- What one crossing at sample `i` does to the unit's measurements, and whether it completes its condition
(Table 4.2). -/
def judge (g : UCfg) (v : TUnit) (i : Nat) (x : Hit) : TUnit × Bool :=
  match g.type with
  | 0 => (v, x.isA && polDir g.pol x.rise)
  | 1 => (v, g.pol == 2 || (x.isA != x.rise) == (g.pol == 0))
  | 2 | 4 =>
    if !x.isA then (v, false)
    else if x.rise then ({ v with openP := some i, openN := none }, closeOk g true v.openN i)
    else ({ v with openN := some i, openP := none }, closeOk g false v.openP i)
  | 3 =>
    match x.isA, x.rise with
    | false, true => ({ v with openP := some i }, false)
    | true, true => ({ v with openP := none, openN := none }, closeOk g true v.openN i)
    | true, false => ({ v with openN := some i }, false)
    | false, false => ({ v with openN := none, openP := none }, closeOk g false v.openP i)
  | 5 =>
    match x.isA, x.rise with
    | false, true => ({ v with openP := some i }, false)
    | false, false => ({ v with openP := none, openN := none }, closeOk g true v.openN i)
    | true, true => ({ v with openN := none, openP := none }, closeOk g false v.openP i)
    | true, false => ({ v with openN := some i }, false)
  | 6 =>
    if !x.isA then (v, false)
    else if polDir g.pol x.rise then ({ v with restart := some i }, false) else ({ v with restart := none }, false)
  | _ =>
    if x.isA && polDir g.pol x.rise then
      ({ v with prev := some i },
       match v.prev with | some p => condOk g.cond g.t1 g.t2 (i - p) | none => false)
    else (v, false)

/-- The state a crossing gives the unit (R105), if it speaks of it. -/
def hitState (g : UCfg) (x : Hit) : Option Bool :=
  if g.type = 1 then some (x.isA != x.rise) else if x.isA then some x.rise else none

/-- State at the first sample of a unit (R105). -/
def startState (g : UCfg) (y : Int) : Bool :=
  if g.type = 1 then decide (g.b < y) && decide (y < g.a) else decide (g.a ≤ y)

/-- Evaluate one output sample of a unit (R101–R107). -/
def Mach.unitSample (m : Mach) (u i : Nat) (y : Int) : Mach :=
  let g := m.ucfg u
  let v0 := m.unit u
  let m := if v0.on then m
    else
      let st := startState g y
      let m := m.wb TRG_UNIT_STAT_RUNNING [u] true
      let m := m.wb TRG_UNIT_STAT_STATE [u] st
      let m := m.setUnit u { on := true, start := i }
      if st then m.addCross u i none false (some true) else m
  let (hits, v) := detect g (m.unit u) y
  let r := hits.foldl (fun (s : Mach × TUnit × Option Int) x =>
    let (m, v, lvl) := s
    let l := if x.isA then g.a else g.b
    let m := match hitState g x with
      | some b =>
        if b = m.on TRG_UNIT_STAT_STATE [u] then m
        else (m.wb TRG_UNIT_STAT_STATE [u] b).addCross u i (some l) false (some b)
      | none => m
    let (v, c) := judge g v i x
    (m, v, if c && lvl.isNone then some l else lvl)) (m, v, none)
  let m := r.1
  let v := r.2.1
  let m := match r.2.2 with
    | some l => m.addCross u i (some l) true none
    | none => m
  match v.restart with
  | some s =>
    if g.type = 6 ∧ s + g.t1 ≤ i then (m.setUnit u { v with restart := none }).addCross u i none true none
    else m.setUnit u v
  | none => m.setUnit u v

/-- A unit's measurements are discarded, and its state is 0 from the boundary of stitch `k` until it starts again. -/
def Mach.resetUnit (m : Mach) (u k : Nat) : Mach :=
  if (m.unit u).on then
    let m := m.putPChg { sid := u, v := false, t := m.cycleT k 0, arr := k }
    let m := m.wb TRG_UNIT_STAT_STATE [u] false
    let m := m.wb TRG_UNIT_STAT_RUNNING [u] false
    m.setUnit u {}
  else m

/-- A unit stops at the boundary of stitch `k` (R107): its crossings have no later samples. -/
def Mach.stopUnit (m : Mach) (u k : Nat) : Mach :=
  let mine := m.trg.cross.filter fun x => x.u == u
  let m := { m with trg := { m.trg with cross := m.trg.cross.filter fun x => x.u != u } }
  (each mine (fun m x => m.finishCross x true) m).resetUnit u k

def Mach.stopUnits (m : Mach) (n k : Nat) : Mach := (m.stopUnit (2 * n) k).stopUnit (2 * n + 1) k

/-- Give a channel's new output samples to its enabled units (R101), then finish the crossings they complete. -/
def Mach.unitsFeed (m : Mach) (n : Nat) (outs : List (Nat × Int)) : Mach :=
  let us := [2 * n, 2 * n + 1].filter fun u => m.on TRG_UNIT_CFG_EN [u]
  let m := each us (fun m u => each outs (fun m p => m.unitSample u p.1 p.2) m) m
  m.flushCross n

end Sys2Proof.Machine
end

