-- ==== Sys2Proof/Machine/Capture.lean ====
section
/-! DEFINITION. Acquisition sets, records and the pricking table (R136–R169): opening, taking, closing and delivering a
record, arming and re-arming, charges and credit.  What a record writes into memory is queued here; MEM_ACCESS carries
it out. -/
namespace Sys2Proof.Machine
open Sys2Proof

/-! ### Sets -/
def siIdle : Nat := 0
def siArmed : Nat := 1
def siRecording : Nat := 2
def siWaiting : Nat := 3
def siDone : Nat := 4
def siStopped : Nat := 5

def Mach.pset (m : Mach) (s : Nat) : PSet := tget {} m.cap.sets s
def Mach.setPset (m : Mach) (s : Nat) (v : PSet) : Mach := { m with cap := { m.cap with sets := tput {} m.cap.sets s v } }
def Mach.modPset (m : Mach) (s : Nat) (f : PSet → PSet) : Mach := m.setPset s (f (m.pset s))
def Mach.modProg (m : Mach) (s : Nat) (f : Prog → Prog) : Mach := m.modPset s fun p => { p with prog := f p.prog }

def allSets : List Nat := List.range 16
def Mach.setState (m : Mach) (s : Nat) : Nat := m.rd CAP_SET_STAT_STATE [s]
def activeSt (st : Nat) : Bool := st == siArmed || st == siRecording || st == siWaiting

/-- An active set (R139). -/
def Mach.active (m : Mach) (s : Nat) : Bool := activeSt (m.setState s)
/-- An active set, or one whose accepted arm waits for its instant (assumption 7). -/
def Mach.arming (m : Mach) (s : Nat) : Bool := m.active s || (m.pset s).armAt.isSome
def Mach.anyActive (m : Mach) : Bool := allSets.any m.active

def Mach.mode (m : Mach) (s : Nat) : Nat := m.rd CAP_SET_CFG_MODE [s]
def Mach.members (m : Mach) (s : Nat) : List Nat := bitList 64 (m.rd CAP_SET_MEMB [s])
def Mach.setOf (m : Mach) (n : Nat) : Option Nat := allSets.find? fun s => bit (m.rd CAP_SET_MEMB [s]) n
def Mach.lead (m : Mach) (s : Nat) : Nat := (m.members s).headD 0
def Mach.pre (m : Mach) (s : Nat) : Nat := m.rd CAP_SET_PRE_PRE [s]
def Mach.post (m : Mach) (s : Nat) : Nat := m.rd CAP_SET_POST [s]
def Mach.recLen (m : Mach) (s : Nat) : Nat := m.pre s + m.post s
def Mach.s16 (m : Mach) (s : Nat) : Bool := m.on CAP_SET_CFG_FORMAT [s]
def Mach.keepData (m : Mach) (s : Nat) : Bool := m.mode s != 2 || m.on ACC_SET_CFG_KEEP_DATA [s]
def Mach.deliver (m : Mach) (s : Nat) : Bool := m.on CAP_SET_CFG_DELIVER [s]
/-- A set that needs memory (Table 5.5, R166). -/
def Mach.needsMem (m : Mach) (s : Nat) : Bool := m.dev != .basting && (m.keepData s || (m.mode s == 2 && m.on ACC_SET_CFG_LOC [s]))
def Mach.fixedList (m : Mach) (s : Nat) : Bool := m.on CAP_SET_CFG_LIST [s]
def Mach.prkCnt (m : Mach) (s : Nat) : Nat := m.rd CAP_SET_PRK_CNT_VALUE [s]
def Mach.seg (m : Mach) (s : Nat) : Nat := m.rd CAP_SET_SEG [s]
def Mach.rring (m : Mach) (s : Nat) : Nat := m.rd CAP_SET_BIND_RRING [s]

/-- The same output rate c · base / D for all of a list of channels (R137). -/
def Mach.sameRate (m : Mach) : List Nat → Bool
  | [] => true
  | n :: ns => ns.all fun k => m.comb k * m.decim n == m.comb n * m.decim k

/-- Rows per slot, block bytes, slot bytes and slots of a set (R151). -/
def nbRows (l : Nat) : Nat := (l + 2046) / 2048 + 1
def Mach.blkBytes (m : Mach) (s : Nat) : Nat := if m.s16 s then 4096 else 3072
def Mach.slotSize (m : Mach) (s : Nat) : Nat := nbRows (m.recLen s) * (m.members s).length * m.blkBytes s
def Mach.slotCount (m : Mach) (s : Nat) : Nat :=
  if m.slotSize s = 0 then 0 else m.areaSize (m.rd CAP_SET_BIND_AREA [s]) / m.slotSize s

/-- Enabled measurement slots of the members, by channel and slot (R222). -/
def Mach.measSlots (m : Mach) (s : Nat) : List (Nat × Nat) :=
  (m.members s).flatMap fun n => ((List.range 8).filter fun k => m.on ACC_MSLOT_CFG_EN [n, k]).map fun k => (n, k)

/-- E lines of a measurement entry for R results (R229). -/
def measLines (r : Nat) : Nat := if r = 0 then 0 else 1 + ceilDiv r 4

/-! ### Charges and credit -/

/-- Bytes per sample, doubled. -/
def Mach.b2 (m : Mach) (s : Nat) : Nat := if m.s16 s then 4 else 3

/-- Accumulation time bins (R209). -/
def Mach.tbins (m : Mach) (s : Nat) : Nat := ceilDiv (m.recLen s) (2 ^ m.rd ACC_SET_CFG_TB_LOG2 [s])
def Mach.accDram (m : Mach) (s : Nat) : Bool := m.on ACC_SET_CFG_LOC [s]

/-- Charge of a set in MB/s, rounded up (R161, R213). -/
def Mach.chargeOf (m : Mach) (s : Nat) : Nat :=
  let n := m.lead s
  let x := (m.members s).length * m.comb n * 4 * m.rd TBS_SLICE_FREQ_SLICE_KHZ * m.rd CAP_SET_DUTY_DUTY [s]
  let d := m.decim n * 65536 * 1000
  if m.mode s = 2 then
    let tb := 2 ^ m.rd ACC_SET_CFG_TB_LOG2 [s]
    let data := if m.keepData s then m.b2 s else 0
    let acc := if !m.accDram s then 0
      else if m.rd ACC_SET_CFG_KIND [s] = 2 then
        match m.rd ACC_SET_CFG_HIT [s] with | 0 => 256 * tb | 1 => 256 | _ => 512
      else 32 * tb
    ceilDiv (x * (data * tb + acc)) (2 * d * tb)
  else ceilDiv (x * m.b2 s) (2 * d)

def Mach.addCommit (m : Mach) (x : Nat) : Mach := m.wr CAP_COMMIT_COMMIT [] (m.rd CAP_COMMIT_COMMIT + x)
def Mach.subCommit (m : Mach) (x : Nat) : Mach := m.wr CAP_COMMIT_COMMIT [] (m.rd CAP_COMMIT_COMMIT - x)
/-- The commitment limit and, below 6 400 MT/s, the real-time limit of the memory (R294). -/
def Mach.overCommit (m : Mach) (x : Nat) : Bool :=
  decide (min (m.rd CAP_COMMIT_LIMIT_LIMIT) (m.rd MEM_RT_LIMIT_LIMIT) < m.rd CAP_COMMIT_COMMIT + x)

/-- Read-modify-writes of DRAM that one record's fold makes at most (R212). -/
def Mach.rmws (m : Mach) (s : Nat) : Nat :=
  let k := (m.members s).length
  if m.mode s ≠ 2 ∨ !m.accDram s then 0
  else if m.rd ACC_SET_CFG_KIND [s] = 2 then
    match m.rd ACC_SET_CFG_HIT [s] with
    | 0 => k * m.recLen s | 1 => k * m.tbins s | _ => 2 * k * m.tbins s
  else k * ceilDiv (m.recLen s) 8

/-- The record write bound W (R152, R214). -/
def Mach.writeBound (m : Mach) (s : Nat) : Nat :=
  (if m.keepData s then (m.members s).length * 64 * (ceilDiv (m.b2 s * m.recLen s) 128 + 1) else 0) + 128 * m.rmws s

/-- Spend credit (R162); it is kept in bytes times SLICE_KHZ. -/
def Mach.spend (m : Mach) (s bytes : Nat) : Mach :=
  m.modPset s fun p => { p with credit := p.credit - (bytes * m.rd TBS_SLICE_FREQ_SLICE_KHZ : Nat) }

/-- One cycle's growth of a set's credit, capped at 2W (R162). -/
def Mach.creditCycle (m : Mach) (s : Nat) : Mach :=
  if activeSt (m.setState s) then
    let khz := m.rd TBS_SLICE_FREQ_SLICE_KHZ
    m.modPset s fun p => { p with
      credit := min (p.credit + (m.rd CAP_SET_CHARGE_CHARGE [s] * 2000 : Nat)) (2 * m.writeBound s * khz : Nat) }
  else m

/-! ### State changes -/

/-- SRAM banks held by sets that are not IDLE. -/
def Mach.bankUse (m : Mach) : Nat :=
  orAll (allSets.map fun s =>
    if m.setState s != siIdle && m.mode s == 2 && !m.accDram s then
      (2 ^ m.rd ACC_SET_BIND_BANK_CNT [s] - 1) * 2 ^ m.rd ACC_SET_BIND_BANK_FIRST [s]
    else 0)

/-- A set's charge is released (R161). -/
def Mach.dropCharge (m : Mach) (s : Nat) : Mach :=
  (m.subCommit (m.rd CAP_SET_CHARGE_CHARGE [s])).wr CAP_SET_CHARGE_CHARGE [s] 0

/-- A set enters a state; one that is not active has no charge (R161). -/
def Mach.enter (m : Mach) (s st : Nat) : Mach :=
  let m := m.wr CAP_SET_STAT_STATE [s] st
  let m := m.wb TRG_SET_STAT_ARMED [s] (st == siArmed)
  let m := if st = siWaiting then m else m.wr CAP_SET_STAT_WAIT [s] 0
  let m := if activeSt st then m else m.dropCharge s
  m.wr ACC_BANK_USE_USED [] m.bankUse

/-- The program stops (R113). -/
def Mach.stopProgram (m : Mach) (s : Nat) : Mach :=
  let m := m.wrs [(TRG_SET_STAT_SEQ, [s], 0), (TRG_SET_STAT_BCOUNT, [s], 0), (TRG_SET_STAT_HOLDOFF, [s], 0)]
  m.modProg s fun p => { p with armedFrom := none }

/-- A set leaves the active states for `st`. -/
def Mach.leave (m : Mach) (s st : Nat) : Mach :=
  let m := (m.stopProgram s).enter s st
  m.modPset s fun p => { p with ending := none, rearm := false, armAt := none, stopAt := none }

/-! ### Opening a record -/

/-- Position of a time in core cycles since stitch 0, rounded up, after adding an amount with 40 fractional bits. -/
def Mach.cycleAfter (m : Mach) (t extra : Nat) : Nat :=
  let t40 := t * 2 ^ 32
  let l := match m.tb.latches.find? fun l => decide (l.t ≤ t40) with
    | some l => l
    | none => m.latch m.stitch
  l.stitch * 256 + ceilDiv (t40 - l.t + extra) m.cycInc

/-- Lines that carry TRIG_OUT of a set. -/
def Mach.trigLines (m : Mach) (s : Nat) : List Nat :=
  (List.range 112).filter fun l => m.ioOut l && m.ioKind l == 1 && m.rd TRG_IO_INDEX [l] == s

/-- 48 ns with 40 fractional bits. -/
def ns48 : Nat := 48 * 1024 * 2 ^ 40

/-- Schedule the TRIG_OUT pulses of an accepted trigger (R126, R127). -/
def Mach.trigOut (m : Mach) (s t : Nat) : Mach :=
  if !m.on TRG_SET_OUT_EN [s] then m
  else
    let due := m.cycleAfter t (ns48 + 512 * m.cycInc)
    let soonest := m.tb.stitch * 256 + 64 + ceilDiv ns48 m.cycInc
    let late := decide (due < soonest)
    let at_ := if late then soonest else due
    let m := if late then
        let m := m.inc TRG_SET_STAT_LATE [s]
        if (m.pset s).prog.saidLate then m
        else ((m.modProg s fun p => { p with saidLate := true }).fault 50).raise 2 0x0022 s [] [soonest - due]
      else m
    each (m.trigLines s) (fun m l =>
      let w := m.rd TRG_SET_OUT_WIDTH [s]
      match m.trg.pulses.find? fun p => p.line == l && decide (p.from_ ≤ at_) && decide (at_ ≤ p.to_) with
      | some p => { m with trg := { m.trg with pulses := m.trg.pulses.map fun x =>
          if x = p then { x with to_ := max x.to_ (at_ + w) } else x } }
      | none => { m with trg := { m.trg with pulses := m.trg.pulses ++ [⟨l, at_, at_ + w, s, false⟩] } }) m

/-- Open a record for an accepted trigger (R143, R144). -/
def Mach.openRecord (m : Mach) (s : Nat) (tr : FrTrig) (flags : Nat) : Mach :=
  let basted := m.dev == .basting
  let r : OpenRec := {
    id := m.cap.ids, seg := tr.seg,
    slot := if m.slotCount s = 0 then 0 else tr.seg % m.slotCount s,
    entry := if m.fixedList s then tr.seg else if m.prkCnt s = 0 then 0 else tr.seg % m.prkCnt s,
    t := tr.t, epoch := tr.epoch, trig := m.trigSample (m.lead s) tr.t, pre := tr.pre, post := m.post s,
    dead := tr.dead, missed := tr.missed, smp := (m.members s).map fun _ => [], basted := basted,
    flags := flags ||| flagIf (decide (tr.pre < m.pre s)) fPreShort ||| flagIf basted fBasted |||
      flagIf (m.role == rolePassive) fDiverge }
  let m := { m with cap := { m.cap with ids := m.cap.ids + 1 } }.inc TRG_SET_ACC_COUNT [s]
  let m := m.wrs [(TRG_SET_LAST, [s], tr.t / 256), (TRG_SET_LAST_X_TFRAC, [s], tr.t % 256),
                  (TRG_SET_LAST_X_EPOCH, [s], tr.epoch), (CAP_SET_STAT_OPEN, [s], 1)]
  let m := m.enter s siRecording
  let whole := decide (tr.pre = m.pre s)
  let m := m.modPset s fun p => { p with recd := some r, taken := p.taken + whole.toNat,
                                         prog := { p.prog with armedFrom := none, missed := 0 } }
  let m := m.putEv { sid := 0x21C + s, t := tr.t, arr := m.tb.stitch }
  m.trigOut s tr.t

/-- The decision an accepted trigger stands for: PRE_VALID, dead time and missed count (R123, R144). -/
def Mach.trigOf (m : Mach) (s t : Nat) : FrTrig :=
  let p := m.pset s
  let i := m.trigSample (m.lead s) t
  let fill := (m.members s).foldl (fun a n => min a (m.fillAt n i)) (m.pre s)
  ⟨s, t, m.epoch, m.seg s, p.dead, min 65535 p.prog.missed, fill⟩

/-- Accept a trigger (R121): the program's holdoff restarts, the record opens, and the frame carries it. -/
def Mach.accept (m : Mach) (s t : Nat) : Mach :=
  let tr := m.trigOf s t
  let m := m.modProg s fun p => { p with lastAcc := some t,
                                         hoLeft := if m.rd TRG_SET_CFG_HO_MODE [s] = 2 then m.rd TRG_SET_HO [s] else 0 }
  let m := { m with pair := { m.pair with trigs := m.pair.trigs ++ [tr] } }
  m.openRecord s tr 0

/-! ### Taking samples -/

/-- Output samples of a member that have arrived before a core cycle, as the index after the last. -/
def Mach.arrivedBefore (m : Mach) (n cyc : Nat) : Nat :=
  ceilDiv (8 * m.comb n * cyc - m.arrDelay8c n) (m.decim n)

/-- The index after the last sample of a member that a record may hold at the slot of the present stitch. -/
def Mach.takeEnd (m : Mach) (n : Nat) (r : OpenRec) : Nat :=
  let k := m.tb.stitch
  let e := match r.cut with
    | some (.arrived c) => m.arrivedBefore n (min (k * 256) c)
    | some (.stitch d) => m.firstOut n (d + 1)
    | none => m.arrivedBefore n (k * 256)
  min (min e (m.chan n).histNext) (r.trig + r.post)

/-- Take the samples that have arrived, of all members alike. -/
def Mach.takeRec (m : Mach) (s : Nat) (r : OpenRec) : OpenRec :=
  let ms := m.members s
  let start := r.trig - r.pre
  let e := ms.foldl (fun a n => min a (m.takeEnd n r)) (r.trig + r.post)
  let got := max r.got (e - start)
  let more := (List.range (got - r.got)).map (start + r.got + ·)
  { r with got := got, smp := (ms.zip r.smp).map fun p => p.2 ++ more.map fun i => ((m.chan p.1).sample i).getD 0 }

/-- Block flags of the members over the samples a record holds. -/
def Mach.recBlkFlags (m : Mach) (s : Nat) (r : OpenRec) : Nat :=
  if r.got = 0 then 0
  else
    let b0 := (r.trig - r.pre) / 2048
    let b1 := (r.trig - r.pre + r.got - 1) / 2048
    orAll ((m.members s).flatMap fun n => (List.range (b1 + 1 - b0)).map fun i => m.blkFlags n (b0 + i))

/-- Three bytes for each pair of 12-bit codes: the packing of R149. -/
def packP12 : List Nat → List (BitVec 8)
  | a :: b :: t => toBytes 3 (a % 4096 + (b % 4096) * 4096) ++ packP12 t
  | [a] => toBytes 2 (a % 4096)
  | [] => []

/-- Bytes of stored codes in a format (R149, R150). -/
def packCodes (s16 : Bool) (codes : List Nat) : List (BitVec 8) :=
  if s16 then codes.flatMap fun c => toBytes 2 (c % 4096 * 16) else packP12 codes

/-- Position of the first byte, and after the last, of block positions a to b − 1. -/
def packRange (s16 : Bool) (a b : Nat) : Nat × Nat := if s16 then (2 * a, 2 * b) else (12 * a / 8, ceilDiv (12 * b) 8)

/-- One row of one member (R151, R152): the lines that hold samples of the record go to memory, or to the on-chip record
store in Basting.  Bits of those lines beside the record's samples are free values. -/
def Mach.writeRow (m : Mach) (s : Nat) (r : OpenRec) (row p n : Nat) : Mach :=
  let s16 := m.s16 s
  let b := m.blkBytes s
  let ofs := (r.trig - r.pre) % 2048
  let lo := if row = 0 then ofs else 0
  let hi := min 2048 (ofs + r.got - 2048 * row)
  if hi ≤ lo then m
  else
    let j0 := 2048 * row + lo - ofs
    let (f, m) := m.free (12 * 2048)
    let vals := ((r.smp.getD p []).drop j0).take (hi - lo)
    let codes := ((List.range lo).map fun i => bits f (12 * i) 12) ++ (vals.map fun v => enc 12 (p12 v)) ++
      ((List.range (2048 - hi)).map fun i => bits f (12 * (hi + i)) 12)
    let bytes := packCodes s16 codes
    let (b0, b1) := packRange s16 lo hi
    let l0 := b0 / 64
    let l1 := (b1 - 1) / 64
    let bad := r.bad.filterMap fun g =>
      if g.1 = n then
        let q := ofs + g.2
        if q / 2048 = row then some (packRange s16 (q % 2048 / 16 * 16) (q % 2048 / 16 * 16 + 16)) else none
      else none
    let poison := fun l => bad.any fun g => decide (g.1 < 64 * (l + 1)) && decide (64 * l < g.2)
    if r.basted then
      let old := tget [] m.cap.baste n
      let base := b * row
      let old := old ++ (List.range (base + 64 * l0 - old.length)).map fun i => BitVec.ofNat 8 (bits f (8 * i) 8)
      let new := old.take (base + 64 * l0) ++ (bytes.drop (64 * l0)).take (64 * (l1 + 1 - l0))
      { m with cap := { m.cap with baste := tins m.cap.baste n new } }
    else
      let start := m.areaBase (m.rd CAP_SET_BIND_AREA [s]) + r.slot * m.slotSize s
      let line0 := (start + (row * (m.members s).length + p) * b) / 64
      each ((List.range (l1 + 1 - l0)).map (l0 + ·)) (fun m l =>
        (m.writeLine 0 (.capture s) r.id (line0 + l) ((bytes.drop (64 * l)).take 64) (poison l)).spend s 64) m

/-- Write rows `a` to `b − 1` of a record, for a set that stores data. -/
def Mach.writeRows (m : Mach) (s : Nat) (r : OpenRec) (a b : Nat) : Mach :=
  if m.keepData s then
    each ((List.range (b - a)).map (a + ·)) (fun m row =>
      each ((m.members s).zipIdx) (fun m p => m.writeRow s r row p.2 p.1) m) m
  else m

/-! ### The pricking entry -/

/-- The words of an entry, PHASE 0 and CHECK filled in (Table 5.4). -/
def prkSeal (w : List Nat) : List Nat :=
  let lo := w.getD 7 0 % 2 ^ 32
  let chk := crc32c (wordsBytes (w.take 7) ++ toBytes 4 lo)
  w.take 7 ++ [lo + chk * 2 ^ 32]

/-- Add record flags to an entry and recompute its CHECK. -/
def flagEntry (f : Nat) (w : List Nat) : List Nat := prkSeal (w.set 2 (w.getD 2 0 ||| f * 2 ^ 32))

/-- A write of a record is queued. -/
def Mach.unwritten (m : Mach) (id : Nat) : Bool :=
  m.mem.queue.any fun q => q.tag == id && (match q.src with | .capture _ => true | _ => false)

/-- Change the entry and the flags of a closed record, wherever they wait. -/
def Mach.editClosed (m : Mach) (id : Nat) (prk : Option Nat) (f : List Nat → List Nat) (g : Closed → Closed) : Mach :=
  { m with cap := { m.cap with
      prk := m.cap.prk.map fun p => if prk = some p.1 then (p.1, f p.2) else p,
      outq := m.cap.outq.map fun (o : RecOut) => if o.id = id then { o with words := f o.words } else o,
      closed := m.cap.closed.map fun (c : Closed) => if c.rec_.id = id then g c else c } }

/-- Records closed a short while ago that hold samples of stitches `a` to `b` gain flags (R91, R456). -/
def Mach.flagRecent (m : Mach) (a b f : Nat) : Mach :=
  each (m.cap.recent.filter fun x => decide (a ≤ x.k1) && decide (x.k0 ≤ b)) (fun m x =>
    let m := m.editClosed x.id x.prk (flagEntry f) fun c => { c with flags := c.flags ||| f }
    { m with cap := { m.cap with
        basteFlags := x.baste.foldl (fun t n => tins t n (tget 0 t n ||| f)) m.cap.basteFlags } }) m

/-- A record's entry. -/
def Mach.prkEntry (m : Mach) (s : Nat) (r : OpenRec) (flags meas : Nat) : List Nat :=
  let (start, slot) :=
    if r.basted then (m.lead s * 1048576, 0)
    else if m.keepData s then (m.areaBase (m.rd CAP_SET_BIND_AREA [s]) + r.slot * m.slotSize s, r.slot)
    else (0, 0xFFFFFF)
  prkSeal [
    start % 2 ^ 40 + (slot % 2 ^ 24) * 2 ^ 40,
    (r.t / 256) % 2 ^ 64,
    r.t % 256 + r.epoch * 2 ^ 8 + s * 2 ^ 24 + m.mode s * 2 ^ 28 + (m.s16 s).toNat * 2 ^ 30 + flags * 2 ^ 32 +
      (m.members s).length * 2 ^ 48,
    r.dead + r.missed * 2 ^ 48,
    r.pre + (r.got - r.pre) * 2 ^ 24,
    meas,
    r.seg % 2 ^ 48 + ((r.trig - r.pre) % 2048) * 2 ^ 48,
    r.corr + min 65535 r.unc * 2 ^ 16]

/-- Effective target of an accumulation and the cause its end carries (R205). -/
def Mach.effTarget (m : Mach) (s : Nat) : Nat × Nat :=
  let cap := if m.rd ACC_SET_CFG_KIND [s] = 0 ∧ m.on ACC_SET_CFG_RES [s] then 2 ^ 48 - 1 else 2 ^ 52 - 1
  let t := m.rd ACC_SET_TARGET [s]
  if t = 0 ∨ cap < t then (cap, 1) else (t, 0)

/-- The set re-arms by itself after a record (R138). -/
def Mach.autoRearm (m : Mach) (s : Nat) : Bool := m.mode s != 0 || m.on CAP_SET_CFG_REARM [s]

/-- What a set does after its record closed: an end already decided, the end of its list or accumulation, DONE, or
re-arm (R122, R156, R205). -/
def Mach.afterClose (m : Mach) (s : Nat) : Mach :=
  let p := m.pset s
  match p.ending with
  | some st => m.leave s st
  | none =>
    let full := m.fixedList s && decide (m.rd CAP_SET_LIST_N_VALUE [s] ≤ m.seg s)
    let m := if full then m.raise 2 0x0031 s [m.rd CAP_SET_LIST_N_VALUE [s]] [] else m
    if m.mode s = 2 then
      let (t, cause) := m.effTarget s
      if full || decide (t ≤ p.taken) then
        m.modPset s fun p => { p with finishing := some (if full then 2 else cause) }
      else m.modPset s fun p => { p with rearm := true }
    else if full || !m.autoRearm s then m.leave s siDone
    else m.modPset s fun p => { p with rearm := true }

/-- Cause code of a truncated record in a mirror frame. -/
def cutCause (truncated : Bool) (c : Option Cut) (mpll : Bool) : Nat :=
  if !truncated then 0 else if mpll then 3 else match c with | some (.stitch _) => 2 | _ => 1

/-- Close a record (R146): its last rows, its flags, its entry, and what measurement and folding need. -/
def Mach.closeRec (m : Mach) (s : Nat) (r : OpenRec) (mpll : Bool) : Mach :=
  let n := m.lead s
  let start := r.trig - r.pre
  let lastI := start + r.got - 1
  let truncated := decide (r.got - r.pre < r.post)
  let spll := match r.cut with | some (.stitch _) => true | _ => false
  let ofs := start % 2048
  let m := m.writeRows s r r.rows (ceilDiv (ofs + r.got) 2048)
  let flags := r.flags ||| m.recBlkFlags s r ||| flagIf truncated fTruncated ||| flagIf (spll || mpll) fClkLost |||
    flagIf (m.epochSpan (m.outCycle n start) (m.outCycle n lastI)) fTbEpoch
  let m := if r.basted then { m with cap := { m.cap with
      basteFlags := (m.members s).foldl (fun t n => tins t n flags) m.cap.basteFlags } } else m
  let needsMeas := !r.basted && m.on ACC_MEAS_BASE_ELINES [s]
  let meas := if !needsMeas then 0xFFFFFFFF
    else m.rd ACC_MEAS_BASE_MEAS_BASE [s] + r.entry * m.rd ACC_MEAS_BASE_ELINES [s]
  let prk := m.rd CAP_SET_PRK_BASE_VALUE [s] + r.entry
  let words := m.prkEntry s r flags meas
  let listed := !r.basted || m.prkCnt s != 0
  let m := if listed then { m with cap := { m.cap with prk := tins m.cap.prk prk words } } else m
  let recent := m.cap.recent.filter fun x => x.prk != some prk && (decide (m.stitch ≤ x.k1 + 16) || m.unwritten x.id)
  let x : RecentRec := {
    id := r.id, prk := if listed then some prk else none, words := words, k0 := m.outStitch n start,
    k1 := m.outStitch n lastI, baste := if r.basted then m.members s else [] }
  let m := { m with cap := { m.cap with recent := recent ++ [x] } }
  let m := if m.deliver s then
      { m with cap := { m.cap with outq := m.cap.outq ++ [⟨s, r.id, r.seg, prk, words⟩] } } else m
  let foldEnd := match r.cut with | some (.stitch d) => m.firstOut n (d - 1) | _ => lastI + 1
  let needsFold := m.mode s == 2
  let m := if needsFold || needsMeas then
      { m with cap := { m.cap with closed := m.cap.closed ++ [
        { set := s, rec_ := r, flags := flags, arr := m.tb.stitch - 1, meas := meas, prk := prk, foldEnd := foldEnd,
          truncated := truncated, measured := !needsMeas, folded := !needsFold }] } } else m
  let m := if needsFold then m.wr ACC_SET_STAT_FOLDING [s] 1 else m
  let m := { m with pair := { m.pair with
    closes := m.pair.closes ++ [FrClose.mk s r.seg (r.got - r.pre) (cutCause truncated r.cut mpll)] } }
  let m := m.wrs [(CAP_SET_STAT_OPEN, [s], 0), (CAP_SET_SEG, [s], r.seg + 1)]
  let tEnd := m.outTime n lastI + m.tb40 * m.decim n / m.comb n
  let m := m.modPset s fun p => { p with recd := none, tEnd := some tEnd }
  m.afterClose s

/-- A record is complete, or its cut has been reached. -/
def Mach.recEnds (m : Mach) (r : OpenRec) : Bool :=
  r.got == r.pre + r.post || match r.cut with
    | some (.arrived c) => decide (c ≤ m.tb.stitch * 256)
    | some (.stitch d) => decide (d < m.tb.stitch)
    | none => false

/-- The bookkeeping of an open record in the present stitch's slot. -/
def Mach.bookRecord (m : Mach) (s : Nat) : Mach :=
  match (m.pset s).recd with
  | none => m
  | some r =>
    let r := m.takeRec s r
    if m.recEnds r then m.closeRec s r false
    else
      let ofs := (r.trig - r.pre) % 2048
      let done := (ofs + r.got) / 2048
      let m := m.writeRows s r r.rows done
      m.modPset s fun p => { p with recd := some { r with rows := max r.rows done, flags := r.flags ||| m.recBlkFlags s r } }

/-! ### Arming -/

/-- Slots and entries of the present run that the driver has not consumed (R157, assumption 8). -/
def Mach.inUse (m : Mach) (s : Nat) : Nat :=
  let q := m.rring s
  min (m.seg s) ((m.cap.outq.filter fun o => o.set == s).length + m.qUsed q (m.qHost q) (m.qDev q))

/-- Causes that hold arm and re-arm, as WAIT bits (R160). -/
def Mach.waitBits (m : Mach) (s : Nat) : Nat :=
  let basted := m.dev == .basting
  let ring := !m.fixedList s && !basted
  let used := m.inUse s
  let noSlot := ring && m.keepData s && decide (m.slotCount s ≤ used)
  let noEntry := ring && decide (m.prkCnt s ≤ used)
  let noRing := m.deliver s && m.qCreated (m.rring s) && m.qFull (m.rring s)
  let noCredit := !basted && decide ((m.pset s).credit < 0)
  let noFill := m.on CAP_SET_CFG_PRE_FILL_WAIT [s] && (m.members s).any fun n => decide (m.fill n < m.pre s)
  noSlot.toNat + 2 * noEntry.toNat + 4 * noRing.toNat + 8 * noCredit.toNat + 16 * noFill.toNat

/-- The arm commands that wait for a set's arm instant complete with its stitch (R163). -/
def Mach.armDone (m : Mach) (s : Nat) : Mach :=
  (m.finish 0x1B s DONE (m.tb.stitch % 2 ^ 32)).finish 0x1D s DONE m.tb.stitch

/-- A set stops before its arm instant comes: an arm command that waits completes, with a result that no rule states
(DESIGN CHOICE, log entry 117). -/
def Mach.armLost (m : Mach) (s : Nat) : Mach :=
  if (m.waitsOf 0x1B s).isEmpty && (m.waitsOf 0x1D s).isEmpty then m
  else
    let (f, m) := m.free 64
    (m.finish 0x1B s DONE (f % 2 ^ 32)).finish 0x1D s DONE f

/-- Enter ARMED at cycle 128 of the present stitch, or WAITING with its causes (R122, R145, R160). -/
def Mach.tryArm (m : Mach) (s : Nat) : Mach :=
  let w := m.waitBits s
  if w = 0 then
    let t40 := (m.latch m.tb.stitch).t + 128 * m.cycInc
    let dead := match (m.pset s).tEnd with
      | some e => min (roundHalfEven (t40 - e) (2 ^ 40)).toNat (2 ^ 48 - 1)
      | none => 0
    let m := (m.enter s siArmed).armDone s
    let m := m.wr TRG_SET_DEAD [s] dead
    let m := m.modPset s fun p => { p with dead := dead, rearm := false,
                                           prog := { p.prog with armedFrom := some (toT t40) } }
    { m with pair := { m.pair with arms := m.pair.arms ++ [FrArm.mk s (toT t40)] } }
  else
    let m := (m.enter s siWaiting).wr CAP_SET_STAT_WAIT [s] w
    let m := m.modPset s fun p => { p with rearm := true }
    if (m.pset s).prog.saidWait then m
    else (m.modProg s fun p => { p with saidWait := true }).raise 2 0x0030 s [] [w]

/-- Clear the set's pricking range (R155). -/
def Mach.clearRange (m : Mach) (s : Nat) : Mach :=
  let lo := m.rd CAP_SET_PRK_BASE_VALUE [s]
  let hi := lo + m.prkCnt s
  let inRange := fun (i : Nat) => decide (lo ≤ i) && decide (i < hi)
  { m with cap := { m.cap with
      prk := m.cap.prk.filter fun p => !inRange p.1,
      recent := m.cap.recent.filter fun x => !x.prk.any inRange } }

/-- The commitment of an arm by the settings that `v` holds, in place of any the set has (R161). -/
def Mach.takeCharge (m v : Mach) (s : Nat) : Mach :=
  let c := if m.dev == .basting then 0 else v.chargeOf s
  ((m.dropCharge s).wr CAP_SET_CHARGE_CHARGE [s] c).addCommit c

/-- The credit that a set has at arm (R162). -/
def Mach.fillCredit (m : Mach) (s : Nat) : Mach :=
  m.modPset s fun p => { p with credit := (2 * m.writeBound s * m.rd TBS_SLICE_FREQ_SLICE_KHZ : Nat) }

/-- Credit grows in every core cycle (R162). -/
def Mach.creditAll (m : Mach) : Mach := each allSets (fun m s => m.creditCycle s) m

/-- A queued record goes to its ring once its writes and its measurement entry are out (R158, R230). -/
def Mach.recReady (m : Mach) (o : RecOut) : Bool :=
  !m.unwritten o.id &&
  !(m.cap.closed.any fun c => c.rec_.id == o.id && !c.measured) &&
  m.qReady (m.rring o.set)

/-- Drop closed records that nothing needs any more. -/
def Mach.dropClosed (m : Mach) : Mach :=
  { m with cap := { m.cap with closed := m.cap.closed.filter fun c => !(c.measured && c.folded) } }

/-- The folds of some closed records of a set are over; FOLDING stays 1 while one still waits (assumption 146). -/
def Mach.foldsOver (m : Mach) (t : Nat) (p : Closed → Bool) : Mach :=
  let closed := m.cap.closed.map fun (c : Closed) => if c.set = t ∧ p c then { c with folded := true } else c
  ({ m with cap := { m.cap with closed := closed } }.dropClosed).wb ACC_SET_STAT_FOLDING [t]
    (closed.any fun c => c.set == t && !c.folded)

end Sys2Proof.Machine
end

