-- ==== Sys2Proof/Machine/Programs.lean ====
section
/-! DEFINITION. Trigger programs (R113–R125): the pattern, the sequence, holdoff, armed intervals, and the qualification
of one stitch's events. -/
namespace Sys2Proof.Machine
open Sys2Proof

/-! ### SIDs (Table 4.1) -/
def sidNone : Nat := 0x3FF
/-- A SID that a program may name as an event. -/
def sidEvent (x : Nat) : Bool := decide (x ≤ 0x22C) || x == 0x3F0 || x == 0x3F1 || x == sidNone
/-- A SID usable as a pattern input. -/
def sidPattern (x : Nat) : Bool := decide (x ≤ 0x1EF)

/-! ### Pattern -/

/-- The non-ignored terms of a set's pattern: SID and the level asked for. -/
def Mach.terms (m : Mach) (s : Nat) : List (Nat × Bool) :=
  (List.range 64).filterMap fun i =>
    match m.rd TRG_PAT_COND [s, i] with
    | 1 => some (m.rd TRG_PAT_SID [s, i], true)
    | 2 => some (m.rd TRG_PAT_SID [s, i], false)
    | _ => none

/-- State of a pattern input at a time, by the changes available in the slot of stitch `k`; `strict` leaves out changes at
that time itself. -/
def Mach.inputAt (m : Mach) (k sid t : Nat) (strict : Bool) : Bool :=
  let cs := m.trg.pchg.filter fun c => c.sid == sid && decide (c.arr < k) && (if strict then decide (c.t < t) else decide (c.t ≤ t))
  match (sortBy (fun a b => decide (a.t ≤ b.t)) cs).getLast? with
  | some c => c.v
  | none => tget 0 m.trg.inBase sid != 0

/-- Combine matches by the pattern operator (R114). -/
def patCombine (op : Nat) (matches_ : List Bool) : Bool :=
  match op with
  | 0 => matches_.all id
  | 1 => matches_.any id
  | 2 => !matches_.all id
  | _ => !matches_.any id

/-- The pattern of a set at a time (R114, R115). -/
def Mach.patternAt (m : Mach) (s k t : Nat) (strict : Bool) : Bool :=
  patCombine (m.rd TRG_SET_CFG_PAT_OP [s]) ((m.terms s).map fun p => m.inputAt k p.1 t strict == p.2)

/-- Distinct elements, first occurrences kept. -/
def dedup (l : List Nat) : List Nat := l.foldl (fun acc x => if acc.contains x then acc else acc ++ [x]) []

/-- An arrival after the switch to the fallback clock raises no trigger in the slot before the sets disarm (R131). -/
def Mach.afterLoss (m : Mach) (c : Nat) : Bool :=
  match m.tb.lost with | some (d, x) => decide (d * 256 + x < c) | none => false

/-- Pattern-change events of a set in the slot of stitch `k` (R115, R116). -/
def Mach.patEvents (m : Mach) (s k : Nat) : List Ev :=
  let sids := (m.terms s).map Prod.fst
  let ts := dedup ((m.trg.pchg.filter fun c => c.arr + 1 == k && sids.contains c.sid && !m.afterLoss c.arrC).map PChg.t)
  ts.filterMap fun t =>
    let b := m.patternAt s k t true
    let a := m.patternAt s k t false
    if a = b then none else some { sid := if a then 0x3F0 else 0x3F1, t := t, arr := k - 1 }

/-- Fold changes into the base values when no event of an earlier time can arrive any more: no delay of Table 4.3 comes near 1024
stitches. -/
def Mach.trimInputs (m : Mach) : Mach :=
  let gone := fun (c : PChg) => decide (c.arr + 1024 < m.tb.stitch)
  let old := sortBy (fun a b => decide (a.t ≤ b.t)) (m.trg.pchg.filter gone)
  let keep := m.trg.pchg.filter fun c => !gone c
  { m with trg := { m.trg with
      pchg := keep,
      inBase := old.foldl (fun b c => tput 0 b c.sid c.v.toNat) m.trg.inBase,
      events := m.trg.events.filter fun e => decide (m.tb.stitch ≤ e.arr + 2) } }

/-! ### Programs -/
def Mach.aSids (m : Mach) (s : Nat) : List Nat :=
  [m.rd TRG_SET_A01_SID_LOW [s], m.rd TRG_SET_A01_SID_HIGH [s], m.rd TRG_SET_A23_SID_LOW [s],
   m.rd TRG_SET_A23_SID_HIGH [s]].filter (· != sidNone)
def Mach.bSids (m : Mach) (s : Nat) : List Nat :=
  [m.rd TRG_SET_B01_SID_LOW [s], m.rd TRG_SET_B01_SID_HIGH [s], m.rd TRG_SET_B23_SID_LOW [s],
   m.rd TRG_SET_B23_SID_HIGH [s]].filter (· != sidNone)

/-- The program of a set names a unit. -/
def Mach.namesUnit (m : Mach) (s u : Nat) : Bool :=
  (m.aSids s).contains u || (m.bSids s).contains u || m.rd TRG_SET_RSTN_RESET_SID [s] == u ||
  (m.terms s).any fun p => p.1 == u

/-- Start a set's program in WAIT_A at cycle 128 of the present stitch (R113, R116). -/
def Mach.startProgram (m : Mach) (s : Nat) (fresh : Bool) : Mach :=
  let t := m.cycleT m.tb.stitch 128
  let m := m.wrs [(TRG_SET_STAT_SEQ, [s], 1), (TRG_SET_STAT_BCOUNT, [s], 0)]
  if fresh then (m.wr TRG_SET_STAT_HOLDOFF [s] 0).modProg s fun _ => { start := t }
  else m.modProg s fun p => { p with start := t, armedFrom := none }

/-- A secondary whose frames decide (R411, R415). -/
def Mach.follows (m : Mach) : Bool := m.role == roleSecondary && m.pair.takeover.isNone

/-- Enter ARMED or WAITING; a secondary waits for its frame (R411). -/
def Mach.armOrFollow (m : Mach) (s : Nat) : Mach :=
  if m.follows then m.modPset s fun p => { p with rearm := true } else m.tryArm s

/-- Statistics of a set's slots, unless CONTINUE keeps them, and the references of its measurements are cleared (R225, R231). -/
def Mach.clearMeas (m : Mach) (s : Nat) : Mach :=
  let mine := fun (k : Nat) => (m.members s).contains (k / 8)
  { m with acc := { m.acc with
    stats := if m.on ACC_SET_CFG_CONTINUE [s] then m.acc.stats else m.acc.stats.filter fun p => !mine p.1,
    refs := m.acc.refs.filter fun p => !mine p.1 } }

/-- What an arm that is no re-arm makes afresh: range, slots, entries, charge, credit and counts (R155, R161, R162, R222). -/
def Mach.freshArm (m : Mach) (s : Nat) : Mach :=
  let m := (m.clearRange s).wrs [(CAP_SET_SEG, [s], 0), (CAP_SET_SLOTS_SLOTS, [s], m.slotCount s),
    (ACC_MEAS_BASE_ELINES, [s], measLines (m.measSlots s).length)]
  let m := ((m.clearMeas s).takeCharge m s).fillCredit s
  m.modPset s fun p => { p with tEnd := none, dead := 0, recd := none, rearm := false, ending := none, finishing := none,
                                autoBack := false, taken := m.rd ACC_SET_COUNT [s] }

/-- The arm instant of SET_ARM (fresh) or SET_REARM, at cycle 128 of the present stitch (R145, R155, R162). -/
def Mach.armNow (m : Mach) (s : Nat) (rearm : Bool) : Mach :=
  let m := m.startProgram s !rearm
  (if rearm then m else m.freshArm s).armOrFollow s

/-- Qualifiers of R116. -/
def qualOk (q : Nat) (pat : Bool) : Bool := match q with | 1 => pat | 2 => !pat | _ => true

/-- A would-be trigger at T: holdoff, then acceptance in an armed interval or a miss (R120, R121). -/
def Mach.wouldBe (m : Mach) (s t : Nat) : Mach :=
  let p := (m.pset s).prog
  let ho := m.rd TRG_SET_HO [s]
  let held := match m.rd TRG_SET_CFG_HO_MODE [s] with
    | 1 => match p.lastAcc with | some a => decide (t < a + 256 * ho) | none => false
    | 2 => decide (0 < p.hoLeft)
    | _ => false
  if held then
    (m.inc TRG_SET_HO_CNT_COUNT [s]).modProg s fun p => { p with hoLeft := p.hoLeft - 1 }
  else
    let inIv := match p.armedFrom with | some a => decide (a ≤ t) | none => false
    if inIv && (m.follows || m.setState s == siArmed) then
      if m.follows then
        let left := if m.rd TRG_SET_CFG_HO_MODE [s] = 2 then ho else 0
        let m := m.modProg s fun p => { p with armedFrom := none, lastAcc := some t, hoLeft := left }
        { m with pair := { m.pair with own := m.pair.own ++ [{ set := s, t := t, stitch := m.tb.stitch }] } }
      else m.accept s t
    else
      let after := match p.lastAcc with | some a => decide (a < t) | none => true
      let m := if m.follows then
          { m with pair := { m.pair with cand := m.pair.cand ++ [{ set := s, t := t, stitch := m.tb.stitch }] } } else m
      (m.inc TRG_SET_MISSED_COUNT [s]).modProg s fun p => { p with missed := p.missed + after.toNat }

/-- A completing event returns the program to WAIT_A and gives a would-be trigger (R117, R120). -/
def Mach.completing (m : Mach) (s t : Nat) : Mach :=
  (m.wrs [(TRG_SET_STAT_SEQ, [s], 1), (TRG_SET_STAT_BCOUNT, [s], 0)]).wouldBe s t

/-- Process one event of a set's program in the slot of stitch `k` (R117).  In WAIT_B, an event that is A and B and fails B's
qualifier is dropped (DESIGN CHOICE, assumption 140). -/
def Mach.progEvent (m : Mach) (s k : Nat) (e : Ev) : Mach :=
  let mode := m.rd TRG_SET_CFG_MODE [s]
  let m := if e.sid = m.rd TRG_SET_RSTN_RESET_SID [s] then
      m.wrs [(TRG_SET_STAT_SEQ, [s], 1), (TRG_SET_STAT_BCOUNT, [s], 0)] else m
  let tA : Int := (m.pset s).prog.tA
  let dt : Int := (e.t : Int) - tA
  let window := mode == 1 || mode == 3
  let m := if m.rd TRG_SET_STAT_SEQ [s] = 2 ∧ window ∧ 256 * (m.rd TRG_SET_DMAX [s] : Int) < dt then
      m.wrs [(TRG_SET_STAT_SEQ, [s], 1), (TRG_SET_STAT_BCOUNT, [s], 0)] else m
  let isA := (m.aSids s).contains e.sid
  let isB := (m.bSids s).contains e.sid
  let pat := m.patternAt s k e.t false
  let okA := isA && qualOk (m.rd TRG_SET_CFG_A_QUAL [s]) pat
  let okB := isB && qualOk (m.rd TRG_SET_CFG_B_QUAL [s]) pat
  let start := fun (m : Mach) =>
    (m.wrs [(TRG_SET_STAT_SEQ, [s], 2), (TRG_SET_STAT_BCOUNT, [s], 0)]).modProg s fun p => { p with tA := e.t }
  if mode = 0 then (if okA then m.completing s e.t else m)
  else if m.rd TRG_SET_STAT_SEQ [s] = 1 then (if okA then start m else m)
  else if isB then
    if !okB then m
    else if window ∧ dt < 256 * (m.rd TRG_SET_DMIN [s] : Int) then m
    else if mode = 1 then m.completing s e.t
    else
      let m := m.inc TRG_SET_STAT_BCOUNT [s]
      if m.rd TRG_SET_STAT_BCOUNT [s] = m.rd TRG_SET_RSTN_N [s] then m.completing s e.t else m
  else if okA then start m
  else m

/-- The events a set's program takes in the slot of stitch `k`, in the order of R118. -/
def Mach.slotEvents (m : Mach) (s k : Nat) : List Ev :=
  let rst := m.rd TRG_SET_RSTN_RESET_SID [s]
  let names := fun sid => sid != sidNone && ((m.aSids s).contains sid || (m.bSids s).contains sid || sid == rst)
  let start := (m.pset s).prog.start
  let evs := (m.trg.events ++ m.patEvents s k).filter fun e =>
    e.arr + 1 == k && names e.sid && decide (start ≤ e.t) && (e.sid < 0x3F0 || start != e.t) && !m.afterLoss e.arrC &&
    (e.sid != 0x22C || e.own == s)
  sortBy (fun a b =>
    decide (a.t < b.t) || (a.t == b.t &&
      ((a.sid == rst && b.sid != rst) || ((a.sid == rst) == (b.sid == rst) && decide (a.sid ≤ b.sid))))) evs

/-- Show whether holdoff runs (TRG_SET_STAT.HOLDOFF). -/
def Mach.showHoldoff (m : Mach) (s : Nat) : Mach :=
  let p := (m.pset s).prog
  let on := match m.rd TRG_SET_CFG_HO_MODE [s] with
    | 1 => match p.lastAcc with | some a => decide (m.nowT < a + 256 * m.rd TRG_SET_HO [s]) | none => false
    | 2 => decide (0 < p.hoLeft)
    | _ => false
  m.wb TRG_SET_STAT_HOLDOFF [s] on

/-- One set's qualification in the present stitch (R118, R119). -/
def Mach.qualify (m : Mach) (s : Nat) : Mach :=
  if m.rd TRG_SET_STAT_SEQ [s] = 0 then m
  else
    let k := m.tb.stitch
    let evs := m.slotEvents s k
    let m := each (evs.take 1024) (fun m e => if m.rd TRG_SET_STAT_SEQ [s] = 0 then m else m.progEvent s k e) m
    let lost := evs.length - 1024
    let m := if lost = 0 then m
      else
        let m := m.add TRG_SET_DROP_COUNT [s] lost
        if (m.pset s).prog.saidDrop then m
        else ((m.modProg s fun p => { p with saidDrop := true }).fault 49).raise 2 0x0020 s [k] []
    m.showHoldoff s

/-- TRG_SOFT in FORCE mode at the boundary of its stitch (R133); false when the set is not armed then. -/
def Mach.force (m : Mach) (s : Nat) : Mach × Bool :=
  let t := m.cycleT m.tb.stitch 0
  let armed := match (m.pset s).prog.armedFrom with | some a => decide (a ≤ t) | none => false
  if armed && m.follows then
    let left := if m.rd TRG_SET_CFG_HO_MODE [s] = 2 then m.rd TRG_SET_HO [s] else 0
    let m := m.wrs [(TRG_SET_STAT_SEQ, [s], 1), (TRG_SET_STAT_BCOUNT, [s], 0)]
    let m := m.modProg s fun p => { p with armedFrom := none, lastAcc := some t, hoLeft := left }
    ({ m with pair := { m.pair with own := m.pair.own ++ [{ set := s, t := t, stitch := m.tb.stitch }] } }, true)
  else if armed && m.setState s == siArmed then
    ((m.wrs [(TRG_SET_STAT_SEQ, [s], 1), (TRG_SET_STAT_BCOUNT, [s], 0)]).accept s t, true)
  else (m, false)

/-- A disarm at cycle 128 of the present stitch (R145): FINISH lets an open record run, ABORT cuts it at that cycle.  An arm that
was accepted after the disarm still waits for its own instant. -/
def Mach.disarm (m : Mach) (s : Nat) (abort : Bool) : Mach :=
  if !m.active s then (m.enter s siIdle).modPset s fun p => { p with stopAt := none, autoBack := false, finishing := none }
  else
    let m := (m.armLost s).modPset s fun p => { p with stopAt := none, rearm := false, armAt := none, autoBack := false }
    match (m.pset s).recd with
    | some r =>
      let m := m.stopProgram s
      let r := if abort then { r with cut := some (.arrived (m.tb.stitch * 256 + 128)) } else r
      m.modPset s fun p => { p with recd := some r, ending := some siIdle }
    | none => (m.leave s siIdle).modPset s fun p => { p with finishing := none }

/-- An arm that was accepted does not come about. -/
def Mach.cancelArm (m : Mach) (s : Nat) : Mach :=
  if (m.pset s).armAt.isNone then m
  else
    let m := (m.armLost s).modPset s fun p => { p with armAt := none }
    if m.active s then m else m.dropCharge s

/-- Arms and stops of a set that fall due at cycle 128 of the present stitch (R145).  No set arms on the fallback clock (R91). -/
def Mach.bookArms (m : Mach) (s : Nat) : Mach :=
  let m := match (m.pset s).armAt with
    | some (q, re) =>
      if q ≤ m.tb.stitch && !m.fallback then (m.modPset s fun p => { p with armAt := none }).armNow s re else m
    | none => m
  match (m.pset s).stopAt with
  | some (q, ab) => if q ≤ m.tb.stitch then m.disarm s ab else m
  | none => m

/-- One set in the bookkeeping slot: take and close, arms due, stops due, re-arm (R122, R145). -/
def Mach.bookSet (m : Mach) (s : Nat) : Mach :=
  let m := (m.bookRecord s).bookArms s
  if (m.pset s).rearm && !m.follows then m.tryArm s else m

/-- A loss disarms every set (R91, R92, R147): records close by their cut or at once, and the set is STOPPED; one that has taken its
last record enters DONE with its last fold (R205). -/
def Mach.lossDisarm (m : Mach) (cause : Nat) (s : Nat) : Mach :=
  if !m.arming s || (m.pset s).finishing.isSome then m
  else
    let m := (m.armLost s).stopProgram s
    let m := m.raise 2 0x0032 s [] [cause]
    let m := m.modPset s fun p => { p with armAt := none, stopAt := none, rearm := false, tEnd := none, dead := 0,
                                           autoBack := m.on CAP_SET_CFG_AUTO_REARM [s] && m.flt.degraded.isEmpty }
    match (m.pset s).recd with
    | some _ => m.modPset s fun p => { p with ending := some siStopped }
    | none => m.leave s siStopped

/-- A set with AUTO_REARM re-arms at cycle 128 of the present stitch after a loss (R91, R92, R147), with no dead time and no missed
count (R124): when SPLL and MPLL are both lost, at the later of their returns if it needs memory (DESIGN CHOICE, assumption 141).
One whose charge passes the limit stays STOPPED (DESIGN CHOICE, assumption 143). -/
def Mach.comeBack (m : Mach) (s : Nat) : Mach :=
  if (m.pset s).autoBack && m.setState s == siStopped && m.spllLocked && !m.fallback && (!m.needsMem s || m.memOk) then
    let m := m.modPset s fun p => { p with autoBack := false, tEnd := none, dead := 0, prog := { p.prog with missed := 0 } }
    if m.dev != .basting && m.overCommit (m.chargeOf s) then m
    else (m.takeCharge m s).modPset s fun p => { p with armAt := some (m.tb.stitch, true) }
  else m

end Sys2Proof.Machine
end

