-- ==== Sys2Proof/Machine/SetCmds.lean ====
section
/-! DEFINITION. The set commands 0x18–0x1D and the trigger commands 0x30–0x37: their checks, and what each changes at its
stitch of application (R134, R164, R167). -/
namespace Sys2Proof.Machine
open Sys2Proof

/-- Low 32 bits of a stitch number, as the results of R39, R73 and R163 carry it. -/
def lo32 (k : Nat) : Nat := k % 2 ^ 32

/-- An accepted command that takes effect at its stitch of application and completes with that number. -/
def later (op : Nat) (h : HostCmd) (due : Nat) (s : State) : Mach := (s.m.at_ due (.cmd op h)).done h due

def inBasting (l : List Nat) : Bool := l.all fun n => decide (n < 16)
def setSvc (m : Mach) (h : HostCmd) : Svc := .acq (inBasting (m.members h.tgt))
def acqSvc (_ : Mach) (_ : HostCmd) : Svc := .acq true

/-- The accumulation of a set becomes INVALID (R217), and nothing that waits folds into it any more. -/
def Mach.accInvalid (m : Mach) (s : Nat) : Mach := (m.wr ACC_SET_STAT_STATE [s] 2).foldsOver s fun _ => true

/-- A pending change of a like command for a target. -/
def Mach.pendingCmd (m : Mach) (op t : Nat) : Option HostCmd :=
  m.hif.changes.reverse.findSome? fun c => match c.2 with
    | .cmd o h => if o = op ∧ h.tgt = t then some h else none
    | _ => none

/-! ### SET_MEMBERS -/
def ciSetMembers : CmdInfo where
  op := 0x18
  masks := [mask 64]
  tgt := below 16
  svc _ h := .acq (inBasting (bitList 64 (h.f 1 0 64)))
  r15 m h := (bitList 64 (h.f 1 0 64)).any m.unused

def Mach.membSoon (m : Mach) (s : Nat) : Nat :=
  match m.pendingCmd 0x18 s with | some h => h.f 1 0 64 | none => m.rd CAP_SET_MEMB [s]

def ownSetMembers (h : HostCmd) (s : State) : Option Nat :=
  firstOf [(allSets.any fun t => t != h.tgt && s.m.membSoon t &&& h.f 1 0 64 != 0, BAD_FIELD),
           (s.m.active h.tgt, BUSY)]

def applySetMembers (h : HostCmd) (m : Mach) : Mach :=
  (m.wr CAP_SET_MEMB [h.tgt] (h.f 1 0 64)).accInvalid h.tgt

def doSetMembers (h : HostCmd) (s : State) : State := runCmd ciSetMembers ownSetMembers (lift (later 0x18)) h s
def execSetMembers (h : HostCmd) (s : State) : Host.Outcome State Fault Refusal := .next (doSetMembers h s)

/-! ### SET_CONFIG -/
def ciSetConfig : CmdInfo where
  op := 0x19
  masks := [mask 8 + mask 24 * 2 ^ 32, mask 40, mask 18 + mask 17 * 2 ^ 32]
  tgt := below 16
  svc := setSvc

def ownSetConfig (h : HostCmd) (s : State) : Option Nat :=
  let duty := h.f 3 32 17
  let n := h.f 3 0 18
  firstOf [(s.m.active h.tgt, BUSY), (h.f 2 0 40 == 0, BAD_FIELD), (duty == 0 || decide (65536 < duty), BAD_FIELD),
           (n == 0 || decide (131072 < n), BAD_FIELD), (!h.b 1 6 && !h.b 1 7, BAD_FIELD)]

def applySetConfig (h : HostCmd) (m : Mach) : Mach :=
  let s := h.tgt
  let pre := h.f 1 32 24
  let post := h.f 2 0 40
  let changed := pre != m.pre s || post != m.post s
  let m := m.wrs [(CAP_SET_CFG_MODE, [s], h.f 1 0 2), (CAP_SET_CFG_FORMAT, [s], h.f 1 2 1),
    (CAP_SET_CFG_REARM, [s], h.f 1 3 1), (CAP_SET_CFG_AUTO_REARM, [s], h.f 1 4 1),
    (CAP_SET_CFG_PRE_FILL_WAIT, [s], h.f 1 5 1), (CAP_SET_CFG_LIST, [s], h.f 1 6 1), (CAP_SET_CFG_DELIVER, [s], h.f 1 7 1),
    (CAP_SET_PRE_PRE, [s], pre), (CAP_SET_POST, [s], post), (CAP_SET_LIST_N_VALUE, [s], h.f 3 0 18),
    (CAP_SET_DUTY_DUTY, [s], h.f 3 32 17)]
  if changed then m.accInvalid s else m

def doSetConfig (h : HostCmd) (s : State) : State := runCmd ciSetConfig ownSetConfig (lift (later 0x19)) h s
def execSetConfig (h : HostCmd) (s : State) : Host.Outcome State Fault Refusal := .next (doSetConfig h s)

/-! ### SET_BIND -/
def ciSetBind : CmdInfo where
  op := 0x1A
  masks := [mask 8 + mask 9 * 2 ^ 16, mask 17 + mask 18 * 2 ^ 32, mask 32]
  tgt := below 16
  svc := setSvc

def Mach.rringSoon (m : Mach) (s : Nat) : Nat :=
  match m.pendingCmd 0x1A s with | some h => h.f 1 16 9 | none => m.rring s

def ownSetBind (h : HostCmd) (s : State) : Option Nat :=
  let rr := h.f 1 16 9
  firstOf [(s.m.active h.tgt, BUSY), (decide (131072 < h.f 2 0 17 + h.f 2 32 18), BAD_FIELD),
           (rr != 0x1FF && allSets.any fun t => t != h.tgt && s.m.rringSoon t == rr, BAD_FIELD)]

def applySetBind (h : HostCmd) (m : Mach) : Mach :=
  let s := h.tgt
  m.wrs [(CAP_SET_BIND_AREA, [s], h.f 1 0 8), (CAP_SET_BIND_RRING, [s], h.f 1 16 9),
    (CAP_SET_PRK_BASE_VALUE, [s], h.f 2 0 17), (CAP_SET_PRK_CNT_VALUE, [s], h.f 2 32 18),
    (CAP_SET_COAL_COAL_COUNT, [s], h.f 3 0 16), (CAP_SET_COAL_COAL_TIME, [s], h.f 3 16 16)]

def doSetBind (h : HostCmd) (s : State) : State := runCmd ciSetBind ownSetBind (lift (later 0x1A)) h s
def execSetBind (h : HostCmd) (s : State) : Host.Outcome State Fault Refusal := .next (doSetBind h s)

def applyAccConfig (h : HostCmd) (m : Mach) : Mach :=
  let t := h.tgt
  (m.wrs [(ACC_SET_CFG_KIND, [t], h.f 1 0 2), (ACC_SET_CFG_RES, [t], h.f 1 2 1), (ACC_SET_CFG_LOC, [t], h.f 1 3 1),
    (ACC_SET_CFG_CONTINUE, [t], h.f 1 4 1), (ACC_SET_CFG_KEEP_DATA, [t], h.f 1 5 1), (ACC_SET_CFG_HIT, [t], h.f 1 6 2),
    (ACC_SET_CFG_TB_LOG2, [t], h.f 1 8 5), (ACC_SET_CFG_AB_LOG2, [t], h.f 1 13 4), (ACC_SET_TARGET, [t], h.f 2 0 52)]).accInvalid t

def applyAccBind (h : HostCmd) (m : Mach) : Mach :=
  let t := h.tgt
  (m.wrs [(ACC_SET_BIND_AREA, [t], h.f 1 0 8), (ACC_SET_BIND_BANK_FIRST, [t], h.f 1 8 3),
    (ACC_SET_BIND_BANK_CNT, [t], h.f 1 11 4)]).accInvalid t

def applyMeasSlot (h : HostCmd) (m : Mach) : Mach :=
  let i := [h.tgt, h.f 1 0 3]
  m.wrs [(ACC_MSLOT_CFG_EN, i, h.f 2 0 1), (ACC_MSLOT_CFG_TYPE, i, h.f 2 1 5), (ACC_MSLOT_CFG_POL, i, h.f 2 6 2),
    (ACC_MSLOT_CFG_REF_SRC, i, h.f 2 8 1), (ACC_MSLOT_CFG_EDGE_FROM, i, h.f 2 9 1), (ACC_MSLOT_CFG_PEER, i, h.f 2 10 6),
    (ACC_MSLOT_CFG_HYST, i, h.f 2 16 16), (ACC_MSLOT_PCT_PCT_LO, i, h.f 2 32 10), (ACC_MSLOT_PCT_PCT_MID, i, h.f 2 42 10),
    (ACC_MSLOT_PCT_PCT_HI, i, h.f 2 52 10), (ACC_MSLOT_ABS_ABS_LO, i, h.f 3 0 16), (ACC_MSLOT_ABS_ABS_HI, i, h.f 3 16 16),
    (ACC_MSLOT_MID_ABS_MID, i, h.f 3 32 16), (ACC_MSLOT_GOFS_GATE_OFS, i, h.f 4 0 32), (ACC_MSLOT_GLEN_GATE_LEN, i, h.f 4 32 32)]

def applyMeasBind (h : HostCmd) (m : Mach) : Mach :=
  m.wrs [(ACC_MEAS_BASE_MEAS_BASE, [h.tgt], h.f 1 0 16), (ACC_MEAS_LINES_MEAS_LINES, [h.tgt], h.f 1 32 17),
    (ACC_MEAS_MIR, [h.tgt], h.f 2 0 64)]

/-- The accumulation of a set is EMPTY (R217, R219). -/
def Mach.accEmptied (m : Mach) (t : Nat) : Mach := m.wrs [(ACC_SET_STAT_STATE, [t], 0), (ACC_SET_STAT_PARTIAL, [t], 0)]

/-- The settings of sets and slots that a command waiting for its boundary will change. -/
def Mach.soon (m : Mach) (op : Nat) (h : HostCmd) : Mach :=
  match op with
  | 0x18 => applySetMembers h m
  | 0x19 => applySetConfig h m
  | 0x1A => applySetBind h m
  | 0x60 => applyAccConfig h m
  | 0x61 => applyAccBind h m
  | 0x63 => m.accEmptied h.tgt
  | 0x64 => applyMeasSlot h m
  | 0x65 => applyMeasBind h m
  | _ => m

/-- The machine with the settings that are accepted and wait for their boundary: an arm is checked and charged by them (DEDUCED,
log entry 69). -/
def Mach.setSoon (m : Mach) : Mach :=
  each m.hif.changes (fun v c => match c.2 with | .cmd op h => v.soon op h | _ => v) m

/-! ### SET_ARM -/

/-- Ranges [a, a + n) and [b, b + k) share a place. -/
def overlap (a n b k : Nat) : Bool := decide (a < b + k) && decide (b < a + n) && n != 0 && k != 0

/-- Bytes an accumulation needs (R210, R211). -/
def Mach.accBytes (m : Mach) (s : Nat) : Nat :=
  let k := (m.members s).length
  if m.rd ACC_SET_CFG_KIND [s] = 2 then k * m.tbins s * 2 ^ m.rd ACC_SET_CFG_AB_LOG2 [s] * 4
  else k * ceilDiv (m.recLen s) 8 * 64

/-- Another set that is not IDLE. -/
def Mach.otherBusy (m : Mach) (s t : Nat) : Bool := t != s && (m.setState t != siIdle || (m.pset t).armAt.isSome)

/-- Position 3 of Table 7.2. -/
def Mach.accState (m : Mach) (s : Nat) : Bool :=
  m.mode s != 2 || match m.rd ACC_SET_STAT_STATE [s] with
    | 0 => true
    | 1 => m.on ACC_SET_CFG_CONTINUE [s] && !m.on ACC_SET_STAT_PARTIAL [s]
    | _ => false

/-- Position 5 of Table 7.2. -/
def Mach.accPlace (m : Mach) (s : Nat) : Bool :=
  if m.mode s ≠ 2 then true
  else
    let hist := m.rd ACC_SET_CFG_KIND [s] == 2
    let place :=
      if m.accDram s then
        let a := m.rd ACC_SET_BIND_AREA [s]
        m.areaType a == areaAcc && decide (m.accBytes s ≤ m.areaSize a)
      else
        let f := m.rd ACC_SET_BIND_BANK_FIRST [s]
        let c := m.rd ACC_SET_BIND_BANK_CNT [s]
        c != 0 && decide (f + c ≤ 8) && !hist && decide (m.accBytes s ≤ c * 2097152) &&
        allSets.all fun t => !(m.otherBusy s t && !m.accDram t &&
          overlap f c (m.rd ACC_SET_BIND_BANK_FIRST [t]) (m.rd ACC_SET_BIND_BANK_CNT [t]))
    place && (!hist || decide (m.tbins s ≤ 4096))

/-- The measurement range of a set with results (R229). -/
def Mach.measPlace (m : Mach) (s : Nat) : Bool :=
  let r := (m.measSlots s).length
  let b := m.rd ACC_MEAS_BASE_MEAS_BASE [s]
  let l := m.rd ACC_MEAS_LINES_MEAS_LINES [s]
  r == 0 || (decide (m.prkCnt s * measLines r ≤ l) && decide (b + l ≤ 65536) &&
    allSets.all fun t => !(m.otherBusy s t &&
      overlap b l (m.rd ACC_MEAS_BASE_MEAS_BASE [t]) (m.rd ACC_MEAS_LINES_MEAS_LINES [t])))

/-- Check 5 of Table 5.5 with the positions of Table 7.2 and R229. -/
def Mach.armPlace (m : Mach) (s : Nat) : Bool :=
  let q := m.rring s
  (!m.keepData s || m.areaType (m.rd CAP_SET_BIND_AREA [s]) == areaRecord) &&
  m.prkCnt s != 0 &&
  (allSets.all fun t => !(m.otherBusy s t &&
    overlap (m.rd CAP_SET_PRK_BASE_VALUE [s]) (m.prkCnt s) (m.rd CAP_SET_PRK_BASE_VALUE [t]) (m.prkCnt t))) &&
  ((m.fixedList s && !m.deliver s) || (decide (128 ≤ q) && decide (q < 256) && m.qCreated q)) &&
  m.accPlace s && m.measPlace s

/-- PRE_MAX of a channel (R142, R408). -/
def Mach.preMax (m : Mach) (n : Nat) : Nat :=
  m.depth n - (if m.formed then 8 else 1) * (2048 * m.comb n / m.decim n)

/-- DELAY and PHASE name a peer of the same set (R227). -/
def Mach.peersOk (m : Mach) (s : Nat) : Bool :=
  (m.measSlots s).all fun p =>
    let ty := m.rd ACC_MSLOT_CFG_TYPE [p.1, p.2]
    (ty != 21 && ty != 22) || (m.members s).contains (m.rd ACC_MSLOT_CFG_PEER [p.1, p.2])

/-- The checks of R264 for a set of MODE 3. -/
def Mach.srOk (m : Mach) (s : Nat) : Bool :=
  m.mode s != 3 ||
    (let g := m.rd GEN_SR_GEN_MASK [s]
     let r := m.rd GEN_SR_REF [s]
     let sids := if m.rd TRG_SET_CFG_MODE [s] = 0 then m.aSids s else m.bSids s
     g != 0 && bit g r && (sids.all fun x => x == 0x210 + r) &&
     (bitList 8 g).all fun n =>
       let st := m.rd GEN_STAT_STATE [n]
       (st == 1 || st == 2 || st == 3) && m.on GEN_CFG_GUARD_EN [n] &&
       (List.range 8).any fun j => m.on GEN_GUARD_EN [n, j])

def ciSetArm : CmdInfo where
  op := 0x1B
  masks := []
  tgt := below 16
  svc m h :=
    let m := m.setSoon
    .acq (m.mode h.tgt == 0 && !m.on CAP_SET_CFG_REARM [h.tgt] && !m.s16 h.tgt && inBasting (m.members h.tgt))

/-- The arm checks of Table 5.5 in order. -/
def ownSetArm (h : HostCmd) (s : State) : Option Nat :=
  let t := h.tgt
  let m := s.m.setSoon
  let basting := m.dev == .basting
  let ms := m.members t
  firstOf [
    (!m.spllLocked || (m.needsMem t && !m.memOk), CLOCK_INVALID),
    (m.arming t || !m.accState t, WRONG_STATE),
    (ms.isEmpty || !(ms.all m.chIsOn) || !m.sameRate ms || !m.peersOk t || !m.srOk t, WRONG_STATE),
    (!basting && !m.armPlace t, NO_AREA),
    (ms.any fun n => decide (m.preMax n < m.pre t), PRE_EXCEEDS_RING),
    (if basting then decide (341 < nbRows (m.recLen t)) else m.keepData t && m.slotCount t == 0, POST_EXCEEDS_AREA),
    (!basting && m.fixedList t &&
      ((m.keepData t && decide (m.slotCount t < m.rd CAP_SET_LIST_N_VALUE [t])) ||
       decide (m.prkCnt t < m.rd CAP_SET_LIST_N_VALUE [t])), NO_AREA),
    (!basting && m.overCommit (m.chargeOf t), BANDWIDTH)]

/-- What an accepted arm fixes: its charge and its arm instant (R145, R161); it overtakes a disarm of the same stitch that was
accepted before it. -/
def Mach.armTake (m : Mach) (s q : Nat) (rearm : Bool) : Mach :=
  (m.takeCharge m.setSoon s).modPset s fun p => { p with
    armAt := some (q, rearm), stopAt := p.stopAt.filter fun x => decide (x.1 < q) }

/-- The command waits for the arm instant and completes with its stitch (R144, R163). -/
def effSetArm (h : HostCmd) (due : Nat) (s : State) : Mach := (s.m.armTake h.tgt due false).wait 0x1B h due
/-- A secondary applies a forwarded arm at its stitch of application (R165). -/
def applySetArm (h : HostCmd) (m : Mach) : Mach := m.armTake h.tgt m.tb.stitch false
def doSetArm (h : HostCmd) (s : State) : State := runCmd ciSetArm ownSetArm (lift effSetArm) h s
def execSetArm (h : HostCmd) (s : State) : Host.Outcome State Fault Refusal := .next (doSetArm h s)

/-! ### SET_DISARM, SET_REARM -/
def ciSetDisarm : CmdInfo where
  op := 0x1C
  masks := [mask 1]
  tgt := below 16
  svc := setSvc

/-- A set that is IDLE has nothing to disarm (R164). -/
def Mach.disarmAt (m : Mach) (h : HostCmd) (due : Nat) : Mach :=
  if m.setState h.tgt = siIdle then m else m.modPset h.tgt fun p => { p with stopAt := some (due, h.b 1 0) }

def applySetDisarm (h : HostCmd) (m : Mach) : Mach := m.disarmAt h m.tb.stitch
/-- Without effect, the command is not forwarded to a partner either. -/
def effSetDisarm (m : Mach) (h : HostCmd) (due : Nat) (s : State) : Mach :=
  if m.setState h.tgt = siIdle then m.done h due else (s.m.disarmAt h due).done h due
def doSetDisarm (h : HostCmd) (s : State) : State := runCmd ciSetDisarm (fun _ _ => none) (lift (effSetDisarm s.m)) h s
def execSetDisarm (h : HostCmd) (s : State) : Host.Outcome State Fault Refusal := .next (doSetDisarm h s)

def ciSetRearm : CmdInfo where
  op := 0x1D
  masks := []
  tgt := below 16
  svc := setSvc

def ownSetRearm (h : HostCmd) (s : State) : Option Nat :=
  let t := h.tgt
  let m := s.m.setSoon
  firstOf [(m.setState t != siDone || m.mode t != 0 || m.on CAP_SET_CFG_REARM [t] || m.arming t, WRONG_STATE),
    (!m.spllLocked || (m.needsMem t && !m.memOk), CLOCK_INVALID),
    (m.dev != .basting && m.overCommit (m.chargeOf t), BANDWIDTH)]

/-- A re-arm takes the charge that DONE released; the credit goes on (R162). -/
def effSetRearm (h : HostCmd) (due : Nat) (s : State) : Mach := (s.m.armTake h.tgt due true).wait 0x1D h due
def applySetRearm (h : HostCmd) (m : Mach) : Mach := m.armTake h.tgt m.tb.stitch true
def doSetRearm (h : HostCmd) (s : State) : State := runCmd ciSetRearm ownSetRearm (lift effSetRearm) h s
def execSetRearm (h : HostCmd) (s : State) : Host.Outcome State Fault Refusal := .next (doSetRearm h s)

/-! ### TRG_UNIT_SET -/
def ciUnitSet : CmdInfo where
  op := 0x30
  masks := [mask 9, mask 47, mask 64]
  tgt := below 128
  svc _ h := .acq (decide (h.tgt < 32))
  r15 m h := m.unused (h.tgt / 2)

/-- The settings of a unit that hold together (Table 4.2, R103). -/
def unitValid (type pol cond : Nat) (a b : Int) (hyst t1 t2 : Nat) : Bool :=
  let two := type == 1 || type == 3 || type == 5
  let usesCond := type == 2 || type == 3 || type == 5 || type == 7
  pol != 3 && !(type == 2 && pol == 2) && (!two || decide (b + hyst + 1 ≤ a)) &&
  (!usesCond || ((cond != 3 || type == 3) && (cond != 2 || decide (t1 ≤ t2))))

/-- The unit is named by an active set's program. -/
def Mach.unitArmed (m : Mach) (u : Nat) : Bool := allSets.any fun s => m.active s && m.namesUnit s u

/-- A whole write that leaves everything but levels and hysteresis as it is. -/
def Mach.levelsOnly (m : Mach) (h : HostCmd) : Bool :=
  let u := h.tgt
  h.b 1 8 || (h.f 1 0 1 == m.rd TRG_UNIT_CFG_EN [u] && h.f 1 1 3 == m.rd TRG_UNIT_CFG_TYPE [u] &&
    h.f 1 4 2 == m.rd TRG_UNIT_CFG_POL [u] && h.f 1 6 2 == m.rd TRG_UNIT_CFG_COND [u] &&
    h.f 3 0 32 == m.rd TRG_UNIT_T1_T [u] && h.f 3 32 32 == m.rd TRG_UNIT_T2_T [u])

def ownUnitSet (h : HostCmd) (s : State) : Option Nat :=
  let m := s.m
  let u := h.tgt
  let only := h.b 1 8
  let pick := fun (F : Fld) (v : Nat) => if only then m.rd F [u] else v
  let ok := unitValid (pick TRG_UNIT_CFG_TYPE (h.f 1 1 3)) (pick TRG_UNIT_CFG_POL (h.f 1 4 2))
    (pick TRG_UNIT_CFG_COND (h.f 1 6 2)) (sext 16 (h.f 2 0 16)) (sext 16 (h.f 2 16 16)) (h.f 2 32 15)
    (pick TRG_UNIT_T1_T (h.f 3 0 32)) (pick TRG_UNIT_T2_T (h.f 3 32 32))
  firstOf [(!ok, BAD_FIELD), (m.unitArmed u && !m.levelsOnly h, BUSY)]

def applyUnitSet (h : HostCmd) (m : Mach) : Mach :=
  let u := h.tgt
  let only := m.levelsOnly h
  let lv := [(TRG_UNIT_LEVEL_LEVEL_A, [u], h.f 2 0 16), (TRG_UNIT_LEVEL_LEVEL_B, [u], h.f 2 16 16),
             (TRG_UNIT_HYST_HYST, [u], h.f 2 32 15)]
  if only then
    let m := m.wrs lv
    let v := m.unit u
    m.setUnit u { v with ar := false, af := false, br := false, bf := false }
  else
    let m := m.resetUnit u m.tb.stitch
    (m.wrs lv).wrs [(TRG_UNIT_CFG_EN, [u], h.f 1 0 1), (TRG_UNIT_CFG_TYPE, [u], h.f 1 1 3),
      (TRG_UNIT_CFG_POL, [u], h.f 1 4 2), (TRG_UNIT_CFG_COND, [u], h.f 1 6 2), (TRG_UNIT_T1_T, [u], h.f 3 0 32),
      (TRG_UNIT_T2_T, [u], h.f 3 32 32)]

def doTrgUnitSet (h : HostCmd) (s : State) : State := runCmd ciUnitSet ownUnitSet (lift (later 0x30)) h s
def execTrgUnitSet (h : HostCmd) (s : State) : Host.Outcome State Fault Refusal := .next (doTrgUnitSet h s)

/-! ### TRG_PROGRAM, TRG_PATTERN -/
def mask4x10 : Nat := mask 10 + mask 10 * 2 ^ 16 + mask 10 * 2 ^ 32 + mask 10 * 2 ^ 48

def ciProgram : CmdInfo where
  op := 0x31
  masks := [mask 10, mask4x10, mask4x10, mask 10 + mask 16 * 2 ^ 16, mask 64, mask 64, mask 64]
  tgt := below 16
  svc := setSvc

/-- The four SIDs of a payload word. -/
def cmdSids (h : HostCmd) (w : Nat) : List Nat := [h.f w 0 10, h.f w 16 10, h.f w 32 10, h.f w 48 10]

def ownProgram (h : HostCmd) (s : State) : Option Nat :=
  let all := cmdSids h 2 ++ cmdSids h 3 ++ [h.f 4 0 10]
  firstOf [(all.any fun x => !sidEvent x, BAD_FIELD), (h.f 4 16 16 == 0, BAD_FIELD), (h.f 1 2 2 == 3, BAD_FIELD),
           (h.f 1 4 2 == 3 || h.f 1 6 2 == 3, BAD_FIELD), (decide (h.f 6 0 64 < h.f 5 0 64), BAD_FIELD),
           (s.m.active h.tgt, BUSY)]

def applyProgram (h : HostCmd) (m : Mach) : Mach :=
  let s := h.tgt
  m.wrs [(TRG_SET_CFG_MODE, [s], h.f 1 0 2), (TRG_SET_CFG_HO_MODE, [s], h.f 1 2 2), (TRG_SET_CFG_A_QUAL, [s], h.f 1 4 2),
    (TRG_SET_CFG_B_QUAL, [s], h.f 1 6 2), (TRG_SET_CFG_PAT_OP, [s], h.f 1 8 2),
    (TRG_SET_A01_SID_LOW, [s], h.f 2 0 10), (TRG_SET_A01_SID_HIGH, [s], h.f 2 16 10),
    (TRG_SET_A23_SID_LOW, [s], h.f 2 32 10), (TRG_SET_A23_SID_HIGH, [s], h.f 2 48 10),
    (TRG_SET_B01_SID_LOW, [s], h.f 3 0 10), (TRG_SET_B01_SID_HIGH, [s], h.f 3 16 10),
    (TRG_SET_B23_SID_LOW, [s], h.f 3 32 10), (TRG_SET_B23_SID_HIGH, [s], h.f 3 48 10),
    (TRG_SET_RSTN_RESET_SID, [s], h.f 4 0 10), (TRG_SET_RSTN_N, [s], h.f 4 16 16),
    (TRG_SET_DMIN, [s], h.f 5 0 64), (TRG_SET_DMAX, [s], h.f 6 0 64), (TRG_SET_HO, [s], h.f 7 0 64)]

def doTrgProgram (h : HostCmd) (s : State) : State := runCmd ciProgram ownProgram (lift (later 0x31)) h s
def execTrgProgram (h : HostCmd) (s : State) : Host.Outcome State Fault Refusal := .next (doTrgProgram h s)

def mask2x12 : Nat := mask 12 + mask 12 * 2 ^ 32

def ciPattern : CmdInfo where
  op := 0x32
  masks := [mask 6 + mask 2 * 2 ^ 8, mask2x12, mask2x12, mask2x12, mask2x12]
  tgt := below 16
  svc := setSvc

/-- Term i of the eight of TRG_PATTERN: SID and condition. -/
def cmdTerm (h : HostCmd) (i : Nat) : Nat × Nat :=
  (h.f (2 + i / 2) (32 * (i % 2)) 10, h.f (2 + i / 2) (32 * (i % 2) + 10) 2)

def ownPattern (h : HostCmd) (s : State) : Option Nat :=
  let ts := (List.range 8).map (cmdTerm h)
  firstOf [(h.f 1 0 6 % 8 != 0, BAD_FIELD), (ts.any fun t => t.2 == 3, BAD_FIELD),
           (ts.any fun t => t.2 != 0 && !sidPattern t.1, BAD_FIELD), (s.m.active h.tgt, BUSY)]

def applyPattern (h : HostCmd) (m : Mach) : Mach :=
  let s := h.tgt
  let m := m.wr TRG_SET_CFG_PAT_OP [s] (h.f 1 8 2)
  each (List.range 8) (fun m i =>
    m.wrs [(TRG_PAT_SID, [s, h.f 1 0 6 + i], (cmdTerm h i).1), (TRG_PAT_COND, [s, h.f 1 0 6 + i], (cmdTerm h i).2)]) m

def doTrgPattern (h : HostCmd) (s : State) : State := runCmd ciPattern ownPattern (lift (later 0x32)) h s
def execTrgPattern (h : HostCmd) (s : State) : Host.Outcome State Fault Refusal := .next (doTrgPattern h s)

/-! ### TRG_IO, TRG_QSEG, TRG_TIMER, TRG_OUT -/
def ciIo : CmdInfo where
  op := 0x33
  masks := [mask 10]
  tgt := below 112
  svc := acqSvc

/-- A line is one of the two alive lines of a formed pair (R417). -/
def Mach.aliveLine (m : Mach) (l : Nat) : Bool :=
  m.formed && (l == 96 + 2 * m.rd TWL_CFG_ALIVE_LINE || l == 97 + 2 * m.rd TWL_CFG_ALIVE_LINE)

def ownIo (h : HostCmd) (s : State) : Option Nat :=
  let kind := h.f 1 2 3
  firstOf [(decide (4 ≤ kind) || (kind == 2 && decide (h.tgt < 96)), BAD_FIELD), (s.m.aliveLine h.tgt, BUSY)]

/-- A line serves as an input, and is active. -/
def Mach.inputActive (m : Mach) (l : Nat) : Bool := !m.ioOut l && (m.on TRG_IO_PIN_STATE [l] != m.on TRG_IO_INV [l])

/-- The source of a pulse is the one that an output line carries. -/
def Mach.carries (m : Mach) (l : Nat) (p : Pulse) : Bool :=
  m.ioOut l && ((m.ioKind l == 1 && m.rd TRG_IO_INDEX [l] == p.set) || (m.ioKind l == 2 && p.set == 16))

/-- The level that an output line takes with its configuration: KIND 0 its own, KIND 3 that of its generator's marker. -/
def Mach.ioLevel (m : Mach) (l : Nat) : Bool :=
  match m.ioKind l with
  | 0 => m.on TRG_IO_LEVEL [l]
  | 3 => m.lineHigh (112 + m.rd TRG_IO_INDEX [l])
  | _ => false

/-- A line's configuration changes: a pulse in progress ends, one of the source it carries is still to come, an output takes its
level (R128), and an input gives the pattern its level (R114). -/
def applyIo (h : HostCmd) (m : Mach) : Mach :=
  let l := h.tgt
  let fs := [(TRG_IO_DIR, [l], h.f 1 0 1), (TRG_IO_INV, [l], h.f 1 1 1), (TRG_IO_KIND, [l], h.f 1 2 3),
             (TRG_IO_INDEX, [l], h.f 1 5 4), (TRG_IO_LEVEL, [l], h.f 1 9 1)]
  if fs.all fun p => m.rd p.1 p.2.1 == p.2.2 then m
  else
    let was := m.inputActive l
    let m := m.wrs fs
    let m := { m with trg := { m.trg with pulses := m.trg.pulses.filter fun p => p.line != l || (!p.started && m.carries l p) } }
    let m := if m.inputActive l == was then m
      else m.putPChg { sid := 0x180 + l, v := !was, t := m.cycleT m.stitch 0, arr := m.stitch, arrC := m.cycles + 4 }
    if m.ioOut l then m.drive l (m.ioLevel l) m.cycles else m

def doTrgIo (h : HostCmd) (s : State) : State := runCmd ciIo ownIo (lift (later 0x33)) h s
def execTrgIo (h : HostCmd) (s : State) : Host.Outcome State Fault Refusal := .next (doTrgIo h s)

def ciQseg : CmdInfo where
  op := 0x34
  masks := [mask 8]
  tgt := below 16
  svc _ h := .acq (decide (h.tgt < 4))

def applyQseg (h : HostCmd) (m : Mach) : Mach := m.wr TRG_QSEG_MASK [h.tgt] (h.f 1 0 8)
def doTrgQseg (h : HostCmd) (s : State) : State := runCmd ciQseg (fun _ _ => none) (lift (later 0x34)) h s
def execTrgQseg (h : HostCmd) (s : State) : Host.Outcome State Fault Refusal := .next (doTrgQseg h s)

def ciTimer : CmdInfo where
  op := 0x35
  masks := [mask 33, mask 64]
  tgt := below 4
  svc := acqSvc

def ownTimer (h : HostCmd) (s : State) : Option Nat :=
  firstOf [(h.f 1 0 32 == 0, BAD_FIELD), (h.b 1 32 && decide (h.f 2 0 64 < s.m.stitch + 2), BAD_FIELD)]

def applyTimer (h : HostCmd) (m : Mach) : Mach :=
  let r := h.tgt
  let m := m.wrs [(TRG_TMR_PER_PERIOD, [r], h.f 1 0 32), (TRG_TMR_CTL_EN, [r], h.f 1 32 1)]
  { m with trg := { m.trg with
      timers := if h.b 1 32 then tins m.trg.timers r (h.f 2 0 64 * 256) else tdel m.trg.timers r } }

/-- The result is the START stitch, with EN 0 too (Table 4.7). -/
def effTimer (h : HostCmd) (due : Nat) (s : State) : Mach := (s.m.at_ due (.cmd 0x35 h)).done h (h.f 2 0 64)
def doTrgTimer (h : HostCmd) (s : State) : State := runCmd ciTimer ownTimer (lift effTimer) h s
def execTrgTimer (h : HostCmd) (s : State) : Host.Outcome State Fault Refusal := .next (doTrgTimer h s)

def ciOut : CmdInfo where
  op := 0x36
  masks := [mask 17]
  tgt := below 16
  svc := setSvc

def ownOut (h : HostCmd) (_ : State) : Option Nat := firstOf [(h.f 1 0 16 == 0, BAD_FIELD)]
def applyOut (h : HostCmd) (m : Mach) : Mach :=
  m.wrs [(TRG_SET_OUT_WIDTH, [h.tgt], h.f 1 0 16), (TRG_SET_OUT_EN, [h.tgt], h.f 1 16 1)]
def doTrgOut (h : HostCmd) (s : State) : State := runCmd ciOut ownOut (lift (later 0x36)) h s
def execTrgOut (h : HostCmd) (s : State) : Host.Outcome State Fault Refusal := .next (doTrgOut h s)

/-! ### TRG_SOFT -/
def ciSoft : CmdInfo where
  op := 0x37
  masks := [mask 1]
  tgt := below 16
  svc := setSvc

/-- The command waits for its stitch of application, whose boundary decides it (R133). -/
def effSoft (h : HostCmd) (due : Nat) (s : State) : Mach := (s.m.at_ due (.cmd 0x37 h)).wait 0x37 h due

def applySoft (h : HostCmd) (m : Mach) : Mach :=
  if h.b 1 0 then
    let m := m.putEv { sid := 0x22C, t := m.cycleT m.tb.stitch 0, arr := m.tb.stitch - 1, own := h.tgt }
    m.finish 0x37 h.tgt DONE m.tb.stitch
  else
    let (m, ok) := m.force h.tgt
    m.finish 0x37 h.tgt (if ok then DONE else WRONG_STATE) (if ok then m.tb.stitch else 0)

def doTrgSoft (h : HostCmd) (s : State) : State := runCmd ciSoft (fun _ _ => none) (lift effSoft) h s
def execTrgSoft (h : HostCmd) (s : State) : Host.Outcome State Fault Refusal := .next (doTrgSoft h s)

end Sys2Proof.Machine
end

