-- ==== Sys2Proof/Machine/Log.lean ====
section
/-! DEFINITION. The log path (R170–R199): outputs, blocks, gaps, the spool and its delivery, and modulator inputs. -/
namespace Sys2Proof.Machine
open Sys2Proof

def Mach.lstr (m : Mach) (i : Nat) : LogStr := tget {} m.log.str i
def Mach.setLstr (m : Mach) (i : Nat) (v : LogStr) : Mach := { m with log := { m.log with str := tput {} m.log.str i v } }
def Mach.modLstr (m : Mach) (i : Nat) (f : LogStr → LogStr) : Mach := m.setLstr i (f (m.lstr i))
def Mach.lring (m : Mach) (r : Nat) : LogRing := tget {} m.log.ring r
def Mach.setLring (m : Mach) (r : Nat) (v : LogRing) : Mach := { m with log := { m.log with ring := tput {} m.log.ring r v } }
def Mach.modin (m : Mach) (d : Nat) : ModIn := tget {} m.log.inp d
def Mach.setModin (m : Mach) (d : Nat) (v : ModIn) : Mach := { m with log := { m.log with inp := tput {} m.log.inp d v } }

def Mach.modModin (m : Mach) (d : Nat) (f : ModIn → ModIn) : Mach := m.setModin d (f (m.modin d))

def allStr : List Nat := List.range 320
def lsStopped : Nat := 0
def lsRunning : Nat := 1
def lsGap : Nat := 2
def Mach.lstate (m : Mach) (i : Nat) : Nat := m.rd LOG_STR_STAT_STATE [i]
/-- Started, or waiting for its START stitch. -/
def Mach.lruns (m : Mach) (i : Nat) : Bool := m.lstate i != lsStopped || (m.lstr i).pend.isSome
def Mach.lkind (m : Mach) (i : Nat) : Nat := m.rd LOG_STR_CFG_KIND [i]
def Mach.lratio (m : Mach) (i : Nat) : Nat := m.rd LOG_STR_RATIO_RATIO [i]
def Mach.ls16 (m : Mach) (i : Nat) : Bool := m.on LOG_STR_CFG_FORMAT [i]
def Mach.lringOf (m : Mach) (i : Nat) : Nat := m.rd LOG_STR_CFG_RING [i]
/-- Bytes per word. -/
def Mach.lw (m : Mach) (i : Nat) : Nat := if m.ls16 i then 2 else 4
/-- Words per output. -/
def Mach.lper (m : Mach) (i : Nat) : Nat := if m.lkind i = 1 then 2 else 1
/-- Block bytes of a ring. -/
def Mach.blockSize (m : Mach) (r : Nat) : Nat := 4096 * 4 ^ m.rd LOG_RING_CFG_BLOCK [r]

/-! Gap causes (Table 6.3). -/
def gcSpool : Nat := 0
def gcSpll : Nat := 1
def gcMpll : Nat := 2
def gcRate : Nat := 3
def gcFgCal : Nat := 4
def gcCombine : Nat := 5
def gcMod : Nat := 6
def gcStop : Nat := 7
def gcChOff : Nat := 8
def gcState : Nat := 9

/-! ### Modulator grid -/
def mgOf (d : Nat) : Nat := d / 16
def Mach.mgEdgePos (m : Mach) (g e : Nat) : Nat := tget 0 m.log.origin g * 512 + m.rd LOG_MG_CFG_MCLK_DIV [g] * e
/-- DTIME with 40 fractional bits, and EPOCH, of the instant a number of half slice-clock periods before edge `e` of a group,
less DELAY (R178, R179). -/
def Mach.bitT (m : Mach) (g e before : Nat) : Int × Nat :=
  let d := sext 32 (m.rd LOG_MG_DELAY_DELAY [g]) * 1024 * 2 ^ 40 / 1000
  let h : Int := ((2 * m.mgEdgePos g e : Nat) : Int) - before
  let k := (h / 1024).toNat
  let l := m.latch k
  let t := (l.t : Int) + (h - 1024 * k) * l.inc / 4 - d
  (t, if (2 ^ 104 : Nat) ≤ t then (l.epoch + 1) % 65536 else if t < 0 then (l.epoch + 65535) % 65536 else l.epoch)
/-- Instant of edge `e` of a group, DTIME with 40 fractional bits, less DELAY. -/
def Mach.edgeT (m : Mach) (g e : Nat) : Int := (m.bitT g e 0).1
def Mach.edgeStitch (m : Mach) (g e : Nat) : Nat := m.mgEdgePos g e / 512
def Mach.edgeNext (m : Mach) (g : Nat) : Nat := tget 0 m.log.edge g
def Mach.setEdge (m : Mach) (g e : Nat) : Mach := { m with log := { m.log with edge := tins m.log.edge g e } }
/-- The first edge at or after a stitch boundary. -/
def Mach.firstEdge (m : Mach) (g k : Nat) : Nat :=
  ceilDiv ((k - tget 0 m.log.origin g) * 512) (m.rd LOG_MG_CFG_MCLK_DIV [g])
def Mach.mdOsr (m : Mach) (d : Nat) : Nat := m.rd LOG_MD_CFG_OSR [d]
def Mach.mdOrd (m : Mach) (d : Nat) : Nat := m.rd LOG_MD_CFG_SINC [d] + 1

/-! ### Supports and times (Table 6.1, R175, R182) -/

/-- ceil and floor of a = 25.5 M − 2 for an even RATIO. -/
def firCeil (r : Nat) : Nat := (51 * (r / 2) - 3) / 2
def firFloor (r : Nat) : Nat := (51 * (r / 2) - 4) / 2

def Mach.supEnd (m : Mach) (i k : Nat) : Int :=
  let r := m.lratio i
  match m.lkind i with
  | 0 => (k * r : Nat)
  | 3 => (k * r + firFloor r : Nat)
  | 5 => ((k + 1) * m.mdOsr (i - 64) - 1 : Nat)
  | _ => (k * r + r - 1 : Nat)

def Mach.supStart (m : Mach) (i k : Nat) : Int :=
  let r := m.lratio i
  match m.lkind i with
  | 3 => (k * r : Nat) - (firCeil r : Nat)
  | 5 => ((k + 1) * m.mdOsr (i - 64) : Nat) - (m.mdOrd (i - 64) * m.mdOsr (i - 64) : Nat)
  | _ => (k * r : Nat)

/-- Least output whose support starts at or after an input. -/
def Mach.firstFrom (m : Mach) (i : Nat) (j : Int) : Nat :=
  let r := m.lratio i
  match m.lkind i with
  | 3 => ceilDiv (j + firCeil r).toNat r
  | 5 => ceilDiv (j + m.mdOrd (i - 64) * m.mdOsr (i - 64)).toNat (m.mdOsr (i - 64)) - 1
  | _ => ceilDiv j.toNat r

/-- The stitch of input `j` of a stream. -/
def Mach.inStitch (m : Mach) (i : Nat) (j : Int) : Nat :=
  let p := ((m.lstr i).base + j).toNat
  if i < 64 then m.outStitch i p else m.edgeStitch (mgOf (i - 64)) p

/-- The core cycle of input `j` of a stream. -/
def Mach.inCycle (m : Mach) (i : Nat) (j : Int) : Nat :=
  let p := ((m.lstr i).base + j).toNat
  if i < 64 then m.outCycle i p else m.mgEdgePos (mgOf (i - 64)) p / 2

/-- Time (DTIME) and EPOCH of output `k` (Table 6.1, R182). -/
def Mach.outAt (m : Mach) (i k : Nat) : Nat × Nat :=
  let b := (m.lstr i).base
  if i < 64 then
    let (t, e) := m.outStamp i (b + (k * m.lratio i : Nat)).toNat
    (t / 2 ^ 40, e)
  else
    let d := i - 64
    let g := mgOf d
    let (t, ep) := m.bitT g (b + (((k + 1) * m.mdOsr d - 1 : Nat) : Int)).toNat
      (m.mdOrd d * (m.mdOsr d - 1) * m.rd LOG_MG_CFG_MCLK_DIV [g])
    (enc 64 (t / 2 ^ 40), ep)

/-- The time, and its EPOCH, at which a stream that ends with input `j − 1` ends: that input's time plus its period (R191). -/
def Mach.endAt (m : Mach) (i : Nat) (j : Int) : Nat × Nat :=
  let p := (m.lstr i).base + j
  if i < 64 then let (t, e) := m.outStamp i p.toNat; (t / 2 ^ 40, e)
  else
    let g := mgOf (i - 64)
    let q := (p - 1).toNat
    let (t, e) := m.bitT g q 0
    let t := t + (m.rd LOG_MG_CFG_MCLK_DIV [g] * (m.latch (m.edgeStitch g q)).inc / 2 : Nat)
    (enc 64 (t / 2 ^ 40), if (2 ^ 104 : Nat) ≤ t then (e + 1) % 65536 else e)

/-- An EPOCH change lies within the support of output `k` up to input `j` (R186). -/
def Mach.outSpans (m : Mach) (i k : Nat) (j : Int) : Bool := m.epochSpan (m.inCycle i (m.supStart i k)) (m.inCycle i j)

/-- STEP: output period in DTIME units with 24 fractional bits. -/
def Mach.lstep (m : Mach) (i : Nat) : Nat :=
  if i < 64 then divRound (m.lratio i * m.decim i * m.tb40) (m.comb i * 2 ^ 16)
  else divRound (m.mdOsr (i - 64) * m.rd LOG_MG_CFG_MCLK_DIV [mgOf (i - 64)] * m.cycInc) (2 * 2 ^ 16)

/-! ### Blocks -/

/-- A block as bytes: header words 0 to 6, payload bytes, and CHECK (Table 6.2). -/
def blockBytes (hdr : List Nat) (payload : List (BitVec 8)) : List (BitVec 8) :=
  let a := wordsBytes hdr ++ toBytes 4 0
  a ++ toBytes 4 (crc32c (a ++ payload)) ++ payload

def Mach.logHdr (m : Mach) (i : Nat) (gap fin : Bool) (flags epoch t idx count lost cause : Nat) : List Nat :=
  let d := i - 64
  let mod := decide (64 ≤ i)
  [i + m.lkind i * 2 ^ 9 + (m.ls16 i).toNat * 2 ^ 12 + gap.toNat * 2 ^ 13 + fin.toNat * 2 ^ 14 + flags * 2 ^ 16 +
     epoch * 2 ^ 32,
   t, (m.lstr i).seq, idx,
   count + (if mod then m.mdOsr d else m.lratio i) * 2 ^ 32 + (if mod then m.rd LOG_MD_CFG_SINC [d] else 0) * 2 ^ 57,
   m.lstep i, lost % 2 ^ 48 + cause * 2 ^ 48]

def Mach.spoolFree (m : Mach) (r : Nat) : Nat := m.rd LOG_RING_SLOTS_VALUE [r] - (m.lring r).blocks.length
def Mach.spoolOver (m : Mach) (r : Nat) : Bool := decide (m.spoolFree r ≤ m.rd LOG_RING_RSV_RESERVE [r])

/-- A cause ends; inputs from `j` on are good. -/
def Mach.logGood (m : Mach) (i bitNo : Nat) (j : Int) : Mach :=
  if m.lstate i = lsGap then
    let c := m.rd LOG_STR_STAT_CAUSE [i]
    (m.wr LOG_STR_STAT_CAUSE [i] (if bit c bitNo then c - 2 ^ bitNo else c)).modLstr i fun v =>
      { v with okFrom := max v.okFrom j }
  else m

/-- The input a stream would take next. -/
def Mach.inputNow (m : Mach) (i : Nat) : Int :=
  if i < 64 then (((m.chan i).histNext : Nat) : Int) - (m.lstr i).base
  else ((m.modin (i - 64)).n : Int) - (m.lstr i).base

/-- Show a ring's fill, and report HIGH (R194); with more free slots than the reserve, the streams it stopped go on (R190). -/
def Mach.spoolFill (m : Mach) (r : Nat) : Mach :=
  let n := (m.lring r).blocks.length
  let hi := m.rd LOG_RING_HIGH_VALUE [r]
  let m := m.wr LOG_RING_FILL_VALUE [r] n
  let m := if n < hi then m.setLring r { m.lring r with high := false }
    else if !(m.lring r).high && hi != 0 then
      (m.setLring r { m.lring r with high := true }).raise 3 0x0004 r [n] []
    else m
  if m.spoolOver r then m
  else each (allStr.filter fun i => m.lringOf i == r && bit (m.rd LOG_STR_STAT_CAUSE [i]) gcSpool)
    (fun m i => m.logGood i gcSpool (m.inputNow i)) m

/-- The next slot of a ring's spool that holds no undelivered block (R190). -/
def LogRing.freeSlot (g : LogRing) (slots : Nat) : Nat :=
  let l := (List.range (g.blocks.length + 1)).map fun d => (g.next + d) % slots
  (l.find? fun x => !g.blocks.any fun b => b.slot == x).getD g.next

/-- Write a block into the next free slot of its ring's spool (R188). -/
def Mach.spoolPut (m : Mach) (i : Nat) (bytes : List (BitVec 8)) (first count : Nat) (lost : Nat := 0) : Mach :=
  let r := m.lringOf i
  let g := m.lring r
  let size := m.blockSize r
  let slots := max 1 (m.rd LOG_RING_SLOTS_VALUE [r])
  let at_ := g.freeSlot slots
  let line0 := (m.areaBase (m.rd LOG_RING_CFG_AREA [r]) + at_ * size) / 64
  let m := each (List.range (size / 64)) (fun m l =>
    m.writeLine 1 (.logWriter r) 0 (line0 + l) ((bytes.drop (64 * l)).take 64) false) m
  let m := m.setLring r { g with next := (at_ + 1) % slots, blocks := g.blocks ++ [⟨at_, i, first, count, lost⟩] }
  let m := m.modLstr i fun v => { v with seq := v.seq + 1 }
  m.spoolFill r

/-- A gap starts: the stream is in GAP from output `k` (R189). -/
def Mach.gapStart (m : Mach) (i bitNo k : Nat) : Mach :=
  let (t, e) := m.outAt i k
  let m := m.modLstr i fun v => { v with gapFirst := k, gapT := t, gapEpoch := e, seen := 2 ^ bitNo, okFrom := 0, held := [],
                                         blk := none, wN := 0 }
  let m := m.wrs [(LOG_STR_STAT_STATE, [i], lsGap), (LOG_STR_STAT_CAUSE, [i], 2 ^ bitNo)]
  m.raise 3 0x0001 i [k] [2 ^ bitNo]

/-- Close a stream's open block: to the spool, or discarded under SPOOL_FULL (R188, R190). -/
def Mach.closeBlk (m : Mach) (i : Nat) : Mach :=
  match (m.lstr i).blk with
  | none => m
  | some b =>
    let r := m.lringOf i
    let m := m.modLstr i fun v => { v with blk := none }
    if m.spoolOver r then (m.fault 15 i).gapStart i gcSpool b.first
    else
      let room := m.blockSize r - 64 - b.words.length * m.lw i
      let (f, m) := m.free (8 * room)
      let payload := (b.words.reverse.flatMap fun w => toBytes (m.lw i) w) ++ toBytes room f
      let hdr := m.logHdr i false false b.flags b.epoch b.t b.first b.count 0 0
      m.spoolPut i (blockBytes hdr payload) b.first b.count

/-- Put a held output into its stream's block (R185, R186, R187). -/
def Mach.logPush (m : Mach) (i : Nat) (o : LogOut) : Mach :=
  if m.lstate i ≠ lsRunning then m
  else
    let m := match (m.lstr i).blk with
      | some b => if b.epoch = o.epoch then m else m.closeBlk i
      | none => m
    if m.lstate i ≠ lsRunning then m
    else
      let late := if i < 64 then
          let b := (m.lstr i).base
          let lo := (b + max 0 (m.supStart i o.idx)).toNat / 2048
          let hi := (b + o.lastIn).toNat / 2048
          orAll (((m.chan i).blk.filter fun p => decide (lo ≤ p.1) && decide (p.1 ≤ hi)).map Prod.snd)
        else 0
      let fl := o.flags ||| late ||| flagIf o.spans fTbEpoch
      let b := match (m.lstr i).blk with
        | some b => { b with flags := b.flags ||| fl, count := b.count + 1, words := o.words.reverse ++ b.words }
        | none => ⟨o.idx, o.t, o.epoch, fl, 1, o.words.reverse, m.dtime⟩
      let m := m.modLstr i fun v => { v with blk := some b }
      let m := m.wr LOG_STR_OUT [i] (o.idx + 1)
      let cap := (m.blockSize (m.lringOf i) - 64) / m.lw i
      if cap < b.words.length + m.lper i then m.closeBlk i else m

/-- Push the held outputs that a test lets through, in order; the others stay. -/
def Mach.logRelease (m : Mach) (i : Nat) (ok : LogOut → Bool) : Mach :=
  let v := m.lstr i
  let go := v.held.filter ok
  if go.isEmpty then m
  else each go (fun m o => m.logPush i o) (m.setLstr i { v with held := v.held.filter fun o => !ok o })

/-- A cause begins whose first lost input is `j` (R189). -/
def Mach.logGap (m : Mach) (i bitNo : Nat) (j : Int) : Mach :=
  if m.lstate i = lsRunning then
    let m := m.logRelease i fun o => decide (o.lastIn < j)
    let m := m.closeBlk i
    if m.lstate i = lsGap then
      let c := m.rd LOG_STR_STAT_CAUSE [i] ||| 2 ^ bitNo
      (m.wr LOG_STR_STAT_CAUSE [i] c).modLstr i fun v => { v with seen := v.seen ||| 2 ^ bitNo }
    else m.gapStart i bitNo (m.rd LOG_STR_OUT [i])
  else if m.lstate i = lsGap then
    let c := m.rd LOG_STR_STAT_CAUSE [i] ||| 2 ^ bitNo
    (m.wr LOG_STR_STAT_CAUSE [i] c).modLstr i fun v => { v with seen := v.seen ||| 2 ^ bitNo }
  else m

/-- First input at or after a stitch boundary. -/
def Mach.inputAt' (m : Mach) (i k : Nat) : Int :=
  if i < 64 then ((m.firstOut i k : Nat) : Int) - (m.lstr i).base
  else ((m.firstEdge (mgOf (i - 64)) k : Nat) : Int) - (m.lstr i).base

/-- A gap record (R189), and the last one of a stream (R191). -/
def Mach.gapRecord (m : Mach) (i first t epoch lost cause : Nat) (endT endEpoch : Nat) (fin : Bool) : Mach :=
  let clk := flagIf (bit cause gcSpll || bit cause gcMpll) fClkLost
  let hdr := m.logHdr i true fin clk epoch t first 0 lost cause
  let room := m.blockSize (m.lringOf i) - 64
  let payload := toBytes 8 endT ++ toBytes 8 endEpoch ++ toBytes (room - 16) 0
  let m := m.spoolPut i (blockBytes hdr payload) first 0 lost
  (m.inc LOG_STR_GAPS_GAPS [i]).add LOG_STR_LOST [i] lost

/-! ### Channel streams -/

/-- Integer square root. -/
def isqrt (x : Nat) : Nat :=
  (List.range (x.log2 / 2 + 1)).foldr (fun b r => if (r + 2 ^ b) * (r + 2 ^ b) ≤ x then r + 2 ^ b else r) 0

/-- √(a / b) rounded half-even. -/
def sqrtHalfEven (a b : Nat) : Nat :=
  let n := isqrt (a / b)
  let lim := (4 * n * n + 4 * n + 1) * b
  if 4 * a < lim then n else if lim < 4 * a then n + 1 else if n % 2 = 0 then n else n + 1

/-- Code a value scaled by 256 (S32) or plain (S16), saturating (R176). -/
def logWord (s16 : Bool) (v : Int) : Nat :=
  if s16 then enc 16 (sat16 v) else enc 24 (clampI (-8388608) 8388607 v) * 256

/-- The words of a channel output from its window. -/
def Mach.chanWords (m : Mach) (i : Nat) (v : LogStr) (x : Int) : List Nat × Mach :=
  let s := m.ls16 i
  let sc : Int := if s then 1 else 256
  let r := m.lratio i
  match m.lkind i with
  | 0 => ([logWord s (sc * x)], m)
  | 1 => ([logWord s (sc * v.wMin), logWord s (sc * v.wMax)], m)
  | 2 => ([logWord s (roundHalfEven (sc * v.wSum) r)], m)
  | 4 => ([logWord s ((sqrtHalfEven ((sc * sc).toNat * v.wSq) r : Nat) : Int)], m)
  | _ =>
    -- the spec gives no value where the support begins before the filter (assumption 136)
    if v.cics.length < 48 ∨ m.supStart i v.kNext < v.cicFrom then
      let (f, m) := m.free (if s then 16 else 24)
      ([if s then f else f * 256], m)
    else
      let h := logTaps (r / 2)
      ([logWord s (roundHalfEven (sc * dot h v.cics) (h.foldl (· + ·) 0 * (r / 2 : Nat) ^ 4))], m)

/-- Feed one input of a FILTERED stream to its CIC: the outputs of the CIC fall on the inputs that close outputs (R175). -/
def LogStr.feedCic (v : LogStr) (r j : Nat) (x : Int) : LogStr :=
  let sums := integrate x v.integ
  if j % (r / 2) = firFloor r % (r / 2) then
    let (cb, y) := combStep (sums.getLastD 0) v.comb
    { v with integ := sums, comb := cb, cics := (y :: v.cics).take 48 }
  else { v with integ := sums }

/-- The filter of a FILTERED stream starts empty with input `j`. -/
def LogStr.dryCic (v : LogStr) (j : Int) : LogStr :=
  { v with integ := [0, 0, 0, 0], comb := [0, 0, 0, 0], cics := [], cicFrom := j }

/-- Take one channel output sample into a running stream. -/
def Mach.logSample (m : Mach) (i idx : Nat) (x : Int) : Mach :=
  let v := m.lstr i
  let jI : Int := (idx : Int) - v.base
  if m.lstate i ≠ lsRunning ∨ jI < 0 then m
  else
    let j := jI.toNat
    let r := m.lratio i
    let v := if j = v.kNext * r then { v with wN := 0, wSum := 0, wSq := 0, wMin := x, wMax := x } else v
    let v := { v with wN := v.wN + 1, wSum := v.wSum + x, wSq := v.wSq + x.natAbs * x.natAbs,
                      wMin := min v.wMin x, wMax := max v.wMax x }
    let v := if m.lkind i = 3 then v.feedCic r j x else v
    if m.supEnd i v.kNext = jI then
      let (ws, m) := m.chanWords i v x
      let k := v.kNext
      let (t, e) := m.outAt i k
      let o : LogOut := ⟨k, ws, t, e, 0, jI, m.outStitch i idx, m.outSpans i k jI⟩
      m.setLstr i { v with kNext := k + 1, held := v.held ++ [o] }
    else m.setLstr i v

/-- Causes of Table 6.3 that hold for a stream's input now. -/
def Mach.logCauses (m : Mach) (i : Nat) : List Nat :=
  (if m.spllLocked && !m.fallback then [] else [if m.tb.planned then gcRate else gcSpll]) ++
  (if m.memOk then [] else [gcMpll]) ++
  (if 64 ≤ i then (if bit (m.rd LOG_MG_STAT_LOST [mgOf (i - 64)]) ((i - 64) % 16) then [gcMod] else [])
   else if m.flows i && !(m.chan i).held then []
   else if m.on TIL_CH_STAT_FG_ACTIVE [i] then [gcFgCal]
   else if m.tb.planned || (m.chan i).why == 2 then [gcRate]
   else if (m.chan i).why == 1 then [gcCombine] else [gcFgCal])

/-- Start a stream at the boundary of the present stitch (R172, R173, R182); with a cause of a gap in force it starts in GAP. -/
def Mach.logBegin (m : Mach) (i : Nat) : Mach :=
  let k := m.tb.stitch
  let base : Int := if i < 64 then (m.firstOut i k : Nat) else (m.firstEdge (mgOf (i - 64)) k : Nat)
  let v := m.lstr i
  let m := m.setLstr i { charge := v.charge, base := base }
  let m := m.wrs [(LOG_STR_STAT_STATE, [i], lsRunning), (LOG_STR_CFG_RUN, [i], 1), (LOG_STR_OUT, [i], 0), (LOG_STR_LOST, [i], 0)]
  each (m.logCauses i) (fun m b => m.logGap i b 0) m

/-- End a stream at the boundary of the present stitch with a cause (R191). -/
def Mach.logEnd (m : Mach) (i bitNo : Nat) : Mach :=
  let v0 := m.lstr i
  if v0.pend.isSome ∧ m.lstate i = lsStopped then
    ((m.subCommit v0.charge).wr LOG_STR_CFG_RUN [i] 0).modLstr i fun _ => {}
  else if m.lstate i = lsStopped then m
  else
    let m := m.logRelease i fun _ => true
    let m := m.closeBlk i
    let v := m.lstr i
    let inGap := m.lstate i == lsGap
    let kStop := v.endAt.getD m.tb.stitch
    let jEnd := m.inputAt' i kStop
    let first := if inGap then v.gapFirst else m.rd LOG_STR_OUT [i]
    -- outputs whose first sample lies before the end
    let kEnd := if i < 64 then ceilDiv jEnd.toNat (m.lratio i) else ceilDiv jEnd.toNat (m.mdOsr (i - 64))
    let lost := kEnd - first
    let part := if inGap then jEnd.toNat % (if i < 64 then m.lratio i else m.mdOsr (i - 64)) != 0 else kEnd != first
    let cause := (if inGap then v.seen else 0) ||| 2 ^ bitNo ||| (if part then 2 ^ gcStop else 0)
    let (t, e) := if inGap then (v.gapT, v.gapEpoch) else m.outAt i first
    let (endT, endE) := m.endAt i jEnd
    -- the end record closes an open gap, or one of its own where outputs are lost (R189)
    let m := if inGap || lost == 0 then m else m.raise 3 0x0001 i [first] [cause]
    let m := m.gapRecord i first t e lost cause endT endE true
    let m := if inGap || lost != 0 then m.raise 3 0x0002 i [lost] [cause] else m
    let sq := (m.lstr i).seq - 1
    let m := m.wrs [(LOG_STR_STAT_STATE, [i], lsStopped), (LOG_STR_CFG_RUN, [i], 0), (LOG_STR_STAT_CAUSE, [i], 0),
                    (LOG_STR_OUT, [i], kEnd)]
    let m := m.subCommit v.charge
    let m := m.setLstr i { seq := sq }
    m.raise 3 0x0003 i [sq] []

/-- A LOG_STOP is done: the stream ends, and the command's result is the SEQ of the end record. -/
def Mach.logStopNow (m : Mach) (i : Nat) : Mach :=
  let m := m.logEnd i gcStop
  m.finish 0x53 i DONE (m.lstr i).seq

/-- LOG_STOP at the boundary of the present stitch: a channel's stream ends when the samples taken before it are through
the filters. -/
def Mach.logStop (m : Mach) (i : Nat) : Mach :=
  if i < 64 ∧ m.lstate i = lsRunning ∧ m.taking i ∧ (m.chan i).histNext < m.firstOut i m.stitch then
    m.modLstr i fun v => { v with endAt := some m.stitch }
  else m.logStopNow i

/-- Stitches that outputs are held before they enter a block: a clock loss marks the two last stitches (R91), a supply
warning those of the last 2 µs, at most six (R456). -/
def logHold : Nat := 6

/-- The first block of a channel whose flags its stream still needs; far ahead without one. -/
def Mach.logFlagsFrom (m : Mach) (n : Nat) : Nat :=
  if m.lstate n = lsRunning then
    let v := m.lstr n
    (v.base + max 0 (m.supStart n (match v.held with | o :: _ => o.idx | [] => v.kNext))).toNat / 2048
  else 2 ^ 64

/-- Outputs of modulator streams with support in stitches from `k` on carry a flag that was not known when their bits came. -/
def Mach.logMark (m : Mach) (k flag : Nat) : Mach :=
  each ((List.range 256).map (64 + ·)) (fun m i =>
    if m.lstate i = lsStopped then m
    else
      let d := i - 64
      let done := ((m.modin d).n : Int) - (m.lstr i).base
      m.modLstr i fun v => { v with
        wFlags := v.wFlags ||| flag
        past := v.past.zipIdx.map fun (f, t) =>
          let e := (v.base + (done / m.mdOsr d - t) * m.mdOsr d - 1).toNat
          if k ≤ m.edgeStitch (mgOf d) e then f ||| flag else f
        held := v.held.map fun (o : LogOut) => if k ≤ o.st then { o with flags := o.flags ||| flag } else o }) m

/-- Give a channel's new output samples to its stream, release what has been held for `logHold` stitches, and end a stream
whose last sample has come. -/
def Mach.logFeed (m : Mach) (n : Nat) (outs : List (Nat × Int)) : Mach :=
  if m.lstate n = lsRunning then
    let fin := match (m.lstr n).endAt with | some k => some (m.firstOut n k) | none => none
    let m := each (outs.filter fun p => (fin.map fun e => decide (p.1 < e)).getD true) (fun m p => m.logSample n p.1 p.2) m
    let m := m.logRelease n fun o => decide (o.st + logHold ≤ m.tb.stitch)
    match fin with
    | some e => if e ≤ (m.chan n).histNext then m.logStopNow n else m
    | none => m
  else m

/-- Streams of a ring that have not ended. -/
def Mach.running (m : Mach) (r : Nat) : Nat := (allStr.filter fun i => m.lstate i != lsStopped && m.lringOf i == r).length

/-- A gap closes when no cause holds (R189): its record is written and the stream runs again.  A record waits until it leaves a
slot for the end record of each running stream of its ring (R191; DESIGN CHOICE, assumption 137). -/
def Mach.gapClose (m : Mach) (i : Nat) : Mach :=
  if m.lstate i ≠ lsGap ∨ m.rd LOG_STR_STAT_CAUSE [i] ≠ 0 ∨ m.spoolFree (m.lringOf i) ≤ m.running (m.lringOf i) then m
  else
    let v := m.lstr i
    -- a spool-full gap ends with the first output whose support begins after its record
    let ok := if bit v.seen gcSpool then max v.okFrom (m.inputNow i) else v.okFrom
    let ok := if i < 64 then
        let c := m.chan i
        max ok (((c.histNext - c.hist.length : Nat) : Int) - v.base)
      else ok
    let k := max v.gapFirst (m.firstFrom i ok)
    let k := if i < 64 then k else max k ((m.inputNow i).toNat / m.mdOsr (i - 64))
    let lost := k - v.gapFirst
    let (t, e) := m.outAt i k
    let m := m.gapRecord i v.gapFirst v.gapT v.gapEpoch lost v.seen t e false
    let m := m.wrs [(LOG_STR_STAT_STATE, [i], lsRunning), (LOG_STR_OUT, [i], k)]
    let m := m.modLstr i fun v => { v.dryCic (max 0 (m.supStart i k)) with kNext := k, wN := 0, held := [], seen := 0 }
    let m := m.raise 3 0x0002 i [lost] [v.seen]
    if i < 64 then
      let from_ := (v.base + max 0 (m.supStart i k)).toNat
      let c := m.chan i
      let outs := (List.range (c.histNext - from_)).filterMap fun d =>
        (c.sample (from_ + d)).map fun x => (from_ + d, x)
      each outs (fun m p => m.logSample i p.1 p.2) m
    else m

/-- Every running stream of a list meets a cause from the boundary of stitch `k`. -/
def Mach.logGapAll (m : Mach) (l : List Nat) (bitNo k : Nat) : Mach := each l (fun m i => m.logGap i bitNo (m.inputAt' i k)) m
def Mach.logGoodAll (m : Mach) (l : List Nat) (bitNo k : Nat) : Mach := each l (fun m i => m.logGood i bitNo (m.inputAt' i k)) m

/-- Blocks of a stream leave the spool undelivered: their numbers, and what their gap records counted, are taken back, and the
stream's gap counts their outputs. -/
def Mach.unloseBlocks (m : Mach) (i : Nat) (l : List SpoolBlk) : Mach :=
  let lost := (l.map SpoolBlk.lost).foldl (· + ·) 0
  (m.wr LOG_STR_LOST [i] (m.rd LOG_STR_LOST [i] - lost)).modLstr i fun v => { v with seq := v.seq - l.length }

/-- MPLL loss (R92, Table 6.3): the gap starts at the first output not yet in memory; blocks whose lines are still queued
leave the spool. -/
def Mach.logMpllLost (m : Mach) : Mach :=
  let queuedLines := (m.mem.queue.filter fun q => match q.src with | .logWriter _ => true | _ => false).map MemReq.line
  let m := { m with mem := { m.mem with queue := m.mem.queue.filter fun q =>
    match q.src with | .logWriter _ => false | _ => true } }
  let inQueue := fun (m : Mach) (r : Nat) (b : SpoolBlk) =>
    let l0 := (m.areaBase (m.rd LOG_RING_CFG_AREA [r]) + b.slot * m.blockSize r) / 64
    queuedLines.any fun l => decide (l0 ≤ l) && decide (l < l0 + m.blockSize r / 64)
  each allStr (fun m i =>
    if m.lstate i = lsStopped then m
    else
      let r := m.lringOf i
      let g := m.lring r
      let bad := g.blocks.filter fun b => b.str == i && inQueue m r b
      let m := m.setLring r { g with blocks := g.blocks.filter fun b => !(b.str == i && inQueue m r b) }
      let m := m.unloseBlocks i bad
      let openFirst := match (m.lstr i).blk with | some b => b.first | none => m.rd LOG_STR_OUT [i]
      let first := (bad.map SpoolBlk.first).foldl min openFirst
      let m := m.spoolFill r
      if m.lstate i = lsRunning then
        (m.wr LOG_STR_OUT [i] first).gapStart i gcMpll first
      else
        let c := m.rd LOG_STR_STAT_CAUSE [i] ||| 2 ^ gcMpll
        (m.wr LOG_STR_STAT_CAUSE [i] c).modLstr i fun v =>
          let k := min v.gapFirst first
          let (t, e) := m.outAt i k
          { v with seen := v.seen ||| 2 ^ gcMpll, gapFirst := k, gapT := t, gapEpoch := e }) m

/-- After MEM_REINIT (R192): with areas invalid, every undelivered block is lost, and the gap starts there. -/
def Mach.logReinit (m : Mach) (invalid : Bool) : Mach :=
  let m := if !invalid then m
    else each allStr (fun m i =>
      if m.lstate i = lsGap then
        let l := (m.lring (m.lringOf i)).blocks.filter fun b => b.str == i
        let m := m.unloseBlocks i l
        let k := (l.map SpoolBlk.first).foldl min (m.lstr i).gapFirst
        let (t, e) := m.outAt i k
        m.modLstr i fun v => { v with gapFirst := k, gapT := t, gapEpoch := e }
      else m) m
  let m := if !invalid then m
    else each (List.range 128) (fun m r => (m.setLring r { m.lring r with blocks := [], next := 0 }).spoolFill r) m
  each allStr (fun m i => m.logGood i gcMpll (m.inputNow i)) m

/-! ### Modulator inputs -/

/-- Coefficients of a sinc of order `k` and length `osr`: (1 + z + … )^k. -/
def sincTaps (osr : Nat) : Nat → List Nat
  | 0 => [1]
  | k + 1 =>
    let l := sincTaps osr k
    (List.range (l.length + osr - 1)).map fun i =>
      ((l.drop (i + 1 - osr)).take (min osr (i + 1))).foldl (· + ·) 0

/-- Filter sum over ±1 bits, newest in bit 0 (R182). -/
def sincSum (osr k hist : Nat) : Int :=
  ((sincTaps osr k).zipIdx).foldl (fun a p => if bit hist p.2 then a + p.1 else a - p.1) 0

/-- The sinc output of an input in a stream's format, and whether it saturated. -/
def Mach.sincOut (m : Mach) (d : Nat) (s16 : Bool) : Nat × Bool × Mach :=
  let v := m.modin d
  let osr := m.mdOsr d
  let k := m.mdOrd d
  let sc : Nat := if s16 then 2 ^ 15 else 2 ^ 23
  if v.n < k * (osr - 1) + 1 then
    let (f, m) := m.free (if s16 then 16 else 24)
    ((if s16 then f else f * 256), false, m)
  else
    let y := roundHalfEven (sincSum osr k v.hist * sc) (osr ^ k : Nat)
    let sat := decide ((sc : Int) ≤ y)
    let y := if sat then (sc : Int) - 1 else y
    ((if s16 then enc 16 y else enc 24 y * 256), sat, m)

/-- The comparator value Z (R183); free until its filter has met as many bits as it weighs. -/
def Mach.cmpZ (m : Mach) (d : Nat) : Int × Mach :=
  let osr := m.rd LOG_MD_CFG_CMP_OSR [d]
  let k := m.rd LOG_MD_CFG_CMP_ORD [d] + 1
  if (m.modin d).n < k * (osr - 1) + 1 then let (f, m) := m.free 16; (sext 16 f, m)
  else (min 32767 (roundHalfEven (sincSum osr k (m.modin d).hist * 2 ^ 15) (osr ^ k : Nat)), m)

/-- Comparator output after value Z (R183). -/
def Mach.cmpNext (m : Mach) (d : Nat) (z : Int) : Bool :=
  let hi := sext 16 (m.rd LOG_MD_CMP_HI [d])
  let lo := sext 16 (m.rd LOG_MD_CMP_LO [d])
  let h : Int := m.rd LOG_MD_HYST_HYST [d]
  let was := (m.modin d).cmp
  match m.rd LOG_MD_CFG_CMP_MODE [d] with
  | 1 => if was then !decide (z ≤ hi - h) else decide (hi < z)
  | 2 => if was then !decide (lo + h ≤ z) else decide (z < lo)
  | 3 => if was then !(decide (lo + h ≤ z) && decide (z ≤ hi - h)) else decide (hi < z) || decide (z < lo)
  | _ => false

def Mach.modLost (m : Mach) (d : Nat) : Bool := bit (m.rd LOG_MG_STAT_LOST [mgOf d]) (d % 16)

/-- The core cycle in which something of an edge arrives after the filter's two MCLK periods and 8 cycles (Table 4.3, R184). -/
def Mach.cmpCyc (m : Mach) (d e : Nat) : Nat := (m.mgEdgePos (mgOf d) (e + 2) + 16) / 2

/-- The level of a comparator output where it leaves its filter, and its SID's event if it is active (R183). -/
def Mach.cmpLevel (m : Mach) (d : Nat) (on : Bool) (t c : Nat) : Mach :=
  let m := (m.wb LOG_MD_HYST_ACTIVE [d] on).putPChg { sid := 0x80 + d, v := on, t := t, arr := c / 256, arrC := c }
  if on then m.putEv { sid := 0x80 + d, t := t, arr := c / 256, arrC := c } else m

/-- The comparator of an input goes inactive at time `t`, which arrives in cycle `c`: behind an activation that is still inside
the filter. -/
def Mach.cmpOff (m : Mach) (d t c : Nat) : Mach :=
  let v := m.modin d
  if !v.cmp then m
  else if v.acts.isEmpty then (m.setModin d { v with cmp := false }).cmpLevel d false t c
  else m.setModin d { v with cmp := false, acts := v.acts ++ [(false, t, c)] }

/-- One bit of an input at edge `e` (R178–R183): its levels in the first and the second half of the bit, taken at the rising and
the falling edge of MCLK; `fl` the flags that stand now. -/
def Mach.modBit (m : Mach) (d e : Nat) (lead trail : Bool) (fl : Nat) : Mach :=
  let g := mgOf d
  let man := m.on LOG_MG_CFG_MANCH [g]
  let v := m.modin d
  let err := man && lead == trail
  let b := if err then bit v.hist 0 else if man || m.on LOG_MG_CFG_EDGE [g] then trail else lead
  let m := if err then m.inc LOG_MD_ERR_DECODE [d] else m
  let same := if v.n != 0 && b == bit v.hist 0 then v.same + 1 else 1
  let clean := if err then 0 else v.clean + 1
  let errs := (2 * v.errs + err.toNat) % 2 ^ 1024
  let stuck := m.rd LOG_MD_CFG_STUCK [d]
  let lost := m.modLost d
  let bad := if man then decide (16 ≤ popcount 1024 errs) else stuck != 0 && decide (stuck * 16 ≤ same)
  let good := if man then decide (1024 ≤ clean) else same == 1
  let v := { v with hist := (2 * v.hist + b.toNat) % 2 ^ 4096, n := e + 1, errs := errs, same := same, clean := clean,
                    lostAt := if !lost && bad && v.lostAt.isNone then some (e, if man then 0 else 1) else v.lostAt,
                    okAt := if lost && good && v.okAt.isNone then some e else v.okAt }
  let m := m.setModin d v
  let t := (enc 72 (m.edgeT g e / 2 ^ 32))
  -- comparator
  let (z, m) := if m.rd LOG_MD_CFG_CMP_MODE [d] = 0 then (0, m) else m.cmpZ d
  let next := !lost && v.lostAt.isNone && m.cmpNext d z
  let m := if next && !v.cmp then m.setModin d { v with cmp := true, acts := v.acts ++ [(true, t, m.cmpCyc d e)] }
    else if !next then m.cmpOff d t (m.cmpCyc d e)
    else m
  -- stream
  let i := 64 + d
  let ls := m.lstr i
  let jI : Int := (e : Int) - ls.base
  if m.lstate i = lsStopped ∨ jI < 0 then m
  else
    let last := (jI + 1) % m.mdOsr d == 0
    let past := (ls.wFlags ||| fl) :: ls.past
    let m := m.modLstr i fun s =>
      if last then { s with past := past.take (m.mdOrd d), wFlags := 0 } else { s with wFlags := s.wFlags ||| fl }
    if m.lstate i = lsRunning ∧ m.supEnd i ls.kNext = jI then
      let (w, sat, m) := m.sincOut d (m.ls16 i)
      let k := ls.kNext
      let (ot, oe) := m.outAt i k
      let o : LogOut := ⟨k, [w], ot, oe, orAll (past.take (m.mdOrd d)) ||| flagIf sat fOverrange, jI, m.edgeStitch g e,
        m.outSpans i k jI⟩
      m.modLstr i fun s => { s with kNext := k + 1, held := s.held ++ [o] }
    else m

/-- The edge of a group's clock that is due: the next one on its grid, once its instant has come. -/
def Mach.edgeDue (m : Mach) (g e : Nat) : Bool :=
  m.on LOG_MG_STAT_RUNNING [g] && e == m.edgeNext g && decide (m.mgEdgePos g e ≤ 2 * m.cycles)

/-- One MCLK edge of a group (R178): every input takes one bit. -/
def Mach.mclkEdge (m : Mach) (g e : Nat) (lead trail : Nat) (broken : Bool) : Mach :=
  if !m.edgeDue g e then m
  else
    let m := m.setEdge g (e + 1)
    let fl := m.devFlags broken &&& (fTbCoast ||| fSupply ||| fBroken)
    each (List.range 16) (fun m j =>
      let d := 16 * g + j
      let m := m.modBit d e (bit lead j) (bit trail j) fl
      m.logRelease (64 + d) fun o => decide (o.st + logHold ≤ m.tb.stitch)) m

/-- A loss that was detected is declared (R181). -/
def Mach.modLostNow (m : Mach) (d : Nat) : Mach :=
  match (m.modin d).lostAt with
  | none => m
  | some (e, why) =>
    if m.modLost d then m
    else
      let g := mgOf d
      let v := m.modin d
      let m := m.wr LOG_MG_STAT_LOST [g] (setBit (m.rd LOG_MG_STAT_LOST [g]) (d % 16) true)
      let m := (m.inc LOG_MD_ERR_LOSSES [d]).fault 16 d
      let m := m.setModin d { v with lostAt := none, okAt := none, lostFrom := e, clean := 0 }
      let m := m.cmpOff d (enc 72 (m.edgeT g e.toNat / 2 ^ 32)) (m.cmpCyc d e.toNat)
      let m := m.raise 3 0x0005 d [] [why]
      m.logGap (64 + d) gcMod (e - (m.lstr (64 + d)).base)

/-- A recovery that was detected is declared (R181). -/
def Mach.modOkNow (m : Mach) (d : Nat) : Mach :=
  match (m.modin d).okAt with
  | none => m
  | some e =>
    if !m.modLost d then m
    else
      let g := mgOf d
      let v := m.modin d
      let m := m.wr LOG_MG_STAT_LOST [g] (setBit (m.rd LOG_MG_STAT_LOST [g]) (d % 16) false)
      let m := m.setModin d { v with okAt := none, lostAt := none, errs := 0 }
      let m := m.raise 3 0x0006 d [(e - v.lostFrom).toNat] []
      m.logGood (64 + d) gcMod (e - (m.lstr (64 + d)).base)

/-- A comparator output leaves its filter active: its level and its event; a return to inactive that is inside the filter behind
it follows (R183, R184). -/
def Mach.cmpActivate (m : Mach) (d : Nat) : Mach :=
  match (m.modin d).acts with
  | [] => m
  | (on, t, c) :: rest =>
    let offs := rest.takeWhile fun p => !p.1
    let m := (m.modModin d fun v => { v with acts := rest.dropWhile fun p => !p.1 }).cmpLevel d on t (max c m.cycles)
    each offs (fun m p => m.cmpLevel d false p.2.1 (max p.2.2 m.cycles)) m

/-! ### Delivery -/

/-- Move the oldest spool block of a ring into its log ring (R194). -/
def State.logDeliver (s : State) (r : Nat) : State :=
  let m := s.m
  let q := 256 + r
  match (m.lring r).blocks with
  | [] => s
  | b :: rest =>
    if !m.qReady q || !m.memOk then s
    else
      let size := m.blockSize r
      let addr := m.areaBase (m.rd LOG_RING_CFG_AREA [r]) + b.slot * size
      let bytes := s.bytes addr size
      let hdr0 := (List.range 7).map fun i => ofBytes ((bytes.drop (8 * i)).take 8)
      let bytes := if s.anyPoison addr size then
          let w0 := hdr0.getD 0 0
          let w0 := if bit w0 24 then w0 else w0 + 2 ^ 24
          blockBytes (w0 :: hdr0.drop 1) (bytes.drop 64)
        else bytes
      let ws := (List.range (size / 8)).map fun i => ofBytes ((bytes.drop (8 * i)).take 8)
      let m := m.produce q fun ph => (ws.headD 0 + ph * 2 ^ 63) :: ws.drop 1
      let m := m.setLring r { m.lring r with blocks := rest }
      { s with m := m.spoolFill r }

end Sys2Proof.Machine
end

