-- ==== Sys2Proof/Machine/LogCmds.lean ====
section
/-! DEFINITION. The log commands 0x50–0x56 and the events of the log path (R194–R199). -/
namespace Sys2Proof.Machine
open Sys2Proof

/-- A program of an active set names an event source. -/
def Mach.sidArmed (m : Mach) (sid : Nat) : Bool := allSets.any fun s => m.active s && m.namesUnit s sid

/-- Streams bound to a ring. -/
def Mach.boundTo (m : Mach) (r : Nat) : Nat :=
  (allStr.filter fun i => m.on LOG_STR_CFG_BOUND [i] && m.lringOf i == r).length

/-- Slots an area gives at a block-size code (R185). -/
def Mach.slotsOf (m : Mach) (area code : Nat) : Nat :=
  if m.areaType area = areaSpool then m.areaSize area / (4096 * 4 ^ code) else 0

/-! ### LOG_RING_SET -/
def ciLogRingSet : CmdInfo where
  op := 0x50
  masks := [mask 2 + mask 24 * 2 ^ 8, mask 32, mask 32]
  tgt := below 128

def ownLogRingSet (h : HostCmd) (s : State) : Option Nat :=
  let r := h.tgt
  let slots := s.m.slotsOf (h.f 1 8 8) (h.f 1 0 2)
  firstOf [(allStr.any fun i => s.m.lruns i && s.m.lringOf i == r, BUSY),
           (s.m.areaType (h.f 1 8 8) != areaSpool ||
             (h.f 1 0 2 != 3 && decide (slots < s.m.rd LOG_RING_RSV_RESERVE [r] + 2)), NO_AREA), (h.f 1 0 2 == 3, BAD_FIELD)]

/-- A changed area or block size starts the spool empty; a changed block size stops an existing ring (R330). -/
def applyLogRingSet (h : HostCmd) (m : Mach) : Mach :=
  let r := h.tgt
  let blk := m.rd LOG_RING_CFG_BLOCK [r]
  let same := blk == h.f 1 0 2 && m.rd LOG_RING_CFG_AREA [r] == h.f 1 8 8
  let m := m.wrs [(LOG_RING_CFG_BLOCK, [r], h.f 1 0 2), (LOG_RING_CFG_AREA, [r], h.f 1 8 8),
    (LOG_RING_CFG_FLUSH, [r], h.f 1 16 16), (LOG_RING_COAL_COAL_COUNT, [r], h.f 2 0 16),
    (LOG_RING_COAL_COAL_TIME, [r], h.f 2 16 16), (LOG_RING_HIGH_VALUE, [r], h.f 3 0 32),
    (LOG_RING_SLOTS_VALUE, [r], m.slotsOf (h.f 1 8 8) (h.f 1 0 2))]
  let m := if m.rd LOG_RING_CFG_BLOCK [r] != blk && m.qCreated (256 + r) then m.wr HIF_Q_STAT_SIZE_MISMATCH [256 + r] 1 else m
  if same then m else (m.setLring r {}).spoolFill r

def effLogRingSet (h : HostCmd) (due : Nat) (s : State) : Mach :=
  (s.m.at_ due (.cmd 0x50 h)).done h (s.m.slotsOf (h.f 1 8 8) (h.f 1 0 2))
def doLogRingSet (h : HostCmd) (s : State) : State := runCmd ciLogRingSet ownLogRingSet (lift effLogRingSet) h s
def execLogRingSet (h : HostCmd) (s : State) : Host.Outcome State Fault Refusal := .next (doLogRingSet h s)

/-! ### LOG_STREAM_CFG -/
def strR15 (m : Mach) (h : HostCmd) : Bool := decide (h.tgt < 64) && m.unused h.tgt

def ciLogStreamCfg : CmdInfo where
  op := 0x51
  masks := [mask 11 * 2, mask 25]
  tgt := below 320
  r15 := strR15

def ownLogStreamCfg (h : HostCmd) (s : State) : Option Nat :=
  let kind := h.f 1 1 3
  let ratio := h.f 2 0 25
  let bad := if h.tgt < 64 then
      decide (5 ≤ kind) || decide (ratio < 2) || decide (2 ^ 24 < ratio) || (kind == 3 && ratio % 2 == 1)
    else kind != 5
  firstOf [(s.m.lruns h.tgt, BUSY), (bad, BAD_FIELD)]

def applyLogStreamCfg (h : HostCmd) (m : Mach) : Mach :=
  let i := h.tgt
  let old := m.lringOf i
  let new_ := h.f 1 5 7
  let m := m.wrs [(LOG_STR_CFG_KIND, [i], h.f 1 1 3), (LOG_STR_CFG_FORMAT, [i], h.f 1 4 1), (LOG_STR_CFG_RING, [i], new_),
                  (LOG_STR_CFG_BOUND, [i], 1), (LOG_STR_RATIO_RATIO, [i], h.f 2 0 25)]
  let m := (m.wr LOG_RING_RSV_RESERVE [old] (m.boundTo old)).wr LOG_RING_RSV_RESERVE [new_] (m.boundTo new_)
  (m.spoolFill old).spoolFill new_

def doLogStreamCfg (h : HostCmd) (s : State) : State := runCmd ciLogStreamCfg ownLogStreamCfg (lift (later 0x51)) h s
def execLogStreamCfg (h : HostCmd) (s : State) : Host.Outcome State Fault Refusal := .next (doLogStreamCfg h s)

/-! ### LOG_START -/
def ciLogStart : CmdInfo where
  op := 0x52
  masks := [mask 64]
  tgt := below 320
  r15 := strR15

/-- Charge of a stream in MB/s at the nominal slice clock, rounded up (R195). -/
def Mach.lcharge (m : Mach) (i : Nat) : Nat :=
  if i < 64 then ceilDiv (m.comb i * 5000 * m.lw i * m.lper i) (m.decim i * m.lratio i)
  else ceilDiv (1250 * m.lw i) (m.rd LOG_MG_CFG_MCLK_DIV [mgOf (i - 64)] * m.mdOsr (i - 64))

/-- The input a stream reads from is there (R197 check 4). -/
def Mach.lsource (m : Mach) (i : Nat) : Bool :=
  if i < 64 then m.chIsOn i else m.on LOG_MG_CFG_EN [mgOf (i - 64)] && !m.modLost (i - 64)

/-- The checks of R197 from the second on. -/
def ownLogStart (h : HostCmd) (s : State) : Option Nat :=
  let m := s.m
  let i := h.tgt
  let r := m.lringOf i
  let st := h.f 1 0 64
  firstOf [(!m.spllLocked || !m.memOk, CLOCK_INVALID),
           (!m.on LOG_STR_CFG_BOUND [i] || m.lruns i, WRONG_STATE), (!m.lsource i, WRONG_STATE),
           (m.areaType (m.rd LOG_RING_CFG_AREA [r]) != areaSpool || m.spoolOver r, NO_AREA),
           (st != 0 && decide (st < m.stitch + 2), BAD_FIELD), (m.overCommit (m.lcharge i), BANDWIDTH)]

/-- Charge a stream and let it wait for its stitch. -/
def Mach.logWaitStart (m : Mach) (i k : Nat) : Mach :=
  let c := m.lcharge i
  (m.addCommit c).modLstr i fun v => { v with pend := some k, charge := c }

def effLogStart (h : HostCmd) (due : Nat) (s : State) : Mach :=
  let k := if h.f 1 0 64 = 0 then due else max due (h.f 1 0 64)
  (s.m.logWaitStart h.tgt k).done h k
/-- A secondary's application: START given, or now. -/
def applyLogStart (h : HostCmd) (m : Mach) : Mach := m.logWaitStart h.tgt (max m.stitch (h.f 1 0 64))
def doLogStart (h : HostCmd) (s : State) : State := runCmd ciLogStart ownLogStart (lift effLogStart) h s
def execLogStart (h : HostCmd) (s : State) : Host.Outcome State Fault Refusal := .next (doLogStart h s)

/-- Start the streams whose stitch has come; a stop that still waits for samples is done. -/
def Mach.logStarts (m : Mach) : Mach :=
  let m := each ((m.log.str.filter fun p => (p.2.endAt.map fun k => decide (k < m.stitch)).getD false).map Prod.fst)
    (fun m i => m.logStopNow i) m
  each (m.log.str.map Prod.fst) (fun m i =>
    match (m.lstr i).pend with
    | some k => if k ≤ m.stitch then m.logBegin i else m
    | none => m) m

/-! ### LOG_STOP -/
def ciLogStop : CmdInfo where
  op := 0x53
  masks := []
  tgt := below 320
  r15 := strR15

def effLogStop (h : HostCmd) (due : Nat) (s : State) : Mach :=
  if s.m.lruns h.tgt then (s.m.at_ due (.cmd 0x53 h)).wait 0x53 h due else s.m.done h 0

def applyLogStop (h : HostCmd) (m : Mach) : Mach :=
  m.logStop h.tgt
def doLogStop (h : HostCmd) (s : State) : State := runCmd ciLogStop (fun _ _ => none) (lift effLogStop) h s
def execLogStop (h : HostCmd) (s : State) : Host.Outcome State Fault Refusal := .next (doLogStop h s)

/-! ### LOG_MG_SET -/
def ciLogMgSet : CmdInfo where
  op := 0x54
  masks := [mask 19, mask 32]
  tgt := below 16

/-- Streams of a group's inputs. -/
def mgStr (g : Nat) : List Nat := (List.range 16).map fun j => 64 + 16 * g + j

def ownLogMgSet (h : HostCmd) (s : State) : Option Nat :=
  let g := h.tgt
  firstOf [((mgStr g).any s.m.lruns || (List.range 16).any fun j => s.m.sidArmed (0x80 + 16 * g + j), BUSY),
           (decide (h.f 1 0 16 < 50), BAD_FIELD)]

/-- MCLK runs while the group is enabled and SPLL is locked, outside Retention (Table 17.8), and holds low else (R177); it starts
on its grid (R178). -/
def Mach.mclkFollow (m : Mach) (g : Nat) : Mach :=
  let on := m.on LOG_MG_CFG_EN [g] && m.spllLocked && !m.fallback && m.dev != .retention
  if on == m.on LOG_MG_STAT_RUNNING [g] then m
  else
    let m := (m.wb LOG_MG_STAT_RUNNING [g] on).pin (.mclk g) on.toNat
    if on then m.setEdge g (max (m.edgeNext g) (m.firstEdge g m.stitch)) else m
def Mach.mclkAll (m : Mach) : Mach := each (List.range 16) (fun m g => m.mclkFollow g) m

/-- An input's next bit is that of edge `e` of a grid that begins: a loss in force keeps its length so far (R181). -/
def ModIn.regrid (v : ModIn) (e : Nat) : ModIn :=
  let d := (e : Int) - v.n
  { v with n := e, lostAt := v.lostAt.map fun p => (p.1 + d, p.2), okAt := v.okAt.map (· + d), lostFrom := v.lostFrom + d }

/-- An input whose group is enabled has no bits yet; a loss in force goes on. -/
def ModIn.fresh (v : ModIn) : ModIn := { v.regrid 0 with hist := 0, errs := 0, same := 0, clean := 0 }

/-- The comparators of a group end. -/
def Mach.cmpsOff (m : Mach) (g : Nat) : Mach :=
  each (List.range 16) (fun m j => m.cmpOff (16 * g + j) (toT m.tb.dt) m.cycles) m

/-- Enabling a group makes this boundary its origin and starts its filters; a new divider gives it another grid from the same
origin (R178). -/
def applyLogMgSet (h : HostCmd) (m : Mach) : Mach :=
  let g := h.tgt
  let was := m.on LOG_MG_CFG_EN [g]
  let div := m.rd LOG_MG_CFG_MCLK_DIV [g]
  let mods := fun (m : Mach) (f : ModIn → ModIn) => each (List.range 16) (fun m j => m.modModin (16 * g + j) f) m
  let m := m.wrs [(LOG_MG_CFG_MCLK_DIV, [g], h.f 1 0 16), (LOG_MG_CFG_EN, [g], h.f 1 16 1), (LOG_MG_CFG_EDGE, [g], h.f 1 17 1),
                  (LOG_MG_CFG_MANCH, [g], h.f 1 18 1), (LOG_MG_DELAY_DELAY, [g], h.f 2 0 32)]
  let m := if was && !h.b 1 16 then m.cmpsOff g
    else if h.b 1 16 && !was then
      (mods { m with log := { m.log with origin := tins m.log.origin g m.stitch } } ModIn.fresh).setEdge g 0
    else if was && div != h.f 1 0 16 then
      let e := m.firstEdge g m.stitch
      (mods m fun v => v.regrid e).setEdge g e
    else m
  m.mclkFollow g
def doLogMgSet (h : HostCmd) (s : State) : State := runCmd ciLogMgSet ownLogMgSet (lift (later 0x54)) h s
def execLogMgSet (h : HostCmd) (s : State) : Host.Outcome State Fault Refusal := .next (doLogMgSet h s)

/-! ### LOG_MD_SET -/
def ciLogMdSet : CmdInfo where
  op := 0x55
  masks := [mask 33, mask 47]
  tgt := below 256

def mdValid (h : HostCmd) : Bool :=
  let only := h.b 1 32
  let osr := h.f 1 2 11
  let cosr := h.f 1 15 7
  let hi := sext 16 (h.f 2 0 16)
  let lo := sext 16 (h.f 2 16 16)
  let hy : Int := h.f 2 32 15
  (only || (decide (4 ≤ osr) && decide (osr ≤ 1024) && decide (4 ≤ cosr) && decide (cosr ≤ 64) && h.f 1 13 2 != 3)) &&
  !(h.f 1 22 2 == 3 && decide (hi - hy < lo + hy))

def ownLogMdSet (h : HostCmd) (s : State) : Option Nat :=
  firstOf [(!h.b 1 32 && (s.m.lruns (64 + h.tgt) || s.m.sidArmed (0x80 + h.tgt)), BUSY), (!mdValid h, BAD_FIELD)]

def applyLogMdSet (h : HostCmd) (m : Mach) : Mach :=
  let d := h.tgt
  let m := m.wrs [(LOG_MD_CFG_CMP_MODE, [d], h.f 1 22 2), (LOG_MD_CMP_HI, [d], h.f 2 0 16), (LOG_MD_CMP_LO, [d], h.f 2 16 16),
                  (LOG_MD_HYST_HYST, [d], h.f 2 32 15)]
  if h.b 1 32 then m
  else m.wrs [(LOG_MD_CFG_SINC, [d], h.f 1 0 2), (LOG_MD_CFG_OSR, [d], h.f 1 2 11), (LOG_MD_CFG_CMP_ORD, [d], h.f 1 13 2),
              (LOG_MD_CFG_CMP_OSR, [d], h.f 1 15 7), (LOG_MD_CFG_STUCK, [d], h.f 1 24 8)]
def doLogMdSet (h : HostCmd) (s : State) : State := runCmd ciLogMdSet ownLogMdSet (lift (later 0x55)) h s
def execLogMdSet (h : HostCmd) (s : State) : Host.Outcome State Fault Refusal := .next (doLogMdSet h s)

/-! ### LOG_FLUSH -/
def ciLogFlush : CmdInfo where
  op := 0x56
  masks := []
  tgt := below 128

def effLogFlush (h : HostCmd) (due : Nat) (s : State) : Mach := (s.m.at_ due (.cmd 0x56 h)).wait 0x56 h due
def applyLogFlush (h : HostCmd) (m : Mach) : Mach :=
  let l := allStr.filter fun i => m.lringOf i == h.tgt && (m.lstr i).blk.isSome
  (each l (fun m i => m.closeBlk i) m).finish 0x56 h.tgt DONE l.length
def doLogFlush (h : HostCmd) (s : State) : State := runCmd ciLogFlush (fun _ _ => none) (lift effLogFlush) h s
def execLogFlush (h : HostCmd) (s : State) : Host.Outcome State Fault Refusal := .next (doLogFlush h s)

/-! ### Events -/

/-- The open block of a stream has waited FLUSH ms (R188). -/
def doLogFlushTimeout (i : Nat) (s : State) : State :=
  let fl := s.m.rd LOG_RING_CFG_FLUSH [s.m.lringOf i]
  match (s.m.lstr i).blk with
  | some b => if fl != 0 && decide (fl * msDt ≤ s.m.dtime - b.since) then s.upd fun m => m.closeBlk i else s
  | none => s
def execLogFlushTimeout (i : Fin 320) (s : State) : Host.Outcome State Fault Refusal := .next (doLogFlushTimeout i.val s)

def doLogBlockDelivery (r : Nat) (s : State) : State := s.logDeliver r
def execLogBlockDelivery (r : Fin 128) (s : State) : Host.Outcome State Fault Refusal := .next (doLogBlockDelivery r.val s)

def doGapClose (i : Nat) (s : State) : State := s.upd fun m => m.gapClose i
def execGapClose (i : Fin 320) (s : State) : Host.Outcome State Fault Refusal := .next (doGapClose i.val s)

def doMclkEdge (g e : Nat) (lead trail : Nat) (s : State) : State :=
  s.upd fun m => m.mclkEdge g e lead trail s.hoopSeal.brokenInterval
def execMclkEdge (g : Fin 16) (e : Nat) (lead trail : BitVec 16) (s : State) : Host.Outcome State Fault Refusal :=
  .next (doMclkEdge g.val e lead.toNat trail.toNat s)

def doModLost (d : Nat) (s : State) : State := s.upd fun m => m.modLostNow d
def execModLost (d : Fin 256) (s : State) : Host.Outcome State Fault Refusal := .next (doModLost d.val s)
def doModRestored (d : Nat) (s : State) : State := s.upd fun m => m.modOkNow d
def execModRestored (d : Fin 256) (s : State) : Host.Outcome State Fault Refusal := .next (doModRestored d.val s)
def doComparatorActivate (d : Nat) (s : State) : State := s.upd fun m => m.cmpActivate d
def execComparatorActivate (d : Fin 256) (s : State) : Host.Outcome State Fault Refusal := .next (doComparatorActivate d.val s)

end Sys2Proof.Machine
end

