-- ==== Sys2Proof/Machine/Acc.lean ====
section
/-! DEFINITION. The accumulation unit (R200–R220): accumulator lines in SRAM or memory, what folds and losses leave in the
registers, and clearing. -/
namespace Sys2Proof.Machine
open Sys2Proof

def accEmpty : Nat := 0
def accValid : Nat := 1
def accBroken : Nat := 2
def Mach.akind (m : Mach) (t : Nat) : Nat := m.rd ACC_SET_CFG_KIND [t]
/-- Lines of one member under the layout of R210. -/
def Mach.memberLines (m : Mach) (t : Nat) : Nat := ceilDiv (m.recLen t) 8
/-- Units of an accumulation (R220). -/
def Mach.accUnits (m : Mach) (t : Nat) : Nat :=
  let k := (m.members t).length
  if m.akind t = 2 then k * m.tbins t * 2 ^ m.rd ACC_SET_CFG_AB_LOG2 [t] else k * m.recLen t
/-- Lines of an accumulation. -/
def Mach.accLines (m : Mach) (t : Nat) : Nat := ceilDiv (m.accBytes t) 64
/-- The cleared 64-bit word of a kind (R208). -/
def Mach.accZero (m : Mach) (t : Nat) : Nat := if m.akind t = 1 then 0x80007FFF else 0

/-- First SRAM word of a set's accumulation. -/
def Mach.sramBase (m : Mach) (t : Nat) : Nat := m.rd ACC_SET_BIND_BANK_FIRST [t] * 262144
/-- First memory line of a set's accumulation. -/
def Mach.accLine0 (m : Mach) (t : Nat) : Nat := m.areaBase (m.rd ACC_SET_BIND_AREA [t]) / 64

/-- The eight words of an accumulator line. -/
def State.accLine (s : State) (t l : Nat) : List Nat :=
  if s.m.accDram t then
    let b := s.line (s.m.accLine0 t + l)
    (List.range 8).map fun i => ofBytes ((b.drop (8 * i)).take 8)
  else (List.range 8).map fun i => tget 0 s.m.acc.sram (s.m.sramBase t + 8 * l + i)

/-- Put back the words of an accumulator line. -/
def Mach.accPut (m : Mach) (t l : Nat) (ws : List Nat) (cls : Nat) (poison : Bool) : Mach :=
  if m.accDram t then m.writeLine cls (.acc t) 0 (m.accLine0 t + l) (wordsBytes ws) poison
  else
    let b := m.sramBase t + 8 * l
    { m with acc := { m.acc with sram := ws.zipIdx.foldl (fun tb p => tput 0 tb (b + p.2) p.1) m.acc.sram } }

def Mach.accBad (m : Mach) (t l : Nat) : Bool := m.acc.bad.contains (t, l)

/-- Number of the first unit of a line. -/
def Mach.lineUnit (m : Mach) (t l : Nat) : Nat :=
  if m.akind t = 2 then 16 * l
  else (l / m.memberLines t) * m.recLen t + 8 * (l % m.memberLines t)

/-- Folding into a line stops (R215). -/
def Mach.accPoison (m : Mach) (t l : Nat) : Mach :=
  let m := { m with acc := { m.acc with bad := m.acc.bad ++ [(t, l)] } }
  let m := m.wr ACC_SET_FLAGS_FLAGS [t] (m.rd ACC_SET_FLAGS_FLAGS [t] ||| fPoison)
  (m.inc ACC_SET_FLAGS_POISON [t]).raise 4 0x0004 t [m.lineUnit t l] []

/-- The accumulation of a set is complete: DONE after its last fold (R205). -/
def Mach.accFinish (m : Mach) (t : Nat) : Mach :=
  match (m.pset t).finishing with
  | none => m
  | some cause =>
    if (m.cap.closed.any fun c => c.set == t && !c.folded) || !activeSt (m.setState t) then m
    else
      let m := m.leave t siDone
      let m := m.modPset t fun p => { p with finishing := none }
      m.raise 4 0x0001 t [m.rd ACC_SET_COUNT [t]] [cause]

/-- Mark a closed record as folded. -/
def Mach.setFolded (m : Mach) (c : Closed) : Mach := m.foldsOver c.set fun d => d.rec_.id == c.rec_.id

/-- Positions of a closed record that fold: those held, before the stitches of an SPLL loss (R201, R203). -/
def Closed.foldLen (c : Closed) : Nat :=
  min c.rec_.got (c.foldEnd - (c.rec_.trig - c.rec_.pre))

/-- The record folds completely. -/
def Closed.foldsWhole (c : Closed) : Bool := !c.truncated && c.foldLen == c.rec_.pre + c.rec_.post

/-- A run's partial fold: PARTIAL, PARTIAL_POS and its event (R203). -/
def Mach.accPartial (m : Mach) (t n : Nat) : Mach :=
  (m.wrs [(ACC_SET_STAT_PARTIAL, [t], 1), (ACC_SET_PART, [t], n)]).raise 4 0x0002 t [n] []

/-- Count a rejected record (R202). -/
def Mach.accReject (m : Mach) (t : Nat) : Mach :=
  let m := m.inc ACC_SET_REJ_COUNT [t]
  { m with acc := { m.acc with rejected := tput 0 m.acc.rejected t (tget 0 m.acc.rejected t + 1) } }

/-- A record's flags join those of its accumulation (R204). -/
def Mach.accFlags (m : Mach) (c : Closed) : Mach := m.wr ACC_SET_FLAGS_FLAGS [c.set] (m.rd ACC_SET_FLAGS_FLAGS [c.set] ||| c.flags)

/-- What a fold leaves in the registers: the first makes an EMPTY accumulation VALID (R203, R204, R217). -/
def Mach.accFolded (m : Mach) (c : Closed) : Mach :=
  let t := c.set
  let m := m.accFlags c
  let m := if m.rd ACC_SET_STAT_STATE [t] = accEmpty then m.wr ACC_SET_STAT_STATE [t] accValid else m
  if c.foldsWhole then m.wr ACC_SET_COUNT [t] (m.rd ACC_SET_COUNT [t] + 1) else m.accPartial t c.foldLen

/-- A record that waits for its fold into memory at an MPLL loss is rejected, or stops before its first position (R202, R216). -/
def Mach.accStopped (m : Mach) (c : Closed) : Mach :=
  if c.flags &&& fPreShort ≠ 0 then m.accReject c.set
  else if m.on ACC_SET_STAT_PARTIAL [c.set] then m
  else (m.accFlags c).accPartial c.set 0

/-- Folds into memory stop at an MPLL loss; the write-backs of those already made wait for memory (R216, assumption 147). -/
def Mach.accMpllLost (m : Mach) : Mach :=
  each (allSets.filter m.accDram) (fun m t =>
    let m := each (m.cap.closed.filter fun c => c.set == t && !c.folded) Mach.accStopped m
    (m.foldsOver t fun _ => true).accFinish t) m

/-- Write every line of an accumulation with its cleared value. -/
def Mach.accWipe (m : Mach) (t : Nat) : Mach :=
  let ws := List.replicate 8 (m.accZero t)
  each (List.range (m.accLines t)) (fun m l => m.accPut t l ws 3 false) m

/-- MEM_REINIT with the areas invalid: every accumulation in memory is INVALID (R216); one that ACC_CLEAR is clearing is written
again. -/
def Mach.accReinit (m : Mach) (invalid : Bool) : Mach :=
  if !invalid then m
  else each (allSets.filter m.accDram) (fun m t =>
    if !(m.waitsOf 0x63 t).isEmpty then m.accWipe t
    else if m.rd ACC_SET_STAT_STATE [t] != accBroken then (m.accInvalid t).raise 4 0x0005 t [] [0]
    else m) m

/-- Clear an accumulation (R219): its units, its counts and its state. -/
def Mach.accClear (m : Mach) (t : Nat) : Mach :=
  let m := m.accWipe t
  let m := { m with acc := { m.acc with bad := m.acc.bad.filter fun p => p.1 != t,
                                        rejected := tdel m.acc.rejected t } }
  m.wrs [(ACC_SET_COUNT, [t], 0), (ACC_SET_STAT_PARTIAL, [t], 0), (ACC_SET_PART, [t], 0), (ACC_SET_FLAGS_FLAGS, [t], 0),
         (ACC_SET_FLAGS_POISON, [t], 0), (ACC_SET_SAT_COUNT, [t], 0), (ACC_SET_STAT_HIST_SAT, [t], 0),
         (ACC_SET_STAT_STATE, [t], accEmpty)]

/-- An ACC_CLEAR completes when its last write has gone out; the result is the time taken in µs. -/
def Mach.accClearDone (m : Mach) (t : Nat) : Mach :=
  if m.mem.queue.any fun r => r.src == .acc t && r.cls == 3 then m
  else (m.waitsOf 0x63 t).foldl (fun m w => m.complete w.h DONE ((m.dtime - w.at_) / 1024000)) (m.unwait 0x63 t)

/-- An accumulator line is poisoned (R215). -/
def State.accLost (s : State) (t l : Nat) : Bool := s.m.accBad t l || (s.m.accDram t && s.linePoison (s.m.accLine0 t + l))

/-- Bytes of one unit as ACC_READ copies them; units of a poisoned line are 0 (R215, R220). -/
def State.accUnit (s : State) (t u : Nat) : List (BitVec 8) :=
  let m := s.m
  if m.akind t = 2 then
    let l := u / 16
    let w := (s.accLine t l).getD (u % 16 / 2) 0
    if s.accLost t l then toBytes 4 0 else toBytes 4 (bits w (32 * (u % 2)) 32)
  else
    let i := u % m.recLen t
    let l := u / m.recLen t * m.memberLines t + i / 8
    if s.accLost t l then toBytes 8 0 else toBytes 8 ((s.accLine t l).getD (i % 8) 0)

/-- The header of ACC_READ (Table 7.3). -/
def Mach.accHeader (m : Mach) (t units begun : Nat) : List Nat :=
  prkSeal [
    t + m.akind t * 2 ^ 4 + m.rd ACC_SET_CFG_RES [t] * 2 ^ 6 + m.rd ACC_SET_CFG_LOC [t] * 2 ^ 7 +
      m.rd ACC_SET_STAT_PARTIAL [t] * 2 ^ 8 + m.rd ACC_SET_FLAGS_FLAGS [t] * 2 ^ 16 + (m.members t).length * 2 ^ 32,
    begun, m.rd ACC_SET_COUNT [t], m.recLen t, m.rd ACC_SET_PART [t], tget 0 m.acc.rejected t % 2 ^ 48,
    units % 2 ^ 32 + m.rd ACC_SET_FLAGS_POISON [t] * 2 ^ 32, 0]

end Sys2Proof.Machine
end

