-- ==== Sys2Proof/Machine/Meas.lean ====
section
/-! DEFINITION. The measurement unit (R222–R232): windows, levels, crossings, results, entries and statistics. -/
namespace Sys2Proof.Machine
open Sys2Proof

/-! ### Binary64 -/

/-- Floor of log2 of a positive fraction. -/
def ratLog2 (a b : Nat) : Int :=
  let e : Int := (a.log2 : Int) - (b.log2 : Int)
  let ok := if 0 ≤ e then decide (b * 2 ^ e.toNat ≤ a) else decide (b ≤ a * 2 ^ (-e).toNat)
  if ok then e else e - 1

/-- `x · 2^k` as numerator and denominator. -/
def scale2 (a b : Nat) (k : Int) : Nat × Nat := if 0 ≤ k then (a * 2 ^ k.toNat, b) else (a, b * 2 ^ (-k).toNat)

/-- The binary64 code of sign, exponent of the leading bit and 53-bit significand. -/
def f64Pack (neg : Bool) (e : Int) (sig : Nat) : Nat :=
  let (e, sig) := if sig = 2 ^ 53 then (e + 1, 2 ^ 52) else (e, sig)
  neg.toNat * 2 ^ 63 + (if sig < 2 ^ 52 then sig else (e + 1023).toNat * 2 ^ 52 + (sig - 2 ^ 52))

/-- Round a number to binary64, ties to even. -/
def f64Of (q : Rat) : Nat :=
  let a := q.num.natAbs
  let b := q.den
  if a = 0 then 0
  else
    let e := max (ratLog2 a b) (-1022)
    let (n, d) := scale2 a b (52 - e)
    f64Pack (decide (q.num < 0)) e (roundHalfEven n d).toNat

/-- The number a finite binary64 code stands for. -/
def f64Val (c : Nat) : Rat :=
  let x := bits c 52 11
  let f := bits c 0 52
  let sig := if x = 0 then f else f + 2 ^ 52
  let (n, d) := scale2 sig 1 (max (x : Int) 1 - 1075)
  let v := mkRat n d
  if bit c 63 then -v else v

/-- Square root of a binary64 number that is not negative. -/
def f64Sqrt (q : Rat) : Nat :=
  let a := q.num.natAbs
  let b := q.den
  if a = 0 then 0
  else
    let e := ratLog2 a b / 2
    let (n, d) := scale2 a b (2 * (52 - e))
    f64Pack false e (sqrtHalfEven n d)

/-! ### Windows -/

/-- The window of a slot: its held samples with their record positions, whether it sticks out of the held samples, and
whether it lies outside them (R223). -/
structure MWin where
  smp : List (Nat × Int)
  part : Bool
  out : Bool

def measWin (pre got : Nat) (vals : List Int) (ofs : Int) (len : Nat) : MWin :=
  if len = 0 then ⟨(vals.take got).zipIdx.map fun p => (p.2, p.1), false, decide (got = 0)⟩
  else
    let lo : Int := pre + ofs
    let hi : Int := lo + len
    let a := lo.toNat
    let b := min got hi.toNat
    let sm := ((vals.take b).drop a).zipIdx.map fun p => (a + p.2, p.1)
    ⟨sm, decide (lo < 0) || decide ((got : Int) < hi), sm.isEmpty⟩

def sumI (l : List Int) : Int := l.foldl (· + ·) 0
def minI (l : List Int) : Int := l.foldl min (l.headD 0)
def maxI (l : List Int) : Int := l.foldl max (l.headD 0)

/-- The histogram bin of a value (R224). -/
def bin256 (y : Int) : Nat := (y + 32768).toNat / 256

/-- The most populated bin of a list of bins, ties to the first; `none` where no bin has 1/32 of `n`. -/
def topBin (ys : List Int) (n : Nat) (cand : List Nat) : Option Nat :=
  let best := cand.foldl (fun (st : Nat × Nat) b =>
    let k := (ys.filter fun y => bin256 y == b).length
    if st.2 < k then (b, k) else st) (0, 0)
  if best.2 ≠ 0 ∧ n ≤ 32 * best.2 then some best.1 else none

def binMean (ys : List Int) (b : Nat) : Rat :=
  let x := ys.filter fun y => bin256 y == b
  mkRat (sumI x) x.length

/-- LOW and HIGH of a window (R224). -/
def lowHigh (ys : List Int) : Rat × Rat :=
  let mn := minI ys
  let mx := maxI ys
  let bm := ((mn + mx) / 2 + 32768).toNat / 256
  let hi := match topBin ys ys.length ((List.range (255 - bm)).map (255 - ·)) with
    | some b => binMean ys b
    | none => mx
  let lo := match topBin ys ys.length (List.range bm) with
    | some b => binMean ys b
    | none => mn
  (lo, hi)

/-! ### Crossings -/

/-- A crossing: the position of its sample, whether it rises, and its time in sample periods. -/
structure MCross where
  i : Nat
  rise : Bool
  t : Rat
  deriving Inhabited

/-- Crossings of a level over consecutive samples from position 0 (R102, R226). -/
def crossings (lvl : Rat) (h : Nat) (ys : List Int) : List MCross :=
  let step := fun (st : Bool × Bool × Int × List MCross) (p : Int × Nat) =>
    let (ar, af, y1, acc) := st
    let y : Rat := p.1
    let r := ar && decide (lvl ≤ y)
    let f := af && decide (y ≤ lvl)
    let t : Rat := (p.2 : Rat) - 1 + (lvl - y1) / (y - y1)
    (!r && (ar || decide (y ≤ lvl - h)), !f && (af || decide (lvl + h ≤ y)), p.1,
     if r then acc ++ [⟨p.2, true, t⟩] else if f then acc ++ [⟨p.2, false, t⟩] else acc)
  (ys.zipIdx.foldl step (false, false, 0, [])).2.2.2

/-- Time of the first edge: a crossing of `a` in a direction followed by the next one of `b`, with none of `a` the other
way between (R226).  The answer is its duration. -/
def firstEdge (rise : Bool) (a b : List MCross) : Option Rat :=
  (a.filter fun x => x.rise == rise).findSome? fun x =>
    match b.find? fun y => y.rise == rise && decide (x.t ≤ y.t) with
    | some y => if a.any fun z => z.rise != rise && decide (x.t < z.t) && decide (z.t < y.t) then none else some (y.t - x.t)
    | none => none

/-- Durations of complete pulses, with the time at which each begins: positive from a rising crossing to the next falling
one. -/
def pulses (pos : Bool) (mid : List MCross) : List (Rat × Rat) :=
  (mid.filter fun x => x.rise == pos).filterMap fun x =>
    (mid.find? fun y => y.rise != pos && decide (x.t < y.t)).map fun y => (x.t, y.t - x.t)

/-! ### Results -/

/-- What the result of a measurement is before its unit: a value to round, a value already rounded, a lack, or a value the
spec does not state. -/
inductive MRes where
  | val (q : Rat)
  | int (v : Int)
  | lack (status : Nat)
  | open_

/-- What a measurement reads. -/
structure MIn where
  type : Nat
  pol : Nat
  win : MWin
  lo : Rat
  hi : Rat
  /-- sample period in units of 2^-18 ns -/
  ts : Rat
  /-- low, mid and high levels, where there are any -/
  lv : Option (Rat × Rat × Rat)
  /-- crossings of the levels in the window from the start point on -/
  cl : List MCross
  cm : List MCross
  ch : List MCross
  /-- the peer's mid crossings; none without its levels -/
  peer : Option (List MCross)

/-- PERIOD in sample periods over the mid crossings in a direction. -/
def period (rise : Bool) (cm : List MCross) : Option Rat :=
  let x := (cm.filter fun c => c.rise == rise).map MCross.t
  if x.length < 2 then none else some ((x.getLastD 0 - x.headD 0) / ((x.length - 1 : Nat) : Rat))

/-- Wrap a number of turns into [−0.5, 0.5). -/
def wrapTurn (q : Rat) : Rat := q - ((q + 1 / 2).floor : Rat)

/-- The result of a measurement type (Table 7.4). -/
def measRaw (x : MIn) : MRes :=
  let ys := x.win.smp.map Prod.snd
  let n := ys.length
  let rise := x.pol == 0
  let one : Option Rat → (Rat → MRes) → MRes := fun o f => match o with | some q => f q | none => .lack 1
  let span := x.hi - x.lo
  let timed := match x.type with
    | 0 | 1 | 11 | 12 | 15 | 16 | 17 | 18 | 19 | 21 | 22 | 23 => true
    | _ => false
  if timed && x.lv.isNone then .lack 2
  else match x.type with
  | 0 => one (period rise x.cm) fun p => .val (p * x.ts)
  | 1 => one (period rise x.cm) fun p => .val ((2 ^ 34 * 1000000000 : Nat) / (p * x.ts))
  | 2 => .val (span * 65536)
  | 3 => .int ((maxI ys - minI ys) * 65536)
  | 4 => .val (x.hi * 65536)
  | 5 => .val (x.lo * 65536)
  | 6 => .int (minI ys * 65536)
  | 7 => .int (maxI ys * 65536)
  | 8 => .val (mkRat (sumI ys * 65536) n)
  | 9 => .int (sqrtHalfEven ((sumI (ys.map fun y => y * y)).toNat * 2 ^ 32) (max 1 n))
  | 10 =>
    let s := sumI ys
    .int (sqrtHalfEven ((n * sumI (ys.map fun y => y * y) - s * s).toNat * 2 ^ 32) (max 1 (n * n)))
  | 11 => one (firstEdge true x.cl x.ch) fun d => .val (d * x.ts)
  | 12 => one (firstEdge false x.ch x.cl) fun d => .val (d * x.ts)
  | 13 => if span = 0 then .lack 2 else .val (((maxI ys : Rat) - x.hi) / span * (2 ^ 32 : Nat))
  | 14 => if span = 0 then .lack 2 else .val ((x.lo - (minI ys : Rat)) / span * (2 ^ 32 : Nat))
  | 15 => one ((pulses true x.cm).head?.map Prod.snd) fun d => .val (d * x.ts)
  | 16 => one ((pulses false x.cm).head?.map Prod.snd) fun d => .val (d * x.ts)
  | 17 =>
    let r := (x.cm.filter fun c => c.rise).map MCross.t
    if r.length < 2 then .lack 1
    else
      let total := r.getLastD 0 - r.headD 0
      let hiT := (r.zip (r.drop 1)).foldl (fun (a : Rat) p =>
        match (pulses true x.cm).find? fun q => q.1 == p.1 with
        | some q => a + min q.2 (p.2 - p.1)
        | none => a + (p.2 - p.1)) 0
      .val (hiT / total * (2 ^ 32 : Nat))
  | 18 => .int ((x.cm.filter fun c => x.pol == 2 || c.rise == rise).length : Nat)
  | 19 => .int ((pulses rise x.cm).length : Nat)
  | 20 => .val (x.ts * (sumI ys : Rat) / 1024)
  | 21 | 22 =>
    match x.peer with
    | none => .lack 2
    | some pc =>
      let own := (x.cm.find? fun c => c.rise == rise).map MCross.t
      let oth := (pc.find? fun c => c.rise == rise).map MCross.t
      match own, oth with
      | some a, some b =>
        if x.type = 21 then .val ((b - a) * x.ts)
        else one (period rise x.cm) fun p => .val (wrapTurn ((b - a) / p) * (2 ^ 32 : Nat))
      | _, _ => .lack 1
  | _ =>
    match x.lv with
    | none => .lack 2
    | some (l, _, h) =>
      one (if rise then firstEdge true x.cl x.ch else firstEdge false x.ch x.cl) fun d =>
        if d = 0 then .open_ else .val ((h - l) * (2 ^ 34 : Nat) / (d * x.ts))

/-- VALUE and STATUS of a result (R228): the lowest code that applies. -/
def measCode (x : MIn) (free : Int) : Int × Nat :=
  let clip := x.win.smp.any fun p => p.2 == 32767 || p.2 == -32768
  let gate := if x.win.out then 6 else if x.win.part then 4 else 0
  let fit := fun (v : Int) =>
    let w := clampI (-(2 ^ 63 : Nat)) (2 ^ 63 - 1 : Nat) v
    let outside := w != v
    if clip then (w, 3) else if gate = 4 then (0, 4) else if outside then (w, 5) else if gate = 6 then ((0 : Int), 6)
    else (w, 0)
  match measRaw x with
  | .lack st => (0, st)
  | .val q => fit (roundHalfEven q.num q.den)
  | .int v => fit v
  | .open_ => fit free

/-! ### Records -/

/-- Levels of a slot for given LOW′ and HIGH′ (R225). -/
def Mach.mlevels (m : Mach) (n k : Nat) (ref : Option (Rat × Rat)) : Option (Rat × Rat × Rat) :=
  if m.on ACC_MSLOT_CFG_REF_SRC [n, k] then
    ref.map fun r =>
      let at_ := fun (p : Nat) =>
        let q := (p : Rat) * (r.2 - r.1) / 1000
        r.1 + ((roundHalfEven q.num q.den : Int) : Rat)
      (at_ (m.rd ACC_MSLOT_PCT_PCT_LO [n, k]), at_ (m.rd ACC_MSLOT_PCT_PCT_MID [n, k]), at_ (m.rd ACC_MSLOT_PCT_PCT_HI [n, k]))
  else some (m.rdI ACC_MSLOT_ABS_ABS_LO [n, k], m.rdI ACC_MSLOT_MID_ABS_MID [n, k], m.rdI ACC_MSLOT_ABS_ABS_HI [n, k])

/-- Sample period of a channel in a stitch, in units of 2^-18 ns (R78, R109). -/
def Mach.tsRat (m : Mach) (n k : Nat) : Rat := mkRat (m.decim n * tbOf (m.latch k).inc) (m.comb n * 2 ^ 32)

/-- Measure one slot of a closed record: its result, and the reference it leaves. -/
def Mach.measOne (m : Mach) (c : Closed) (n k : Nat) : (Int × Nat) × MRef × Mach :=
  let r := c.rec_
  let ms := m.members c.set
  let valsOf := fun (ch : Nat) => (r.smp.getD (ms.idxOf ch) []).take r.got
  let ys := valsOf n
  let ofs := m.rdI ACC_MSLOT_GOFS_GATE_OFS [n, k]
  let len := m.rd ACC_MSLOT_GLEN_GATE_LEN [n, k]
  let win := measWin r.pre r.got ys ofs len
  let peer := m.rd ACC_MSLOT_CFG_PEER [n, k]
  let pys := valsOf peer
  let pwin := measWin r.pre r.got pys ofs len
  let ref := tfind m.acc.refs (8 * n + k)
  let lv := m.mlevels n k (ref.map fun f => (f.lo, f.hi))
  let plv := m.mlevels n k (ref.map fun f => (f.plo, f.phi))
  let h := max 1 (m.rd ACC_MSLOT_CFG_HYST [n, k])
  let from_ := if m.on ACC_MSLOT_CFG_EDGE_FROM [n, k] then 0 else r.pre
  let inWin := fun (w : MWin) (x : MCross) =>
    decide (from_ ≤ x.i) && (w.smp.head?.any fun p => decide (p.1 ≤ x.i)) && (w.smp.getLast?.any fun p => decide (x.i ≤ p.1))
  let cr := fun (l : Option Rat) => match l with | some q => (crossings q h ys).filter (inWin win) | none => []
  let (lo, hi) := lowHigh (win.smp.map Prod.snd)
  let (plo, phi) := lowHigh (pwin.smp.map Prod.snd)
  let x : MIn := { type := m.rd ACC_MSLOT_CFG_TYPE [n, k], pol := m.rd ACC_MSLOT_CFG_POL [n, k], win := win, lo := lo, hi := hi,
                   ts := m.tsRat n (m.outStitch n (r.trig - r.pre)), lv := lv, cl := cr (lv.map fun l => l.1), cm := cr (lv.map fun l => l.2.1),
                   ch := cr (lv.map fun l => l.2.2),
                   peer := plv.map fun l => (crossings l.2.1 h pys).filter (inWin pwin) }
  let (f, m) := m.free 64
  (measCode x (sext 64 f), ⟨lo, hi, plo, phi⟩, m)

/-- Integer part. -/
def intPart (q : Rat) : Int := Int.tdiv q.num q.den

/-- A result enters its slot's statistics, or is excluded (R231). -/
def statAdd (st : Stat) (v : Int) (ok : Bool) : Stat :=
  if !ok then { st with excluded := st.excluded + 1, last := v }
  else
    let n := st.count + 1
    let x := f64Val (f64Of v)
    let mean := f64Val st.mean
    let d := f64Val (f64Of (x - mean))
    let mean' := f64Val (f64Of (mean + f64Val (f64Of (d / n))))
    let d2 := f64Val (f64Of (x - mean'))
    let m2 := f64Of (f64Val st.m2 + f64Val (f64Of (d * d2)))
    { st with count := n, min := if st.count = 0 then v else min st.min v, max := if st.count = 0 then v else max st.max v,
              mean := f64Of mean', m2 := m2, last := v }

/-- The entry of R229 as words over its E lines. -/
def measWords (m : Mach) (c : Closed) (res : List ((Nat × Nat) × Int × Nat)) : List Nat :=
  let r := c.rec_
  let head := [r.seg % 2 ^ 48 + c.set * 2 ^ 48 + res.length * 2 ^ 52, (r.t / 256) % 2 ^ 64,
    r.t % 256 + r.epoch * 2 ^ 8 + c.flags * 2 ^ 24, c.prk, 0, 0, 0]
  let body := res.flatMap fun p =>
    let ((n, k), v, st) := p
    [enc 64 v, n + k * 2 ^ 6 + m.rd ACC_MSLOT_CFG_TYPE [n, k] * 2 ^ 9 + st * 2 ^ 14]
  let pad := List.replicate (8 * measLines res.length - 8 - body.length) 0
  let chk := crc32c (wordsBytes head ++ toBytes 4 0 ++ wordsBytes (body ++ pad))
  head ++ [chk * 2 ^ 32] ++ body ++ pad

/-- Finish the measurement of one closed record (R230). -/
def Mach.measRec (m : Mach) (c : Closed) : Mach :=
  let slots := m.measSlots c.set
  let (res, m) := slots.foldl (fun (st : List ((Nat × Nat) × Int × Nat) × Mach) p =>
    let (res, m) := st
    let ((v, code), ref, m) := m.measOne c p.1 p.2
    let key := 8 * p.1 + p.2
    let stat := statAdd (tget {} m.acc.stats key) v (code == 0 && c.flags &&& fClkLost == 0)
    let m := { m with acc := { m.acc with stats := tins m.acc.stats key stat, refs := tins m.acc.refs key ref } }
    let m := m.wrs [(ACC_MSLOT_REF_LOW, [p.1, p.2], enc 16 (intPart ref.lo)), (ACC_MSLOT_REF_HIGH, [p.1, p.2], enc 16 (intPart ref.hi))]
    (res ++ [(p, v, code)], m)) ([], m)
  let ws := measWords m c res
  let mir := m.rd ACC_MEAS_MIR [c.set]
  let base := m.rd ACC_MEAS_BASE_MEAS_BASE [c.set]
  let m := { m with acc := { m.acc with
    lines := (List.range (ws.length / 8)).foldl (fun t i => tins t (c.meas + i) ((ws.drop (8 * i)).take 8)) m.acc.lines } }
  let m := if mir = 0 then m else m.hostWords (mir + (c.meas - base) * 64) ws 1
  ({ m with cap := { m.cap with closed := m.cap.closed.map fun (d : Closed) =>
      if d.rec_.id == c.rec_.id then { d with measured := true } else d } }).dropClosed

/-- MEASUREMENT_CLOSING_SLOT: cycles 128–159. -/
def Mach.measSlot (m : Mach) : Mach := each (m.cap.closed.filter fun c => !c.measured) (fun m c => m.measRec c) m
def doMeasurementClosingSlot (s : State) : State := s.upd fun m => m.inSlot 2 Mach.measSlot
def execMeasurementClosingSlot (s : State) : Host.Outcome State Fault Refusal := .next (doMeasurementClosingSlot s)

/-- The statistics record of a slot (Table 7.6). -/
def Mach.statWords (m : Mach) (n k : Nat) : List Nat :=
  let st := tget {} m.acc.stats (8 * n + k)
  let dev := if st.count < 2 then 0
    else f64Sqrt (f64Val (f64Of (f64Val st.m2 / ((st.count - 1 : Nat) : Rat))))
  prkSeal [st.count % 2 ^ 48 + m.rd ACC_MSLOT_CFG_TYPE [n, k] * 2 ^ 48 + k * 2 ^ 53 + n * 2 ^ 56, enc 64 st.min, enc 64 st.max,
    st.mean, dev, st.excluded % 2 ^ 48, enc 64 st.last, 0]

end Sys2Proof.Machine
end

