-- ==== Sys2Proof/Machine/AccCmds.lean ====
section
/-! DEFINITION. The commands 0x60–0x67 of accumulation and measurement (R233), the capture commands 0x40–0x41 (R167, R168),
and record-ring delivery. -/
namespace Sys2Proof.Machine
open Sys2Proof

def ownSetBusy (h : HostCmd) (s : State) : Bool × Nat := (s.m.active h.tgt, BUSY)

/-- The accumulation lies in memory, which is not available (R92). -/
def Mach.accAway (m : Mach) (t : Nat) : Bool := m.accDram t && !m.memOk

/-- A host address of 64-byte alignment (Table 7.8). -/
def aligned64 (a : Nat) : Bool := a % 64 == 0

/-! ### ACC_CONFIG -/
def ciAccConfig : CmdInfo where
  op := 0x60
  masks := [mask 17, mask 52]
  tgt := below 16

def ownAccConfig (h : HostCmd) (s : State) : Option Nat :=
  let hit := h.f 1 6 2
  let tb := h.f 1 8 5
  let ab := h.f 1 13 4
  firstOf [(h.f 1 0 2 == 3 || hit == 3 || (hit == 2 && tb == 0) || decide (24 < tb) || ab == 0 || decide (12 < ab), BAD_FIELD),
    ownSetBusy h s]


def doAccConfig (h : HostCmd) (s : State) : State := runCmd ciAccConfig ownAccConfig (lift (later 0x60)) h s
def execAccConfig (h : HostCmd) (s : State) : Host.Outcome State Fault Refusal := .next (doAccConfig h s)

/-! ### ACC_BIND -/
def ciAccBind : CmdInfo where
  op := 0x61
  masks := [mask 15]
  tgt := below 16

def ownAccBind (h : HostCmd) (s : State) : Option Nat := firstOf [(decide (8 < h.f 1 11 4), BAD_FIELD), ownSetBusy h s]

def doAccBind (h : HostCmd) (s : State) : State := runCmd ciAccBind ownAccBind (lift (later 0x61)) h s
def execAccBind (h : HostCmd) (s : State) : Host.Outcome State Fault Refusal := .next (doAccBind h s)

/-! ### ACC_READ -/
def ciAccRead : CmdInfo where
  op := 0x62
  masks := [mask 64, mask 64, mask 32]
  tgt := below 16

def ownAccRead (h : HostCmd) (s : State) : Option Nat :=
  let n := h.f 3 0 32
  firstOf [(!aligned64 (h.f 1 0 64) || n == 0 || decide (s.m.accUnits h.tgt < h.f 2 0 64 + n), BAD_FIELD),
    (s.m.accAway h.tgt, CLOCK_INVALID)]

/-- How many of the units that a copy has left go at once (assumption 40). -/
def Mach.pieceOf (m : Mach) (left : Nat) : Nat × Mach :=
  if left ≤ 1 then (left, m) else let (f, m) := m.free 32; (left - f % left, m)

/-- A copy goes on; with its last unit the header follows and the command completes (R220). -/
def State.copyPiece (s : State) (c : AccCopy) : State :=
  let t := c.h.tgt
  let n := c.h.f 3 0 32
  if s.m.accAway t then s
  else
    let (k, m) := s.m.pieceOf (n - c.done)
    let size := if m.akind t = 2 then 4 else 8
    let m := m.emit (.host (c.h.f 1 0 64 + 64 + size * c.done)
      ((List.range k).flatMap fun i => s.accUnit t (c.h.f 2 0 64 + c.done + i)) 3 false c.h.owner)
    let rest := m.acc.copies.erase c
    if c.done + k < n then
      { s with m := { m with acc := { m.acc with copies := rest ++ [{ c with done := c.done + k }] } } }
    else
      let m := { m with acc := { m.acc with copies := rest } }.hostWords (c.h.f 1 0 64) (m.accHeader t n c.begun) 3 c.h.owner
      { s with m := (m.unwait 0x62 t).doneFlags c.h (m.rd ACC_SET_FLAGS_FLAGS [t]) n }

/-- The copy begins at acceptance; folding continues while it runs. -/
def effAccRead (h : HostCmd) (due : Nat) (s : State) : State :=
  let c : AccCopy := ⟨h, 0, s.m.rd ACC_SET_COUNT [h.tgt]⟩
  let m := s.m.wait 0x62 h due
  { s with m := { m with acc := { m.acc with copies := m.acc.copies ++ [c] } } }.copyPiece c

/-- Copies in progress go on with the stitch that opens. -/
def State.copyAll (s : State) : State := each s.m.acc.copies (fun s c => s.copyPiece c) s

def doAccRead (h : HostCmd) (s : State) : State := runCmd ciAccRead ownAccRead effAccRead h s
def execAccRead (h : HostCmd) (s : State) : Host.Outcome State Fault Refusal := .next (doAccRead h s)

/-! ### ACC_CLEAR -/
def ciAccClear : CmdInfo where
  op := 0x63
  masks := []
  tgt := below 16

def ownAccClear (h : HostCmd) (s : State) : Option Nat :=
  firstOf [ownSetBusy h s, (s.m.accAway h.tgt, CLOCK_INVALID)]
/-- The command waits; its number is the moment of acceptance. -/
def effAccClear (h : HostCmd) (due : Nat) (s : State) : Mach := (s.m.at_ due (.cmd 0x63 h)).wait 0x63 h s.m.dtime
def applyAccClear (h : HostCmd) (m : Mach) : Mach := (m.accClear h.tgt).accClearDone h.tgt

def doAccClear (h : HostCmd) (s : State) : State := runCmd ciAccClear ownAccClear (lift effAccClear) h s
def execAccClear (h : HostCmd) (s : State) : Host.Outcome State Fault Refusal := .next (doAccClear h s)

/-! ### MEAS_SLOT -/
def ciMeasSlot : CmdInfo where
  op := 0x64
  masks := [mask 3, mask 32 + mask 30 * 2 ^ 32, mask 48, mask 64]
  tgt := below 64
  r15 m h := m.unused h.tgt
  again := true

/-- Limits of R225 and R227. -/
def measValid (h : HostCmd) : Bool :=
  let type := h.f 2 1 5
  let pol := h.f 2 6 2
  let lo := sext 16 (h.f 3 0 16)
  let hi := sext 16 (h.f 3 16 16)
  let mid := sext 16 (h.f 3 32 16)
  let pl := h.f 2 32 10
  let pm := h.f 2 42 10
  let ph := h.f 2 52 10
  decide (type < 24) && pol != 3 && (pol != 2 || type == 18) &&
  (if h.b 2 8 then decide (pl < pm) && decide (pm < ph) && decide (ph ≤ 1000) else decide (lo < mid) && decide (mid < hi))

def ownMeasSlot (h : HostCmd) (s : State) : Option Nat :=
  firstOf [(!measValid h, BAD_FIELD), ((s.m.setOf h.tgt).any s.m.active, BUSY)]


def doMeasSlot (h : HostCmd) (s : State) : State := runCmd ciMeasSlot ownMeasSlot (lift (later 0x64)) h s
def execMeasSlot (h : HostCmd) (s : State) : Host.Outcome State Fault Refusal := .next (doMeasSlot h s)

/-! ### MEAS_BIND -/
def ciMeasBind : CmdInfo where
  op := 0x65
  masks := [mask 16 + mask 17 * 2 ^ 32, mask 64]
  tgt := below 16

def ownMeasBind (h : HostCmd) (s : State) : Option Nat :=
  firstOf [(decide (65536 < h.f 1 32 17) || !aligned64 (h.f 2 0 64), BAD_FIELD), ownSetBusy h s]

def doMeasBind (h : HostCmd) (s : State) : State := runCmd ciMeasBind ownMeasBind (lift (later 0x65)) h s
def execMeasBind (h : HostCmd) (s : State) : Host.Outcome State Fault Refusal := .next (doMeasBind h s)

/-! ### MEAS_EXPORT -/
def ciMeasExport : CmdInfo where
  op := 0x66
  masks := [mask 16 + mask 17 * 2 ^ 32, mask 64]
  tgt := below 16

def ownMeasExport (h : HostCmd) (s : State) : Option Nat :=
  firstOf [(decide (s.m.rd ACC_MEAS_LINES_MEAS_LINES [h.tgt] < h.f 1 0 16 + h.f 1 32 17) || !aligned64 (h.f 2 0 64), BAD_FIELD)]

def Mach.measLine (m : Mach) (l : Nat) : List Nat := tget (List.replicate 8 0) m.acc.lines l

/-- Flags of the entries whose first line is among some lines. -/
def Mach.measFlags (m : Mach) (t first n : Nat) : Nat :=
  let base := m.rd ACC_MEAS_BASE_MEAS_BASE [t]
  let e := max 1 (m.rd ACC_MEAS_BASE_ELINES [t])
  orAll ((List.range n).map fun i =>
    if (first + i) % e = 0 then bits ((m.measLine (base + first + i)).getD 2 0) 24 16 else 0)

def effMeasExport (h : HostCmd) (_ : Nat) (s : State) : Mach :=
  let m := s.m
  let n := h.f 1 32 17
  let base := m.rd ACC_MEAS_BASE_MEAS_BASE [h.tgt] + h.f 1 0 16
  let m := m.hostWords (h.f 2 0 64) ((List.range n).flatMap fun i => m.measLine (base + i)) 3 h.owner
  m.doneFlags h (s.m.measFlags h.tgt (h.f 1 0 16) n) n

def doMeasExport (h : HostCmd) (s : State) : State := runCmd ciMeasExport ownMeasExport (lift effMeasExport) h s
def execMeasExport (h : HostCmd) (s : State) : Host.Outcome State Fault Refusal := .next (doMeasExport h s)

/-! ### MEAS_STATS -/
def ciMeasStats : CmdInfo where
  op := 0x67
  masks := [mask 1, mask 64]
  tgt := below 16

def ownMeasStats (h : HostCmd) (_ : State) : Option Nat := firstOf [(!aligned64 (h.f 2 0 64), BAD_FIELD)]
def effMeasStats (h : HostCmd) (due : Nat) (s : State) : Mach := (s.m.at_ due (.cmd 0x67 h)).wait 0x67 h due

/-- Copy and clear together at the stitch of application (R232).  A statistics record carries no record flags. -/
def applyMeasStats (h : HostCmd) (m : Mach) : Mach :=
  let slots := m.measSlots h.tgt
  let m := m.hostWords (h.f 2 0 64) (slots.flatMap fun p => m.statWords p.1 p.2) 3 h.owner
  let keys := slots.map fun p => 8 * p.1 + p.2
  let m := if h.b 1 0 then
      { m with acc := { m.acc with stats := m.acc.stats.filter fun p => !keys.contains p.1 } } else m
  m.finish 0x67 h.tgt DONE slots.length

def doMeasStats (h : HostCmd) (s : State) : State := runCmd ciMeasStats ownMeasStats (lift effMeasStats) h s
def execMeasStats (h : HostCmd) (s : State) : Host.Outcome State Fault Refusal := .next (doMeasStats h s)

/-! ### PRK_EXPORT -/
def ciPrkExport : CmdInfo where
  op := 0x40
  masks := [mask 17 + mask 18 * 2 ^ 32, mask 64]
  tgt := below 16
  svc := setSvc

def ownPrkExport (h : HostCmd) (s : State) : Option Nat :=
  firstOf [(decide (s.m.prkCnt h.tgt < h.f 1 0 17 + h.f 1 32 18) || !aligned64 (h.f 2 0 64), BAD_FIELD)]

def Mach.prkWords (m : Mach) (i : Nat) : List Nat := tget (List.replicate 8 0) m.cap.prk i

def effPrkExport (h : HostCmd) (_ : Nat) (s : State) : Mach :=
  let m := s.m
  let n := h.f 1 32 18
  let base := m.rd CAP_SET_PRK_BASE_VALUE [h.tgt] + h.f 1 0 17
  let es := (List.range n).map fun i => m.prkWords (base + i)
  (m.hostWords (h.f 2 0 64) es.flatten 3 h.owner).doneFlags h (orAll (es.map fun w => bits (w.getD 2 0) 32 16)) n

def doPrkExport (h : HostCmd) (s : State) : State := runCmd ciPrkExport ownPrkExport (lift effPrkExport) h s
def execPrkExport (h : HostCmd) (s : State) : Host.Outcome State Fault Refusal := .next (doPrkExport h s)

/-! ### BASTE_READ -/
def ciBasteRead : CmdInfo where
  op := 0x41
  masks := [mask 64, mask 21]
  tgt := below 16
  svc _ _ := .any
  r15 m h := m.unused h.tgt

def ownBasteRead (h : HostCmd) (s : State) : Option Nat :=
  let len := h.f 2 0 21
  firstOf [(s.m.dev != .basting || (tfind s.m.cap.basteFlags h.tgt).isNone, WRONG_STATE),
           (len == 0 || decide (1048576 < len) || !aligned64 (h.f 1 0 64), BAD_FIELD)]

/-- Bytes of the store that the record does not fill are free values. -/
def effBasteRead (h : HostCmd) (_ : Nat) (s : State) : Mach :=
  let len := h.f 2 0 21
  let got := (tget [] s.m.cap.baste h.tgt).take len
  let (f, m) := s.m.free (8 * (len - got.length))
  (m.emit (.host (h.f 1 0 64) (got ++ toBytes (len - got.length) f) 3 false h.owner)).doneFlags h (tget 0 m.cap.basteFlags h.tgt) len

def doBasteRead (h : HostCmd) (s : State) : State := runCmd ciBasteRead ownBasteRead (lift effBasteRead) h s
def execBasteRead (h : HostCmd) (s : State) : Host.Outcome State Fault Refusal := .next (doBasteRead h s)

/-! ### RECORD_RING_DELIVERY -/

/-- The oldest closed record of a set goes to its ring, PHASE in word 2 bit 63 (R158). -/
def Mach.recDeliver (m : Mach) (t : Nat) : Mach :=
  match m.cap.outq.find? fun o => o.set == t with
  | none => m
  | some o =>
    if !m.recReady o then m
    else
      let m := m.produce (m.rring t) fun ph => o.words.set 2 (o.words.getD 2 0 + ph * 2 ^ 63)
      { m with cap := { m.cap with outq := m.cap.outq.eraseP fun x => x.set == t } }
def doRecordRingDelivery (t : Nat) (s : State) : State := s.upd fun m => m.recDeliver t
def execRecordRingDelivery (t : Fin 16) (s : State) : Host.Outcome State Fault Refusal := .next (doRecordRingDelivery t.val s)

end Sys2Proof.Machine
end

