-- ==== Sys2Proof/Machine/Gen.lean ====
section
/-! DEFINITION. The stimulus generators (R235–R265): segments, the sequencer, streaming, the abort guard. -/
namespace Sys2Proof.Machine
open Sys2Proof

def Mach.gst (m : Mach) (g : Nat) : GenSt := tget {} m.gen.g g
def Mach.setGst (m : Mach) (g : Nat) (v : GenSt) : Mach := { m with gen := { m.gen with g := tput {} m.gen.g g v } }
def Mach.modGst (m : Mach) (g : Nat) (f : GenSt → GenSt) : Mach := m.setGst g (f (m.gst g))

/-! States (Table 8.4). -/
def gIdle : Nat := 0
def gArmed : Nat := 1
def gRunning : Nat := 2
def gHold : Nat := 3
def gTripped : Nat := 4
def gDone : Nat := 5
def gStopped : Nat := 6
def Mach.gstate (m : Mach) (g : Nat) : Nat := m.rd GEN_STAT_STATE [g]
def Mach.gruns (m : Mach) (g : Nat) : Bool := m.gstate g == gRunning || m.gstate g == gHold
def allGen : List Nat := List.range 8

def Mach.segWords (m : Mach) (g i : Nat) : List Nat := tget [0, 0, 0, 0] m.gen.segs (1024 * g + i)
def Mach.seqWord (m : Mach) (g i : Nat) : Nat := tget 0 m.gen.seqs (4096 * g + i)

/-! Fields of Tables 8.1 and 8.2. -/
def segType (w : List Nat) : Nat := bits (w.getD 0 0) 0 2
def segArea (w : List Nat) : Nat := bits (w.getD 0 0) 8 8
/-- LENGTH; a segment never written counts as the shortest one. -/
def segLen (w : List Nat) : Nat := max 64 (bits (w.getD 1 0) 0 40)
def segOfs (w : List Nat) : Nat := bits (w.getD 2 0) 0 40
def segFtw (w : List Nat) : Nat := bits (w.getD 2 0) 0 48
def segPhase (w : List Nat) : Nat := bits (w.getD 3 0) 0 16
def segAmpl (w : List Nat) : Nat := bits (w.getD 3 0) 16 16
def segDc (w : List Nat) : Int := sext 16 (bits (w.getD 3 0) 32 16)
def seqSeg (e : Nat) : Nat := bits e 0 10
def seqTrig (e : Nat) : Nat := bits e 10 2
def seqJump (e : Nat) : Bool := bit e 12
def seqLast (e : Nat) : Bool := bit e 13
def seqMk (e : Nat) : Nat := bits e 14 2
def seqEvt (e : Nat) : Nat := bits e 16 2
def seqTarget (e : Nat) : Nat := bits e 18 12
def seqLoops (e : Nat) : Nat := bits e 32 32

/-! ### Generator time (R237) -/

/-- Slice-clock position of sample `n`, counted from stitch 0. -/
def Mach.gpos (m : Mach) (g n : Nat) : Nat := ((m.gst g).startAt.getD 0) * 512 + n
/-- Sequencer time of a sample, DTIME with 40 fractional bits: T_start + n · Tg. -/
def Mach.gtime (m : Mach) (g n : Nat) : Nat := ((m.gst g).t0 + n * m.baseInc / 2) % 2 ^ 104
/-- EPOCH of the core cycle in which a sample goes out. -/
def Mach.gepoch (m : Mach) (g n : Nat) : Nat := m.epochAt (((m.gst g).startAt.getD 0) * 256 + n / 2)
/-- Sample index of the first sample at or after a core cycle. -/
def Mach.gsampleAt (m : Mach) (g cyc : Nat) : Nat := 2 * cyc - ((m.gst g).startAt.getD 0) * 512
/-- DLY_OUT in whole samples, rounded up. -/
def Mach.gdelay (m : Mach) (g : Nat) : Nat := 128 + m.rd GEN_SKEW_INT [g] + (if m.rd GEN_SKEW_FRAC [g] = 0 then 0 else 1)
/-- Pin time of a sample, in units of 2^-18 ns. -/
def Mach.gpin (m : Mach) (g n : Nat) : Nat :=
  toT (m.gtime g n + ((128 + m.rd GEN_SKEW_INT [g]) * 65536 + m.rd GEN_SKEW_FRAC [g]) * m.cycInc / 131072)

/-- The pins of a generator hold the park value: a muted loopback (R65), or a secondary with SEC_MUTE until the stitch in
which it becomes primary (R422). -/
def Mach.gmute (m : Mach) (g : Nat) : Bool :=
  m.smp.muted.contains g || (m.role == roleSecondary && m.on TWL_CFG_SEC_MUTE &&
    match m.pair.takeover with | some d => decide (m.stitch ≤ d) | none => true)

/-! ### Charge and state -/

/-- Charge of a running generator in MB/s (R161). -/
def Mach.gcharge (m : Mach) : Nat := ceilDiv (2 * m.rd TBS_SLICE_FREQ_SLICE_KHZ) 1000

/-- How long a marker level lasts whose end is not known. -/
def openLevel : Nat := 2 ^ 64

/-- A marker level of MK_ACT 3 ends with its entry at a sample; pulses of MK_WIDTH run on. -/
def Mach.markEnd (m : Mach) (g n : Nat) : Mach :=
  let c := ceilDiv (m.gpos g n + m.gdelay g) 2
  { m with trg := { m.trg with pulses := m.trg.pulses.map fun (p : Pulse) =>
      if p.set == 32 + g && decide (openLevel ≤ p.to_) then { p with to_ := c } else p } }

def Mach.gparkCode (m : Mach) (g : Nat) : Int := m.rdI GEN_CFG_PARK [g]

/-- The guard ramp over one sample (R262). -/
def rampSample (ramp : Option (Nat × Nat)) (n : Nat) (y : Int) : Int :=
  match ramp with
  | none => y
  | some (m0, len) =>
    if n < m0 then y else if m0 + len ≤ n + 1 then 0 else roundHalfEven (y * (len - (n - m0 + 1) : Int)) len

/-- The frame on its way reaches the pins, ramped from the ramp's first sample on; held pins keep the park value. -/
def Mach.gsend (m : Mach) (g : Nat) : Mach :=
  let v := m.gst g
  match v.held with
  | none => m
  | some (n, ys) =>
    let out := ys.zipIdx.map fun p => if m.gmute g then m.gparkCode g else rampSample v.ramp (n + p.2) p.1
    (m.emit (.dac g out)).setGst g { v with held := none }

/-- Reads of a generator that memory has not served are dropped. -/
def Mach.dropReads (m : Mach) (g : Nat) : Mach :=
  { m with mem := { m.mem with queue := m.mem.queue.filter fun r => !(r.src == .gen g && r.data.isNone) } }

/-- The generator leaves ARMED, RUNNING or HOLD for a state, with its CAUSE; commands that wait for it end. -/
def Mach.gleave (m : Mach) (g st cause n : Nat) : Mach :=
  let m := ((m.gsend g).markEnd g n).dropReads g
  let v := m.gst g
  let m := m.subCommit v.charge
  let m := m.wrs [(GEN_STAT_STATE, [g], st), (GEN_STAT_CAUSE, [g], cause), (GEN_STAT_JUMP_PENDING, [g], 0),
                  (GEN_STAT_WAITING, [g], 0), (GEN_STAT_RAMPING, [g], 0)]
  let m := m.setGst g { rdAt := v.rdAt, wrAt := v.wrAt, low := v.low, primed := v.primed }
  let m := m.finish 0x76 g WRONG_STATE 0
  if cause = 1 ∨ cause = 2 then m.finish 0x75 g DONE n else m.finish 0x75 g WRONG_STATE 0

/-- Cancel the pending GEN_STARTs that name a generator (R258). -/
def Mach.cancelStart (m : Mach) (g : Nat) : Mach :=
  let ws := (m.waitsOf 0x74 0).filter fun w => bit (w.h.f 1 0 8) g
  let m := ws.foldl (fun m w =>
    let m := each (bitList 8 (w.h.f 1 0 8)) (fun m j => m.modGst j fun v => { v with startAt := none, sync := false }) m
    m.complete w.h WRONG_STATE 0) m
  { m with hif := { m.hif with waits := m.hif.waits.filter fun w => !(w.op == 0x74 && bit (w.h.f 1 0 8) g) } }

/-- Every generator that is ARMED or running parks at a clock loss (R260): cause 3 SPLL, 4 MPLL. -/
def Mach.genPark (m : Mach) (cause : Nat) : Mach :=
  each allGen (fun m g =>
    if m.gstate g = gArmed ∨ m.gruns g then
      let m := m.cancelStart g
      (m.gleave g gStopped cause (m.gst g).n).raise 5 0x0009 g [] [cause]
    else m) m

/-! ### Markers and segment events (R249) -/

/-- Start a marker pulse of some cycles, or one without end, at a sample. -/
def Mach.markAt (m : Mach) (g n : Nat) (width : Option Nat) : Mach :=
  let c := ceilDiv (m.gpos g n + m.gdelay g) 2
  { m with trg := { m.trg with pulses := m.trg.pulses ++ [⟨112 + g, c, c + width.getD openLevel, 32 + g, false⟩] } }

/-- What the first sample of a pass announces; `first` for an entry's first pass. -/
def Mach.passStart (m : Mach) (g n e : Nat) (first : Bool) : Mach :=
  let mk := seqMk e
  let w := m.rd GEN_MK_MK_WIDTH [g]
  let m := if mk = 1 && first then m.markAt g n (some w) else if mk = 2 then m.markAt g n (some w)
    else if mk = 3 && first then m.markAt g n none else m
  let ev := seqEvt e
  if ev = 2 || (ev = 1 && first) then
    let c := (m.gpos g n + 128 + m.rd GEN_SKEW_INT [g]) / 2
    m.putEv { sid := 0x210 + g, t := m.gpin g n, arr := c / 256, arrC := c }
  else m

/-! ### Samples -/

/-- The device's sine: within 2^-18 of the true one and otherwise a free value (R242, assumption 1). -/
def sinDev (p : Nat) : Int := sin40 p + (Config.freeFn 4 [(p : Int)]) % (2 ^ 23 + 1) - 2 ^ 22

/-- An NCO sample (R242). -/
def ncoSample (w : List Nat) (acc : Nat) : Int :=
  sat16 (segDc w + roundHalfEven (segAmpl w * sinDev (acc / 2 ^ 24)) (2 ^ 40))

/-- Signed 16-bit codes of a line. -/
def lineCodes (bs : List (BitVec 8)) : List Int :=
  (List.range 32).map fun i => sext 16 (ofBytes ((bs.drop (2 * i)).take 2))

def parkFrame (m : Mach) (g : Nat) : List Int := List.replicate 32 (m.gparkCode g)

/-- A frame goes on its way, the frame before it reaches the pins, and the next one is due. -/
def Mach.gout (m : Mach) (g : Nat) (ys : List Int) : Mach :=
  let m := m.gsend g
  let n := (m.gst g).n
  (m.modGst g fun v => { v with held := some (n, ys), n := n + 32 }).wr GEN_SAMP [g] (n + 32)

/-- What a generator that does not run outputs (Table 8.4); code 0 before the core runs (Table 17.8). -/
def Mach.gidleCode (m : Mach) (g : Nat) : Int :=
  if !m.tb.running || (m.gstate g = gTripped && !m.gmute g) then 0 else m.gparkCode g

/-! ### Staging -/
def stagingBytes : Nat := 4194304
def Mach.gfill (m : Mach) (g : Nat) : Nat := m.rd GEN_STG_FILL_BYTES [g]
/-- Address of a staging offset. -/
def Mach.gstage (m : Mach) (g ofs : Nat) : Nat := m.areaBase (m.rd GEN_STG_AREA_AREA [g]) + ofs % stagingBytes

/-- Set the fill, with REFILL_LOW and PRIMED (R253, R256). -/
def Mach.setFill (m : Mach) (g x : Nat) : Mach :=
  let m := m.wr GEN_STG_FILL_BYTES [g] x
  let v := m.gst g
  let wm := m.rd GEN_STG_WMARK_BYTES [g]
  let m := if x < wm then
      if v.low then m else (m.setGst g { v with low := true }).raise 5 0x0004 g [x] []
    else m.setGst g { v with low := false }
  if m.gstate g = gArmed && !(m.gst g).primed && decide (m.rd GEN_STG_PRIME_BYTES [g] ≤ x) then
    (m.modGst g fun v => { v with primed := true }).raise 5 0x0003 g [x] []
  else m

/-! ### The sequencer -/

/-- The entry and segment that a boundary fixes as next. -/
def Mach.fixEntry (m : Mach) (g i why : Nat) : GNext :=
  let e := m.seqWord g i
  .entry i e (m.segWords g (seqSeg e)) why

/-- What follows an entry that ends, by an advance (`why` 2) or of its own (0) (R245). -/
def Mach.afterEntry (m : Mach) (g : Nat) (p : Play) (why : Nat) : GNext :=
  if seqLast p.e then .done why else m.fixEntry g (if seqJump p.e then seqTarget p.e else (p.idx + 1) % 4096) why

/-- The decision for the boundary `E`, taken 64 samples before it, at sample `E − 64` (R247, R248). -/
def Mach.decide_ (m : Mach) (g : Nat) (p : Play) : GNext :=
  let v := m.gst g
  let loops := seqLoops p.e
  if v.ramp.isSome then .again (m.segWords g p.si)
  else match v.jump.filter (fun j => decide (j.1 ≤ v.n)) with
  | some (_, t) => m.fixEntry g t 1
  | none =>
    if v.adv.any fun r => decide (r ≤ v.n) then m.afterEntry g p 2
    else if loops = 0 ∨ p.pass + 1 < loops then .again (m.segWords g p.si)
    else m.afterEntry g p 0

/-- Count an ignored trigger. -/
def Mach.trigIgn (m : Mach) (g : Nat) : Mach := m.inc GEN_CNT_TRIG_IGN [g]

/-- Queue the C0 read of a line. -/
def Mach.askLine (m : Mach) (g line : Nat) : Mach :=
  m.putReq { cls := 0, src := .gen g, line := line, data := none, since := m.dtime }
/-- The read of a line that a frame takes is done, queued though it may be. -/
def Mach.tookLine (m : Mach) (g line : Nat) : Mach :=
  { m with mem := { m.mem with queue := m.mem.queue.eraseP fun r => r.src == .gen g && r.data.isNone && r.line == line } }

/-- Lines of the prefetch buffer (R241). -/
def prefetchLines : Nat := 1024
/-- Line `k` of a pass of a STORE segment. -/
def Mach.storeLine (m : Mach) (seg : List Nat) (k : Nat) : Nat := (m.areaBase (segArea seg) + segOfs seg) / 64 + k
/-- Ask for lines `a` to `b − 1` of a pass. -/
def Mach.prefetch (m : Mach) (g : Nat) (seg : List Nat) (a b : Nat) : Mach :=
  if segType seg = 0 then
    each ((List.range (min b (segLen seg / 32) - a)).map (a + ·)) (fun m k => m.askLine g (m.storeLine seg k)) m
  else m
/-- Ask for the staging line that the next frame of a STREAM pass takes, when staging holds it (R253). -/
def Mach.askStage (m : Mach) (g : Nat) (seg : List Nat) : Mach :=
  if segType seg = 1 ∧ 64 ≤ m.gfill g then m.askLine g (m.gstage g (m.gst g).rdAt / 64) else m

/-- Begin to play an entry at sample `n`. -/
def Mach.playEntry (m : Mach) (g n i e : Nat) (seg : List Nat) : Mach :=
  let p : Play := { idx := i, e := e, si := seqSeg e, seg := seg, acc := segPhase seg * 2 ^ 32, start := n }
  let m := m.modGst g fun v => { v with
    play := some p, next := none, waitE := none, playAt := none, prevE := if v.waitE.isSome then 0 else v.prevE }
  let m := m.wrs [(GEN_STAT_ENTRY, [g], i), (GEN_STAT_WAITING, [g], 0), (GEN_LOOP_PASS, [g], 0)]
  ((m.prefetch g seg 0 prefetchLines).askStage g seg).passStart g n e true

/-- Enter an entry at a boundary: play it, or wait for its trigger. -/
def Mach.enterEntry (m : Mach) (g n i e : Nat) (seg : List Nat) : Mach :=
  if seqTrig e = 1 then
    let m := m.modGst g fun v => { v with play := none, next := none, waitE := some (i, e, seg), waitFrom := n, playAt := none }
    m.wrs [(GEN_STAT_ENTRY, [g], i), (GEN_STAT_WAITING, [g], 1), (GEN_LOOP_PASS, [g], 0)]
  else m.playEntry g n i e seg

/-- Report to the mirror frame what a generator did (R421): 0 trip, 1 stop, 2 jump, 3 advance. -/
def Mach.genNote (m : Mach) (g kind n arg : Nat) : Mach :=
  { m with pair := { m.pair with gens := m.pair.gens ++ [FrGen.mk g kind n arg] } }

/-- A jump takes effect at sample `n`, and overtakes an advance that could have taken effect there (R248). -/
def Mach.jumpDone (m : Mach) (g n target : Nat) : Mach :=
  let m := m.modGst g fun v => { v with jump := none }
  let m := m.wr GEN_STAT_JUMP_PENDING [g] 0
  let m := if (m.gst g).adv.any fun a => decide (a + 64 ≤ n) then (m.modGst g fun v => { v with adv := none }).trigIgn g else m
  let m := m.raiseAt (m.gtime g n / 2 ^ 40) 5 0x0002 g [n] [target] (m.gepoch g n)
  (m.finish 0x76 g DONE n).genNote g 2 n target

/-- An advance takes effect at sample `n`. -/
def Mach.advDone (m : Mach) (g n : Nat) : Mach :=
  let m := m.modGst g fun v => { v with adv := none }
  (m.wr GEN_ADV [g] n).genNote g 3 n 0

/-- An advance that has not taken effect is ignored when the sequence ends (R248). -/
def Mach.advLost (m : Mach) (g : Nat) : Mach := if (m.gst g).adv.isSome then m.trigIgn g else m

/-- A stop by GEN_STOP at sample `n`. -/
def Mach.genStopped (m : Mach) (g n : Nat) : Mach := ((m.advLost g).gleave g gIdle 1 n).genNote g 1 n 0

/-- The sequence ends at sample `n`, by an advance or of its own (R245). -/
def Mach.genDone (m : Mach) (g n idx why : Nat) : Mach :=
  let m := if why = 2 then m.advDone g n else m
  ((m.advLost g).gleave g gDone 2 n).raise 5 0x0001 g [] [idx]

/-- A stop of HOW 1 that was registered while the entry played ends it, however it ends (R248, R258). -/
def Mach.stopsHere (m : Mach) (g n : Nat) : Bool := (m.gst g).ramp.isNone && (m.gst g).stopEnd.any fun r => decide (r < n)

/-- The boundary at sample `n` after a pass. -/
def Mach.boundary (m : Mach) (g n : Nat) (p : Play) : Mach :=
  let nx := (m.gst g).next.getD (m.decide_ g p)
  match nx with
  | .again seg =>
    let same := segType seg == 2 && segType p.seg == 2 && segFtw seg == segFtw p.seg && segPhase seg == segPhase p.seg
    let q := { p with seg := seg, pass := p.pass + 1, pos := 0, said := false,
                      acc := if same then p.acc else segPhase seg * 2 ^ 32 }
    let m := m.modGst g fun v => { v with play := some q, next := none }
    let m := m.wr GEN_LOOP_PASS [g] (min (p.pass + 1) (2 ^ 32 - 1))
    ((m.prefetch g seg 0 prefetchLines).askStage g seg).passStart g n p.e false
  | .done why => if m.stopsHere g n then m.genStopped g n else m.genDone g n p.idx why
  | .entry i e seg why =>
    if m.stopsHere g n then m.genStopped g n
    else
    let m := (m.markEnd g n).modGst g fun v => { v with prevE := p.e }
    let m := if why = 1 then m.jumpDone g n i else if why = 2 then m.advDone g n else m
    m.enterEntry g n i e seg

/-- Core cycle in which an event arrives. -/
def Ev.cycle (e : Ev) : Nat := max e.arrC (e.arr * 256)

/-- Events of TRIG_SID that register up to the present sample and have not registered before. -/
def Mach.genEvents (m : Mach) (g : Nat) : List Ev :=
  let v := m.gst g
  let sid := m.rd GEN_CFG_TRIG_SID [g]
  if sid = 0x3FF then []
  else m.trg.events.filter fun e => e.sid == sid && decide (v.startAt.getD 0 * 256 ≤ e.cycle) &&
    decide (m.gsampleAt g e.cycle ≤ v.n) && !v.seen.contains e

/-- Triggers that register up to the present sample, in order (R246). -/
def Mach.genTrigs (m : Mach) (g : Nat) : List Nat :=
  let v := m.gst g
  sortBy (fun a b => decide (a ≤ b))
    ((m.genEvents g).map (fun e => m.gsampleAt g e.cycle) ++ v.trigs.filter fun r => decide (r ≤ v.n))

/-- An advance that an ADVANCE entry's trigger asks for. -/
def Mach.genAdvance (m : Mach) (g r e : Nat) : Mach :=
  let v := m.gst g
  if seqTrig e = 2 && v.adv.isNone then m.setGst g { v with adv := some r } else m.trigIgn g

/-- One trigger registered at sample `r`: of the entry that waits or plays, or of the one before it (R246, R247). -/
def Mach.genTrig (m : Mach) (g r : Nat) : Mach :=
  let v := m.gst g
  if v.ramp.isSome then m.trigIgn g
  else match v.waitE, v.play with
    | some _, _ =>
      if r < v.waitFrom then m.genAdvance g r v.prevE
      else if v.playAt.isNone then m.setGst g { v with playAt := some (roundUp 32 (r + 64)) }
      else m.trigIgn g
    | none, some p => m.genAdvance g r (if r < p.start then v.prevE else p.e)
    | none, none => m.trigIgn g

/-- Triggers of the present frame register. -/
def Mach.genRegister (m : Mach) (g : Nat) : Mach :=
  let evs := m.genEvents g
  let m := each (m.genTrigs g) (fun m r => m.genTrig g r) m
  m.modGst g fun v => { v with
    trigs := v.trigs.filter fun r => !decide (r ≤ v.n), seen := (v.seen ++ evs).filter fun e => m.trg.events.contains e }

/-! ### Frames -/

/-- Play one frame of a pass that has its samples. -/
def Mach.playFrame (m : Mach) (g : Nat) (p : Play) (ys : List Int) : Mach :=
  let n := (m.gst g).n
  let q := p.pos / 32
  let p := { p with pos := p.pos + 32 }
  let m := (m.gout g ys).modGst g fun v => { v with play := some p }
  if segLen p.seg ≤ p.pos then m.boundary g (n + 32) p
  else (m.prefetch g p.seg (q + prefetchLines) (q + prefetchLines + 1)).askStage g p.seg

/-- An under-run begins (R254). -/
def Mach.underStart (m : Mach) (g : Nat) : Mach :=
  let v := m.gst g
  let pol := m.rd GEN_CFG_UNDERRUN_POLICY [g]
  let m := m.setGst g { v with under := some 0, owed := 0 }
  let m := m.wr GEN_STAT_UNDERRUN [g] 1
  let m := if pol = 1 then m.wr GEN_STAT_STATE [g] gHold else m
  ((m.inc GEN_CNT_UNDERRUNS [g]).fault 13 g).raiseAt (m.gtime g v.n / 2 ^ 40) 5 0x0005 g [v.n] [pol] (m.gepoch g v.n)

/-- One PARK frame of an under-run; under SKIP the pass runs on. -/
def Mach.underFrame (m : Mach) (g : Nat) (p : Play) : Mach :=
  let m := m.modGst g fun v => { v with under := v.under.map (· + 32), owed := v.owed + 1 }
  let m := m.wr GEN_UNDER [g] (m.rd GEN_UNDER [g] + 32)
  if m.rd GEN_CFG_UNDERRUN_POLICY [g] = 1 then m.gout g (parkFrame m g) else m.playFrame g p (parkFrame m g)

/-- UNDERRUN_END: output from staging can resume (R254). -/
def Mach.underEnd (m : Mach) (g : Nat) : Mach :=
  let v := m.gst g
  match v.under with
  | none => m
  | some k =>
    let fill := m.gfill g
    if m.rd GEN_CFG_UNDERRUN_POLICY [g] = 1 then
      if decide (m.rd GEN_STG_RESUME_BYTES [g] ≤ fill) && decide (64 ≤ fill) then
        let m := m.setGst g { v with under := none, owed := 0 }
        (m.wr GEN_STAT_STATE [g] gRunning).raise 5 0x0006 g [k] []
      else m
    else
      let d := min v.owed (fill / 64)
      let m := m.setGst g { v with owed := v.owed - d, rdAt := (v.rdAt + 64 * d) % stagingBytes }
      let m := if d = 0 then m else m.setFill g (fill - 64 * d)
      if (m.gst g).owed = 0 && decide (64 ≤ m.gfill g) then
        (m.modGst g fun v => { v with under := none }).raise 5 0x0006 g [k] []
      else m

/-- The decision for the next boundary falls 64 samples before it. -/
def Mach.decideNow (m : Mach) (g : Nat) (p : Play) : Mach :=
  if segLen p.seg ≤ p.pos + 64 && (m.gst g).next.isNone then m.modGst g fun v => { v with next := some (m.decide_ g p) } else m

def doUnderrunEnd (g : Nat) (s : State) : State := s.upd fun m => m.underEnd g
def execUnderrunEnd (g : Fin 8) (s : State) : Host.Outcome State Fault Refusal := .next (doUnderrunEnd g.val s)

/-! ### Starting -/

/-- Start the generators whose stitch has come: their first entry is fixed (R257). -/
def Mach.genStarts (m : Mach) : Mach :=
  let go := allGen.filter fun g => m.gstate g == gArmed && (m.gst g).startAt == some m.stitch
  let m := each go (fun m g =>
    let i := m.rd GEN_FIRST_FIRST [g]
    let e := m.seqWord g i
    let m := m.wrs [(GEN_STAT_STATE, [g], gRunning), (GEN_SAMP, [g], 0)]
    let m := m.modGst g fun v => { v with n := 0, sync := false, t0 := (m.latch m.stitch).t }
    m.enterEntry g 0 i e (m.segWords g (seqSeg e))) m
  let ws := (m.waitsOf 0x74 0).filter fun w => go.any fun g => bit (w.h.f 1 0 8) g
  let m := ws.foldl (fun m w => m.complete w.h DONE m.stitch) m
  { m with hif := { m.hif with waits := m.hif.waits.filter fun w =>
      !(w.op == 0x74 && go.any fun g => bit (w.h.f 1 0 8) g) } }

/-- A SYNC pulse is taken in a stitch: starts of MODE 1 fall two stitches later. -/
def Mach.genSync (m : Mach) (k : Nat) : Mach :=
  each allGen (fun m g => if (m.gst g).sync then m.modGst g fun v => { v with startAt := some (k + 2), sync := false } else m) m

/-! ### The abort guard -/

/-- Present level of a guard's input (R261). -/
def Mach.guardLevel (m : Mach) (sid : Nat) : Bool :=
  if sid < 0x80 then m.on TRG_UNIT_STAT_STATE [sid] else m.on LOG_MD_HYST_ACTIVE [sid - 0x80]

/-- Core cycle in which a change of an input arrives. -/
def PChg.cycle (c : PChg) : Nat := max c.arrC (c.arr * 256)

/-- The trips of a generator's guards: (time, guard, SID, arrival cycle).  A change that arrives after the start stitch can show
late that the input stood at the trip level at the first sample. -/
def Mach.guardTrips (m : Mach) (g : Nat) : List (Nat × Nat × Nat × Nat) :=
  let k := (m.gst g).startAt.getD 0
  let t0 := toT (m.gst g).t0
  (List.range 8).flatMap fun j =>
    let sid := m.rd GEN_GUARD_SID [g, j]
    let lv := m.on GEN_GUARD_TRIP_LEVEL [g, j]
    if !m.on GEN_GUARD_EN [g, j] then []
    else
      let atStart := if m.inputAt (k + 1) sid t0 false == lv then [(t0, j, sid, k * 256)] else []
      let cs := m.trg.pchg.filter fun c => c.sid == sid && c.v == lv
      let late := cs.filter fun c => decide (c.t ≤ t0) && decide (k < c.arr) && m.inputAt (m.stitch + 1) sid t0 false == lv
      atStart ++ late.map (fun c => (t0, j, sid, c.cycle)) ++
        (cs.filter fun c => decide (t0 < c.t)).map fun c => (c.t, j, sid, c.cycle)

/-- Trip on a guard: the sequencer stops advancing and the ramp is set (R262). -/
def Mach.trip (m : Mach) (g : Nat) (x : Nat × Nat × Nat × Nat) : Mach :=
  let (t, j, sid, arr) := x
  let m0 := m.gsampleAt g (arr + 8)
  let len := max 1 (divRound (m.rd GEN_GUARD_RAMP_RAMP_US [g] * m.rd TBS_SLICE_FREQ_SLICE_KHZ) 1000)
  let m := m.modGst g fun v => { v with ramp := some (m0, len), next := none, jump := none, adv := none, stopEnd := none,
                                        parkAt := none }
  let m := m.wrs [(GEN_STAT_RAMPING, [g], 1), (GEN_STAT_TRIP_GUARD, [g], j), (GEN_STAT_JUMP_PENDING, [g], 0)]
  let m := (m.finish 0x76 g WRONG_STATE 0).finish 0x75 g WRONG_STATE 0
  let m := m.raise 5 0x0007 g [t / 256] [j, sid]
  (m.fault 12 g).genNote g 0 m0 j

/-- GUARD_TRIP: the earliest trip, the lowest guard at equal times. -/
def Mach.guardTrip (m : Mach) (g : Nat) : Mach :=
  if !m.gruns g || !m.on GEN_CFG_GUARD_EN [g] || (m.gst g).ramp.isSome then m
  else match sortBy (fun (a b : Nat × Nat × Nat × Nat) => decide (a.1 ≤ b.1)) (m.guardTrips g) with
    | x :: _ => m.trip g x
    | [] => m
def doGuardTrip (g : Nat) (s : State) : State := s.upd fun m => m.guardTrip g
def execGuardTrip (g : Fin 8) (s : State) : Host.Outcome State Fault Refusal := .next (doGuardTrip g.val s)

/-- GUARD_ZERO: the ramp has reached 0 (R262); bound sets disarm with FINISH at the next boundary (R265). -/
def Mach.guardZero (m : Mach) (g : Nat) : Mach :=
  match (m.gst g).ramp with
  | none => m
  | some (m0, len) =>
    let z := m0 + len - 1
    if !m.gruns g || decide ((m.gst g).n ≤ z) then m
    else
      let t := m.gtime g z / 2 ^ 40
      let ep := m.gepoch g z
      let m := m.gleave g gTripped 5 z
      let m := m.raiseAt t 5 0x0008 g [z] [] ep
      each allSets (fun m s =>
        if m.mode s == 3 && bit (m.rd GEN_SR_GEN_MASK [s]) g && m.active s then
          m.modPset s fun p => { p with stopAt := some (m.stitch + 1, false) }
        else m) m
def doGuardZero (g : Nat) (s : State) : State := s.upd fun m => m.guardZero g
def execGuardZero (g : Fin 8) (s : State) : Host.Outcome State Fault Refusal := .next (doGuardZero g.val s)

/-! ### Streaming -/

def genQ (g : Nat) : Nat := 384 + g

/-- The feeder can take the ring's next entry. -/
def Mach.feedReady (m : Mach) (g : Nat) : Bool :=
  let q := genQ g
  m.hostUp && m.qCreated q && !m.on HIF_Q_STAT_STALLED [q] && m.rd HIF_Q_STAT_FAULT [q] == 0 &&
  m.qDev q != m.qHost q && m.on GEN_STG_AREA_BOUND [g] && m.memOk

/-- A driver-produced queue moves its head past an entry. -/
def Mach.qAdvance (m : Mach) (q : Nat) : Mach :=
  let m := m.wr HIF_Q_PTR_DEV_PTR [q] ((m.qDev q + 1) % m.qSize q)
  let m := m.inc HIF_Q_CNT_ENTRIES [q]
  m.setQst q { m.qst q with seq := ((m.qst q).seq + 1) % 65536, rereads := 0 }

/-- STAGING_FEED: the entry at the ring's head, as read, and its data (R251, R252).  Only the read of the samples may set
No-Snoop, by the ring's NOSNOOP_OK (R335). -/
def Mach.stagingFeed (m : Mach) (g : Nat) (ws : List Nat) (data : List (BitVec 8)) : Mach :=
  let q := genQ g
  if !m.feedReady g then m
  else
    let w1 := ws.getD 1 0
    let bytes := bits w1 0 32
    let m := m.emit (.read (m.rd HIF_Q_BASE [q] + 32 * m.qDev q) 32 1 false)
    if bits w1 48 16 ≠ (m.qst q).seq then
      if (m.qst q).rereads < 4 then m.setQst q { m.qst q with rereads := (m.qst q).rereads + 1 }
      else ((m.setQst q { m.qst q with rereads := 0 }).wrs
        [(HIF_Q_STAT_STALLED, [q], 1), (HIF_Q_STAT_FAULT, [q], QUEUE_STALE)]).fault 41 q
    else if bytes < 64 ∨ 1048576 < bytes ∨ bytes % 64 ≠ 0 then m.wr HIF_Q_STAT_FAULT [q] BAD_FIELD
    else if stagingBytes < m.gfill g + bytes then m
    else
      let d := (data ++ List.replicate (bytes - data.length) (0 : BitVec 8)).take bytes
      let m := m.emit (.read (ws.getD 0 0) bytes 3 (m.on HIF_Q_CFG_NOSNOOP_OK [q]))
      let wr := (m.gst g).wrAt
      let m := each (List.range (bytes / 64)) (fun m i =>
        m.writeLine 3 (.gen g) 0 (m.gstage g (wr + 64 * i) / 64) ((d.drop (64 * i)).take 64) false) m
      let m := m.modGst g fun v => { v with wrAt := (wr + bytes) % stagingBytes }
      let m := m.setFill g (m.gfill g + bytes)
      (m.qAdvance q).coalesce q false
/-- An entry that is read again waits for SEQUENCE_REREAD. -/
def doStagingFeed (g : Nat) (ws : List Nat) (data : List (BitVec 8)) (s : State) : State :=
  s.upd fun m => if (m.qst (genQ g)).rereads = 0 then m.stagingFeed g ws data else m
def execStagingFeed (g : Fin 8) (ws : List (BitVec 64)) (data : List (BitVec 8)) (s : State) :
    Host.Outcome State Fault Refusal := .next (doStagingFeed g.val (ws.map BitVec.toNat) data s)

end Sys2Proof.Machine
end

