-- ==== Sys2Proof/Machine/GenCmds.lean ====
section
/-! DEFINITION. The generator commands 0x70–0x7C (R266, R267). -/
namespace Sys2Proof.Machine
open Sys2Proof

/-! ### GEN_CONFIG -/
def ciGenConfig : CmdInfo where
  op := 0x70
  masks := [mask 28 + mask 16 * 2 ^ 32, mask 8, mask 23 + mask 23 * 2 ^ 32]
  tgt := below 8

/-- SIDs that can trigger a generator: none is of a program's own set (R99). -/
def genSid (x : Nat) : Bool := decide (x ≤ 0x22B) || x == sidNone

def ownGenConfig (h : HostCmd) (s : State) : Option Nat :=
  let a := h.f 2 0 8
  firstOf [(s.m.gruns h.tgt, BUSY), (s.m.areaType a != areaStaging || decide (s.m.areaSize a < stagingBytes), NO_AREA),
    (h.f 1 32 16 == 0 || !genSid (h.f 1 18 10), BAD_FIELD)]

def applyGenConfig (h : HostCmd) (m : Mach) : Mach :=
  let g := h.tgt
  m.wrs [(GEN_CFG_PARK, [g], h.f 1 0 16), (GEN_CFG_UNDERRUN_POLICY, [g], h.f 1 16 1), (GEN_CFG_GUARD_EN, [g], h.f 1 17 1),
    (GEN_CFG_TRIG_SID, [g], h.f 1 18 10), (GEN_MK_MK_WIDTH, [g], h.f 1 32 16), (GEN_STG_AREA_AREA, [g], h.f 2 0 8),
    (GEN_STG_AREA_BOUND, [g], 1), (GEN_STG_WMARK_BYTES, [g], h.f 3 0 23), (GEN_STG_RESUME_BYTES, [g], h.f 3 32 23)]

def doGenConfig (h : HostCmd) (s : State) : State := runCmd ciGenConfig ownGenConfig (lift (later 0x70)) h s
def execGenConfig (h : HostCmd) (s : State) : Host.Outcome State Fault Refusal := .next (doGenConfig h s)

/-! ### GEN_SEG_WRITE, GEN_SEQ_WRITE -/
def ciGenSegWrite : CmdInfo where
  op := 0x71
  masks := [mask 10 + mask 11 * 2 ^ 32, mask 64]
  tgt := below 8
  again := true

/-- Entry `i` of a segment payload. -/
def cmdSeg (h : HostCmd) (i : Nat) : List Nat := (List.range 4).map fun j => h.dat (4 * i + j)

/-- Why an entry is refused (R240); reserved bits of a memory format are ignored (R10). -/
def segRefusal (m : Mach) (w : List Nat) : Option Nat :=
  let type := segType w
  let len := bits (w.getD 1 0) 0 40
  let store := type == 0
  firstOf [(type == 3 || decide (len < 64) || decide (2 ^ 40 - 32 < len) || len % 32 != 0 || (store && segOfs w % 64 != 0) ||
              decide (32767 < segAmpl w), BAD_FIELD),
           (store && (m.areaType (segArea w) != areaStore || decide (m.areaSize (segArea w) < segOfs w + 2 * len)), NO_AREA)]

def ownGenSegWrite (h : HostCmd) (s : State) : Option Nat :=
  let n := h.f 1 32 11
  if n = 0 ∨ 1024 < h.f 1 0 10 + n ∨ !aligned64 (h.f 2 0 64) then some BAD_FIELD
  else (List.range n).findSome? fun i => segRefusal s.m (cmdSeg h i)

def applyGenSegWrite (h : HostCmd) (m : Mach) : Mach :=
  each (List.range (h.f 1 32 11)) (fun m i =>
    { m with gen := { m.gen with segs := tins m.gen.segs (1024 * h.tgt + h.f 1 0 10 + i) (cmdSeg h i) } }) m

/-- The entries of `size` bytes are read from the host; the result is their number. -/
def effWrites (op size : Nat) (n : HostCmd → Nat) (h : HostCmd) (due : Nat) (s : State) : Mach :=
  ((s.m.hostRead (h.word 2) (size * n h)).at_ due (.cmd op h)).done h (n h)

def doGenSegWrite (h : HostCmd) (s : State) : State :=
  runCmd ciGenSegWrite ownGenSegWrite (lift (effWrites 0x71 32 fun h => h.f 1 32 11)) h s
def execGenSegWrite (h : HostCmd) (s : State) : Host.Outcome State Fault Refusal := .next (doGenSegWrite h s)

def ciGenSeqWrite : CmdInfo where
  op := 0x72
  masks := [mask 12 + mask 13 * 2 ^ 32, mask 64]
  tgt := below 8
  again := true

def seqBad (e : Nat) : Bool :=
  seqTrig e == 3 || seqEvt e == 3 || (seqJump e && seqLast e)

def ownGenSeqWrite (h : HostCmd) (_ : State) : Option Nat :=
  let n := h.f 1 32 13
  firstOf [(n == 0 || decide (4096 < n) || decide (4096 < h.f 1 0 12 + n) || !aligned64 (h.f 2 0 64), BAD_FIELD),
           ((List.range n).any fun i => seqBad (h.dat i), BAD_FIELD)]

def applyGenSeqWrite (h : HostCmd) (m : Mach) : Mach :=
  each (List.range (h.f 1 32 13)) (fun m i =>
    { m with gen := { m.gen with seqs := tins m.gen.seqs (4096 * h.tgt + h.f 1 0 12 + i) (h.dat i) } }) m

def doGenSeqWrite (h : HostCmd) (s : State) : State :=
  runCmd ciGenSeqWrite ownGenSeqWrite (lift (effWrites 0x72 8 fun h => h.f 1 32 13)) h s
def execGenSeqWrite (h : HostCmd) (s : State) : Host.Outcome State Fault Refusal := .next (doGenSeqWrite h s)

/-! ### GEN_ARM -/
def ciGenArm : CmdInfo where
  op := 0x73
  masks := [mask 12 + 2 ^ 16 + mask 23 * 2 ^ 32]
  tgt := below 8

def Mach.hasStream (m : Mach) (g : Nat) : Bool :=
  m.gen.segs.any fun p => p.1 / 1024 == g && segType p.2 == 1

/-- The checks of R256 from the second on. -/
def ownGenArm (h : HostCmd) (s : State) : Option Nat :=
  let m := s.m
  let g := h.tgt
  let st := m.gstate g
  let prime := h.f 1 32 23
  firstOf [(!m.spllLocked || !m.memOk, CLOCK_INVALID),
           (!(st == gIdle || st == gDone || st == gStopped) || (m.pendingCmd 0x73 g).isSome, WRONG_STATE),
           (m.hasStream g && !m.on GEN_STG_AREA_BOUND [g], NO_AREA),
           (decide (stagingBytes < prime) || prime % 64 != 0, BAD_FIELD), (m.overCommit m.gcharge, BANDWIDTH)]

/-- The charge is held from acceptance. -/
def effGenArm (h : HostCmd) (due : Nat) (s : State) : Mach :=
  let c := s.m.gcharge
  let m := (s.m.addCommit c).modGst h.tgt fun v => { v with charge := c }
  (m.at_ due (.cmd 0x73 h)).done h due

/-- The arm itself (R256); without its clocks it parks at once. -/
def applyGenArm (h : HostCmd) (m : Mach) : Mach :=
  let g := h.tgt
  let q := genQ g
  let m := if m.follows then let c := m.gcharge; (m.addCommit c).modGst g fun v => { v with charge := c } else m
  let c := (m.gst g).charge
  let m := m.setGst g { charge := c, low := (m.gst g).low }
  let m := if h.b 1 16 && m.qCreated q then
      let m := m.setQst q { m.qst q with
        seq := ((m.qst q).seq + (m.qHost q + m.qSize q - m.qDev q) % m.qSize q) % 65536 }
      m.wr HIF_Q_PTR_DEV_PTR [q] (m.qHost q)
    else m
  let m := m.wrs [(HIF_Q_STAT_FAULT, [q], 0), (GEN_STAT_STATE, [g], gArmed), (GEN_STAT_CAUSE, [g], 0), (GEN_STAT_ENTRY, [g], h.f 1 0 12),
    (GEN_UNDER, [g], 0), (GEN_FIRST_FIRST, [g], h.f 1 0 12), (GEN_STG_PRIME_BYTES, [g], h.f 1 32 23)]
  let m := m.setFill g 0
  if !m.spllLocked then (m.gleave g gStopped 3 0).raise 5 0x0009 g [] [3]
  else if !m.memOk then (m.gleave g gStopped 4 0).raise 5 0x0009 g [] [4]
  else m

def doGenArm (h : HostCmd) (s : State) : State := runCmd ciGenArm ownGenArm (lift effGenArm) h s
def execGenArm (h : HostCmd) (s : State) : Host.Outcome State Fault Refusal := .next (doGenArm h s)

/-! ### GEN_START -/
def ciGenStart : CmdInfo where
  op := 0x74
  masks := [mask 9, mask 64]
  tgt := tgt0
  again := true

def Mach.gready (m : Mach) (g : Nat) : Bool :=
  m.gstate g == gArmed && decide (m.rd GEN_STG_PRIME_BYTES [g] ≤ m.gfill g) && (m.gst g).startAt.isNone && !(m.gst g).sync

def ownGenStart (h : HostCmd) (s : State) : Option Nat :=
  let m := s.m
  let gs := bitList 8 (h.f 1 0 8)
  firstOf [(!m.spllLocked, CLOCK_INVALID), (gs.isEmpty, BAD_FIELD), (!gs.all m.gready, WRONG_STATE),
           (!h.b 1 8 && decide (h.f 2 0 64 < m.stitch + 2), BAD_FIELD)]

/-- Set the start of the generators in a mask. -/
def Mach.setStart (m : Mach) (h : HostCmd) (due : Nat) : Mach :=
  each (bitList 8 (h.f 1 0 8)) (fun m g => m.modGst g fun v =>
    if h.b 1 8 then { v with sync := true } else { v with startAt := some (max due (h.f 2 0 64)) }) m

def effGenStart (h : HostCmd) (due : Nat) (s : State) : Mach := (s.m.setStart h due).wait 0x74 h due
def applyGenStart (h : HostCmd) (m : Mach) : Mach := m.setStart h m.stitch
def doGenStart (h : HostCmd) (s : State) : State := runCmd ciGenStart ownGenStart (lift effGenStart) h s
def execGenStart (h : HostCmd) (s : State) : Host.Outcome State Fault Refusal := .next (doGenStart h s)

/-! ### GEN_STOP -/
def ciGenStop : CmdInfo where
  op := 0x75
  masks := [1]
  tgt := below 8

def ownGenStop (h : HostCmd) (s : State) : Option Nat :=
  firstOf [(s.m.on GEN_STAT_RAMPING [h.tgt] || s.m.gstate h.tgt == gTripped, WRONG_STATE)]

def effGenStop (h : HostCmd) (due : Nat) (s : State) : Mach :=
  if s.m.gstate h.tgt = gArmed ∨ s.m.gruns h.tgt then (s.m.at_ due (.cmd 0x75 h)).wait 0x75 h due else s.m.done h 0

/-- The stop registers at the first sample of this stitch (R258). -/
def applyGenStop (h : HostCmd) (m : Mach) : Mach :=
  let g := h.tgt
  let v := m.gst g
  if m.gstate g = gArmed then (m.cancelStart g).gleave g gIdle 1 0
  else if m.gruns g && v.ramp.isNone then
    let r := m.gsampleAt g (m.stitch * 256)
    if h.b 1 0 && v.play.isSome then m.setGst g { v with stopEnd := some r } else m.setGst g { v with parkAt := some (r + 64) }
  else m.finish 0x75 g WRONG_STATE 0

def doGenStop (h : HostCmd) (s : State) : State := runCmd ciGenStop ownGenStop (lift effGenStop) h s
def execGenStop (h : HostCmd) (s : State) : Host.Outcome State Fault Refusal := .next (doGenStop h s)

/-! ### GEN_JUMP -/
def ciGenJump : CmdInfo where
  op := 0x76
  masks := [mask 12]
  tgt := below 8

def ownGenJump (h : HostCmd) (s : State) : Option Nat :=
  firstOf [(!s.m.gruns h.tgt, WRONG_STATE), (s.m.on GEN_STAT_JUMP_PENDING [h.tgt], BUSY)]

def effGenJump (h : HostCmd) (due : Nat) (s : State) : Mach := (s.m.at_ due (.cmd 0x76 h)).wait 0x76 h due
def applyGenJump (h : HostCmd) (m : Mach) : Mach :=
  let g := h.tgt
  if m.gruns g && (m.gst g).ramp.isNone then
    let r := m.gsampleAt g (m.stitch * 256)
    (m.modGst g fun v => { v with jump := some (r, h.f 1 0 12) }).wr GEN_STAT_JUMP_PENDING [g] 1
  else m.finish 0x76 g WRONG_STATE 0

def doGenJump (h : HostCmd) (s : State) : State := runCmd ciGenJump ownGenJump (lift effGenJump) h s
def execGenJump (h : HostCmd) (s : State) : Host.Outcome State Fault Refusal := .next (doGenJump h s)

/-! ### GEN_NCO_SET -/
def ciGenNcoSet : CmdInfo where
  op := 0x77
  masks := [mask 10, mask 48, mask 48]
  tgt := below 8
  again := true

def ownGenNcoSet (h : HostCmd) (s : State) : Option Nat :=
  firstOf [(segType (s.m.segWords h.tgt (h.f 1 0 10)) != 2 || decide (32767 < h.f 3 16 16), BAD_FIELD)]

/-- Words of the segment after the change. -/
def ncoWords (h : HostCmd) (w : List Nat) : List Nat := [w.getD 0 0, w.getD 1 0, h.f 2 0 48, h.f 3 0 48]

/-- A playing segment takes the values at this stitch's first sample; the accumulator is reloaded when FTW or PHASE
changed (R267). -/
def applyGenNcoSet (h : HostCmd) (m : Mach) : Mach :=
  let g := h.tgt
  let i := h.f 1 0 10
  let w := ncoWords h (m.segWords g i)
  let m := { m with gen := { m.gen with segs := tins m.gen.segs (1024 * g + i) w } }
  match (m.gst g).play with
  | some p =>
    if p.si = i ∧ segType p.seg = 2 then
      let w := ncoWords h p.seg
      let same := segFtw w == segFtw p.seg && segPhase w == segPhase p.seg
      let next := fun (x : GNext) => match x with | .again _ => .again w | x => x
      m.modGst g fun v => { v with
        play := some { p with seg := w, acc := if same then p.acc else segPhase w * 2 ^ 32 }, next := v.next.map next }
    else m
  | none => m

def doGenNcoSet (h : HostCmd) (s : State) : State := runCmd ciGenNcoSet ownGenNcoSet (lift (later 0x77)) h s
def execGenNcoSet (h : HostCmd) (s : State) : Host.Outcome State Fault Refusal := .next (doGenNcoSet h s)

/-! ### GEN_SKEW -/
def ciGenSkew : CmdInfo where
  op := 0x78
  masks := [mask 24]
  tgt := below 8

def ownGenSkew (h : HostCmd) (s : State) : Option Nat := firstOf [(s.m.gruns h.tgt, BUSY)]
def applyGenSkew (h : HostCmd) (m : Mach) : Mach :=
  m.wrs [(GEN_SKEW_FRAC, [h.tgt], h.f 1 0 16), (GEN_SKEW_INT, [h.tgt], h.f 1 16 8)]

def doGenSkew (h : HostCmd) (s : State) : State := runCmd ciGenSkew ownGenSkew (lift (later 0x78)) h s
def execGenSkew (h : HostCmd) (s : State) : Host.Outcome State Fault Refusal := .next (doGenSkew h s)

/-! ### GEN_GUARD -/
def maskG : Nat := mask 12 + mask 12 * 2 ^ 16 + mask 12 * 2 ^ 32 + mask 12 * 2 ^ 48

def ciGenGuard : CmdInfo where
  op := 0x79
  masks := [maskG, maskG, mask 17 + 2 ^ 32]
  tgt := below 8

/-- The 12 bits of guard `j` in the payload. -/
def cmdGuard (h : HostCmd) (j : Nat) : Nat := h.f (1 + j / 4) (16 * (j % 4)) 12

def ownGenGuard (h : HostCmd) (s : State) : Option Nat :=
  let r := h.f 3 0 17
  firstOf [(s.m.gruns h.tgt, BUSY), ((List.range 8).any fun j => decide (0x17F < bits (cmdGuard h j) 0 10), BAD_FIELD),
           (r == 0 || decide (100000 < r), BAD_FIELD)]

def applyGenGuard (h : HostCmd) (m : Mach) : Mach :=
  let g := h.tgt
  let m := each (List.range 8) (fun m j =>
    let w := cmdGuard h j
    m.wrs [(GEN_GUARD_SID, [g, j], bits w 0 10), (GEN_GUARD_TRIP_LEVEL, [g, j], bits w 10 1), (GEN_GUARD_EN, [g, j], bits w 11 1)]) m
  m.wrs [(GEN_GUARD_RAMP_RAMP_US, [g], h.f 3 0 17), (GEN_CFG_GUARD_EN, [g], h.f 3 32 1)]

def doGenGuard (h : HostCmd) (s : State) : State := runCmd ciGenGuard ownGenGuard (lift (later 0x79)) h s
def execGenGuard (h : HostCmd) (s : State) : Host.Outcome State Fault Refusal := .next (doGenGuard h s)

/-! ### GEN_GUARD_RESET -/
def ciGenGuardReset : CmdInfo where
  op := 0x7A
  masks := []
  tgt := below 8

def ownGenGuardReset (h : HostCmd) (s : State) : Option Nat :=
  let m := s.m
  let g := h.tgt
  firstOf [(m.gstate g != gTripped, WRONG_STATE),
           ((List.range 8).any fun j => m.on GEN_GUARD_EN [g, j] &&
              m.guardLevel (m.rd GEN_GUARD_SID [g, j]) == m.on GEN_GUARD_TRIP_LEVEL [g, j], BUSY)]

def applyGenGuardReset (h : HostCmd) (m : Mach) : Mach :=
  if m.gstate h.tgt = gTripped then m.wr GEN_STAT_STATE [h.tgt] gIdle else m

def doGenGuardReset (h : HostCmd) (s : State) : State := runCmd ciGenGuardReset ownGenGuardReset (lift (later 0x7A)) h s
def execGenGuardReset (h : HostCmd) (s : State) : Host.Outcome State Fault Refusal := .next (doGenGuardReset h s)

/-! ### GEN_SR_BIND -/
def ciGenSrBind : CmdInfo where
  op := 0x7B
  masks := [mask 11]
  tgt := below 16

def ownGenSrBind (h : HostCmd) (s : State) : Option Nat :=
  firstOf [(s.m.active h.tgt, BUSY), (!h.b 1 (h.f 1 8 3), BAD_FIELD)]
def applyGenSrBind (h : HostCmd) (m : Mach) : Mach :=
  m.wrs [(GEN_SR_GEN_MASK, [h.tgt], h.f 1 0 8), (GEN_SR_REF, [h.tgt], h.f 1 8 3)]

def doGenSrBind (h : HostCmd) (s : State) : State := runCmd ciGenSrBind ownGenSrBind (lift (later 0x7B)) h s
def execGenSrBind (h : HostCmd) (s : State) : Host.Outcome State Fault Refusal := .next (doGenSrBind h s)

/-! ### GEN_TRIG -/
def ciGenTrig : CmdInfo where
  op := 0x7C
  masks := []
  tgt := below 8
  again := true

def ownGenTrig (h : HostCmd) (s : State) : Option Nat := firstOf [(!s.m.gruns h.tgt, WRONG_STATE)]
def effGenTrig (h : HostCmd) (due : Nat) (s : State) : Mach :=
  (s.m.at_ due (.cmd 0x7C h)).done h (s.m.gsampleAt h.tgt (due * 256))
def applyGenTrig (h : HostCmd) (m : Mach) : Mach :=
  if m.gruns h.tgt then
    let r := m.gsampleAt h.tgt (m.stitch * 256)
    m.modGst h.tgt fun v => { v with trigs := v.trigs ++ [r] }
  else m

def doGenTrig (h : HostCmd) (s : State) : State := runCmd ciGenTrig ownGenTrig (lift effGenTrig) h s
def execGenTrig (h : HostCmd) (s : State) : Host.Outcome State Fault Refusal := .next (doGenTrig h s)

end Sys2Proof.Machine
end

