-- ==== Sys2Proof/Machine/Maint.lean ====
section
/-! DEFINITION. The maintenance arbiter (R438–R445): conflicts, requests, deferral and the end of a step. -/
namespace Sys2Proof.Machine
open Sys2Proof

/-! Activities (Table 15.3). -/
def actBgCal : Nat := 0
def actFgCal : Nat := 1
def actScrub : Nat := 2
def actMigrate : Nat := 3
def actNeighbour : Nat := 4
def actCatchUp : Nat := 5
def actSramScrub : Nat := 6
def actRetrain : Nat := 7
def actCcTest : Nat := 8
def actHkTest : Nat := 9
def actTwin : Nat := 10
def actRetention : Nat := 11

/-- How two activities exclude each other: 0 not, 1 same tile, 2 same memory channel, 3 same rank, 4 always
(Table 15.4). -/
def exclusion (a b : Nat) : Nat :=
  let lo := min a b
  let hi := max a b
  if hi = 11 then (if lo = 4 ∨ lo = 5 ∨ lo = 11 then 0 else 4)
  else match lo, hi with
  | 0, 1 | 1, 8 => 1
  | 1, 1 | 3, 3 | 7, 7 | 8, 8 | 9, 9 | 10, 10 | 6, 10 | 7, 10 => 4
  | 2, 3 | 3, 5 => 2
  | 2, 5 => 3
  | _, _ => 0

/-- Memory channel of an instance: a rank is 4 × channel + rank. -/
def instMc (a i : Nat) : Nat := if a = actCatchUp then i / 4 else i

/-- First line that the running scrub step of a channel reads, or the next one, and the last. -/
def Mach.scrubLines (m : Mach) (mc : Nat) : Nat × Nat :=
  let l := tget 0 m.mem.scrubAt mc
  (l * 16 + mc, (l + 63) * 16 + mc)

/-- Two steps conflict (R440). -/
def Mach.conflict (m : Mach) (a i b j : Nat) : Bool :=
  match exclusion a b with
  | 0 => false
  | 1 => i == j
  | 2 => instMc a i == instMc b j
  | 3 =>
    let (mc, rk) := if a = actScrub then (i, j) else (j, i)
    let (l0, l1) := m.scrubLines mc
    mc == rk / 4 && (m.physRank l0 == rk % 4 || m.physRank l1 == rk % 4)
  | _ => true

/-- The running activity that blocks a request, if any; in Retention nothing is admitted (R445). -/
def Mach.blocker (m : Mach) (a i : Nat) : Option Nat :=
  match m.flt.running.find? fun r => m.conflict a i r.act r.inst with
  | some r => some r.act
  | none => if m.dev = .retention then some actRetention else none

/-- Show running and deferred activities in the registers. -/
def Mach.maintRegs (m : Mach) : Mach :=
  let run := orAll (m.flt.running.map fun r => 2 ^ r.act)
  let de := orAll (m.flt.deferred.map fun r => 2 ^ r.act)
  m.wrs [(FLT_MAINT_STAT_RUN, [], run), (FLT_MAINT_STAT_DEFER, [], de)]

/-- Wait of the oldest deferred request of each activity, in ms. -/
def Mach.maintAges (m : Mach) : Mach :=
  each (List.range 12) (fun m a =>
    let t := match m.flt.deferred.find? fun r => r.act == a with
      | some r => (m.dtime - r.since) / msDt
      | none => 0
    m.wr FLT_MAINT_DEFER_OLDEST [a] (min t 65535)) m

def Mach.runs (m : Mach) (a i : Nat) : Bool := m.flt.running.any fun r => r.act == a && r.inst == i
def Mach.waiting (m : Mach) (a i : Nat) : Bool := m.flt.deferred.any fun r => r.act == a && r.inst == i

/-- Put a step among the running ones. -/
def Mach.runMaint (m : Mach) (r : MReq) : Mach :=
  { m with flt := { m.flt with running := m.flt.running ++ [r] } }.maintRegs

/-- A request for a step (R439, R441): it merges with a deferred one, is deferred, or is admitted at once; the truth value
says that it is admitted and its step starts.  A command that cannot start completes with BUSY or DEFERRED. -/
def Mach.maint (m : Mach) (a i : Nat) (args : List Nat) (cmd : Option HostCmd) : Mach × Bool :=
  if m.waiting a i then
    (match cmd with | some h => m.complete h BUSY 0 | none => m, false)
  else
    let r : MReq := { act := a, inst := i, args := args, since := m.dtime, stitch := m.stitch, cmd := cmd, limFrom := m.dtime }
    match m.blocker a i with
    | some b =>
      let m := { m with flt := { m.flt with deferred := m.flt.deferred ++ [{ r with was := true }] } }.maintRegs
      let m := (m.inc FLT_MAINT_DEFER_COUNT [a]).raise 11 0x0003 a [] [i, b]
      (match cmd with | some h => m.complete h DEFERRED 0 | none => m, false)
    | none => (m.runMaint r, true)

/-- A running step ends; its outcome goes to its command with a status, or to MAINT_DONE when it had been deferred (R441). -/
def Mach.maintEndSt (m : Mach) (a i status result : Nat) : Mach :=
  match m.flt.running.find? fun r => r.act == a && r.inst == i with
  | none => m
  | some r =>
    let m := { m with flt := { m.flt with running := m.flt.running.filter fun x => !(x.act == a && x.inst == i) } }.maintRegs
    if r.was then m.raise 11 0x0005 a [result] [i, 0]
    else match r.cmd with
      | some h => m.complete h status result
      | none => m

def Mach.maintEnd (m : Mach) (a i result : Nat) : Mach := m.maintEndSt a i DONE result

/-- The command of a running step that was not deferred. -/
def Mach.maintCmd (m : Mach) (a i : Nat) : Option HostCmd :=
  match m.flt.running.find? fun r => r.act == a && r.inst == i with
  | some r => if r.was then none else r.cmd
  | none => none

/-- A deferred request counts as earlier than another, or they count the same: by stitch, then activity, then instance (R441). -/
def MReq.earlier (a b : MReq) : Bool :=
  decide (a.stitch < b.stitch) || a.stitch == b.stitch &&
    (decide (a.act < b.act) || a.act == b.act && decide (a.inst ≤ b.inst))

/-- Requests that the slot admits, oldest first, and those that stay (R442). -/
def Mach.admitReqs (m : Mach) : List MReq × List MReq :=
  if m.dev = .retention then ([], m.flt.deferred)
  else
    (sortBy MReq.earlier m.flt.deferred).foldl (fun (st : List MReq × List MReq) r =>
      let busy := m.flt.running ++ st.1
      if busy.any fun x => m.conflict r.act r.inst x.act x.inst then (st.1, st.2 ++ [r]) else (st.1 ++ [r], st.2)) ([], [])

/-- Take a deferred request off the list, reporting the wait. -/
def Mach.admitted (m : Mach) (r : MReq) : Mach :=
  let m := { m with flt := { m.flt with
    deferred := m.flt.deferred.filter fun x => !(x.act == r.act && x.inst == r.inst) } }
  (m.runMaint r).raise 11 0x0004 r.act [(m.dtime - r.since) / msDt] [r.inst]

/-- MAINT_LONG: a request deferred for DEFER_LIMIT ms counts once in source 52 (R443). -/
def Mach.maintLong (m : Mach) (a i : Nat) : Mach :=
  match m.flt.deferred.find? fun r => r.act == a && r.inst == i with
  | none => m
  | some r =>
    if r.said || m.dev == .retention || decide (m.dtime < r.limFrom + m.rd FLT_MAINT_CFG_DEFER_LIMIT * msDt) then m
    else
      let m := { m with flt := { m.flt with deferred := m.flt.deferred.map fun (x : MReq) =>
        if x.act == a && x.inst == i then { x with said := true } else x } }
      m.fault 52 a
def doMaintLong (a i : Nat) (s : State) : State := s.upd fun m => m.maintLong a i
def execMaintLong (act : Fin 12) (inst : Nat) (s : State) : Host.Outcome State Fault Refusal := .next (doMaintLong act.val inst s)

end Sys2Proof.Machine
end

