-- ==== Sys2Proof/Machine/Hk.lean ====
section
/-! DEFINITION. The housekeeping converters (R269–R289). -/
namespace Sys2Proof.Machine
open Sys2Proof

def Mach.hkst (m : Mach) (c : Nat) : HkSt := tget {} m.hk.c c
def Mach.setHk (m : Mach) (c : Nat) (v : HkSt) : Mach := { m with hk := { m.hk with c := tput {} m.hk.c c v } }
def Mach.modHk (m : Mach) (c : Nat) (f : HkSt → HkSt) : Mach := m.setHk c (f (m.hkst c))

def srcVref : Nat := 38
def srcAgnd : Nat := 39
def srcVchk : Nat := 40

/-- The housekeeping sources of a rail, its sense points (Table 9.1). -/
def railSrcs (r : Nat) : List Nat :=
  [[24], [25, 26], [27], [28, 29, 30, 31], [32], [33], [34], [35], [36], [37]].getD r []
/-- The source of the urgent request of a rail's monitor (R284): its first sense point (Table 16.2). -/
def railSrc (r : Nat) : Nat := (railSrcs r).headD 24

/-- A conversion corrected by its calibration (R270). -/
def Mach.hkCode (m : Mach) (c raw : Nat) : Nat :=
  let off := sext 16 (m.rd HKC_CAL_OFFSET [c])
  let gain := sext 16 (m.rd HKC_CAL_GAIN [c])
  (clampI 0 65535 (raw + off + (raw * gain) / 2 ^ 17)).toNat

/-- The gain trim of a divided source, 24 to 37, of a converter (R393). -/
def Mach.dividerTrim (m : Mach) (c src : Nat) : Nat := tget 0 m.hk.dividers (14 * c + (src - 24))

/-- The code of a source: a divided source has its divider's trim on top (R269, R393). -/
def Mach.hkSrcCode (m : Mach) (c src raw : Nat) : Nat :=
  let code := m.hkCode c raw
  if 24 ≤ src ∧ src ≤ 37 then
    (clampI 0 65535 ((code : Int) + (code * sext 16 (m.dividerTrim c src)) / 2 ^ 17)).toNat
  else code

/-! ### Data register (R277, R278) -/
def dataFlds (c : Nat) : Fld × Fld × Fld × Fld × Fld :=
  if c = 0 then (HKA_DATA_RESULT, HKA_DATA_SRC, HKA_DATA_SEQ, HKA_DATA_URG, HKA_DATA_OVR)
  else (HKB_DATA_RESULT, HKB_DATA_SRC, HKB_DATA_SEQ, HKB_DATA_URG, HKB_DATA_OVR)

def Mach.hkOvr (m : Mach) (c : Nat) : Mach := m.wr (dataFlds c).2.2.2.2 [] 1

/-- Write a result to the data register; the answer is also its word. -/
def Mach.hkWrite (m : Mach) (c result src : Nat) (urg : Bool) : Mach × Nat :=
  let (fr, fs, fq, fu, fo) := dataFlds c
  let m := if (m.hkst c).unread then m.hkOvr c else m
  let seq := (m.rd fq + 1) % 16
  let m := m.wrs [(fr, [], result), (fs, [], src), (fq, [], seq), (fu, [], urg.toNat)]
  let m := m.modHk c fun v => { v with unread := true }
  (m, result + src * 2 ^ 20 + seq * 2 ^ 26 + urg.toNat * 2 ^ 30 + m.rd fo * 2 ^ 31)

/-- Keep a step's latest value (R279); the word has URG and OVR 0. -/
def Mach.hkKeep (m : Mach) (c j result src : Nat) : Mach :=
  let seq := m.rd (dataFlds c).2.2.1
  m.modHk c fun v => { v with latest := tins v.latest j (result + src * 2 ^ 20 + seq * 2 ^ 26, m.dtime) }

/-! ### Urgent conversions (R280) -/

/-- Request an urgent conversion: queued, or lost with OVR.  The answer says whether it was queued. -/
def Mach.hkUrgent (m : Mach) (c src : Nat) (cmd : Option HostCmd) : Mach × Bool :=
  let v := m.hkst c
  if v.urg.isSome then (((m.hkOvr c).inc HKC_CNT_URG_LOST [c]).fault 19 c, false)
  else
    let m := (m.setHk c { v with urg := some (src, cmd) }).wr HKC_STAT_URG_PEND [c] 1
    (m, true)

/-! ### What runs next -/

/-- The warned rails in ascending source order. -/
def Mach.warned (m : Mach) : List Nat := bitList 10 (m.rd PWR_RAIL_STAT_WARN)

/-- Their sources, which the watch converts in turn (R284). -/
def Mach.warnedSrcs (m : Mach) : List Nat := m.warned.flatMap railSrcs

/-- The source after one, in turn. -/
def nextSrc (l : List Nat) (at_ : Nat) : Nat := ((l.find? fun x => decide (at_ < x)).getD (l.headD 0))

/-- HKB enters WATCH as the conversion that a monitor asked for starts (R284). -/
def Mach.watchStart (m : Mach) (src : Nat) : Mach :=
  if (m.hkst 1).watch then m
  else
    let m := m.modHk 1 fun v => { v with watch := true, watchN := 0, watchAt := 63, least := [] }
    (m.wr HKC_STAT_STATE [1] 2).raise 6 0x0003 1 [] [src]

/-- Choose and start the next conversion of a converter. -/
def Mach.hkNext (m : Mach) (c : Nat) : Mach :=
  let v := m.hkst c
  match v.urg with
  | some (src, cmd) =>
    let m := (m.setHk c { v with urg := none, mon := false, cur := some (.urg src cmd) }).wr HKC_STAT_URG_PEND [c] 0
    if v.mon then m.watchStart src else m
  | none =>
    if c = 1 && v.watch && !m.warned.isEmpty then
      let x := nextSrc m.warnedSrcs v.watchAt
      m.setHk c { v with cur := some (.watch x), watchAt := x }
    else match v.test with
      | some (k, _, _) => if k < 32 then m.setHk c { v with cur := some (.test k) } else seqNext m c v
      | none => seqNext m c v
where
  seqNext (m : Mach) (c : Nat) (v : HkSt) : Mach :=
    m.setHk c { v with cur := if m.on HKC_CFG_EN [c] then some .seq else none }

/-- A request that a limit or a monitor (`mon`) makes (R280): a stopped converter takes it at once, and a lost one of a limit raises
URG_LOST. -/
def Mach.hkUrgentEv (m : Mach) (c src : Nat) (mon : Bool := false) : Mach :=
  let (m, ok) := m.hkUrgent c src none
  if !ok then if mon then m else m.raise 6 0x0002 c [] [src]
  else
    let m := if mon then m.modHk c fun v => { v with mon := true } else m
    if m.tb.running && (m.hkst c).cur.isNone then m.hkNext c else m

/-- What STATE shows: 2 WATCH, 3 self-test, 1 sequencing, 0 stopped. -/
def Mach.hkState (m : Mach) (c : Nat) : Nat :=
  let v := m.hkst c
  if v.watch then 2 else if v.test.isSome then 3 else (m.on HKC_CFG_EN [c]).toNat

/-- Load a new sequence (R274): its limits start inactive and its steps have no results. -/
def Mach.hkLoad (m : Mach) (c : Nat) (h : HostCmd) : Mach :=
  let m := m.wrs [(HKC_CFG_EN, [c], h.f 1 0 1), (HKC_CFG_LOWPWR, [c], h.f 1 1 1), (HKC_CFG_NSTEPS, [c], h.f 1 2 4),
                  (HKC_STAT_LIMIT, [c], 0)]
  let m := each (List.range (h.f 1 2 4 + 1)) (fun m j =>
    let w := h.dat (2 * j)
    let x := h.dat (2 * j + 1)
    m.wrs [(HKC_STEP_CFG_SRC, [c, j], bits w 0 6), (HKC_STEP_CFG_AVG_N, [c, j], bits w 6 9), (HKC_STEP_CFG_SHIFT, [c, j], bits w 15 4),
      (HKC_STEP_CFG_DATA_EN, [c, j], bits w 19 1), (HKC_STEP_CFG_LIM_MODE, [c, j], bits w 20 2), (HKC_STEP_CFG_LIM_URG, [c, j], bits w 22 1),
      (HKC_STEP_CFG_URG_SRC, [c, j], bits w 23 6), (HKC_STEP_CFG_LIM_EVT, [c, j], bits w 29 1), (HKC_STEP_HI_VALUE, [c, j], bits w 32 20),
      (HKC_STEP_LO_VALUE, [c, j], bits x 0 20), (HKC_STEP_HYST_VALUE, [c, j], bits x 32 20)]) m
  m.modHk c fun v => { v with latest := v.latest.filter fun p => p.1 == 16 }

/-- A new pass starts: a waiting sequence takes effect and its command completes. -/
def Mach.hkPass (m : Mach) (c : Nat) : Mach :=
  let m := match (m.hkst c).next with
    | some h => ((m.modHk c fun v => { v with next := none }).hkLoad c h).finish 0xD0 c DONE (lo32 m.dtime)
    | none => m
  let m := m.modHk c fun v => { v with pos := 0, i := 0, sum := 0 }
  m.wrs [(HKC_STAT_STEP, [c], 0), (HKC_STAT_STATE, [c], m.hkState c)]

/-- Start a converter's sequencer with a new pass. -/
def Mach.hkStart (m : Mach) (c : Nat) : Mach := (m.hkPass c).hkNext c

/-! ### Results -/

/-- Limit of a step against a result (R281). -/
def Mach.hkLimit (m : Mach) (c j result : Nat) : Bool :=
  let r : Int := result
  let hi : Int := m.rd HKC_STEP_HI_VALUE [c, j]
  let lo : Int := m.rd HKC_STEP_LO_VALUE [c, j]
  let hy : Int := m.rd HKC_STEP_HYST_VALUE [c, j]
  let was := bit (m.rd HKC_STAT_LIMIT [c]) j
  match m.rd HKC_STEP_CFG_LIM_MODE [c, j] with
  | 1 => if was then !decide (r ≤ hi - hy) else decide (hi < r)
  | 2 => if was then !decide (lo + hy ≤ r) else decide (r < lo)
  | 3 => if was then !(decide (lo + hy ≤ r) && decide (r ≤ hi - hy)) else decide (hi < r) || decide (r < lo)
  | _ => false

/-- A limit becomes active (R282).  Its arrival delay is open up to 2 µs. -/
def Mach.hkLimitOn (m : Mach) (c j result : Nat) : Mach :=
  let (f, m) := m.free 16
  let d := f % (ceilDiv (2 * usDt * 2 ^ 40) m.cycInc + 1)
  let cyc := m.cycles + d
  let m := m.putEv { sid := 0x1F0 + 16 * c + j, t := toT m.tb.dt, arr := cyc / 256, arrC := cyc }
  let m := m.fault 17 c
  let m := if m.on HKC_STEP_CFG_LIM_URG [c, j] then m.hkUrgentEv c (m.rd HKC_STEP_CFG_URG_SRC [c, j]) else m
  if m.on HKC_STEP_CFG_LIM_EVT [c, j] then m.raise 6 0x0001 c [result] [j] else m

/-- A step's result (R273, R277, R281). -/
def Mach.hkResult (m : Mach) (c j result : Nat) : Mach :=
  let src := m.rd HKC_STEP_CFG_SRC [c, j]
  let m := if m.on HKC_STEP_CFG_DATA_EN [c, j] then (m.hkWrite c result src false).1 else m
  let m := m.hkKeep c j result src
  let was := bit (m.rd HKC_STAT_LIMIT [c]) j
  let now := m.hkLimit c j result
  let m := m.wr HKC_STAT_LIMIT [c] (setBit (m.rd HKC_STAT_LIMIT [c]) j now)
  if now && !was then m.hkLimitOn c j result else m

/-- A VCHK result against the other converter's (R283). -/
def Mach.hkVchk (m : Mach) (c code : Nat) : Mach :=
  let m := m.hkKeep c 16 code srcVchk
  match tfind (m.hkst (1 - c)).latest 16 with
  | none => m.inc HKC_CNT_VSKIP [c]
  | some (w, t) =>
    if 10 * msDt < m.dtime - t then m.inc HKC_CNT_VSKIP [c]
    else
      let d := ((code : Int) - (bits w 0 20 : Nat)).natAbs
      if m.rd HKC_VCHK_TOL_VCHK_TOL < d then (m.inc HKC_CNT_VMISS [c]).fault 18 c else m

/-- One conversion of the sequence. -/
def Mach.hkSeqEnd (m : Mach) (c code : Nat) : Mach :=
  let v := m.hkst c
  if v.pos = 0 then
    let m := m.hkVchk c code
    (m.modHk c fun v => { v with pos := 1, i := 0, sum := 0 }).wr HKC_STAT_STEP [c] 0
  else
    let j := v.pos - 1
    let sum := v.sum + code
    if v.i + 1 < m.rd HKC_STEP_CFG_AVG_N [c, j] then m.setHk c { v with i := v.i + 1, sum := sum }
    else
      let r := (roundHalfEven sum (2 ^ m.rd HKC_STEP_CFG_SHIFT [c, j])).toNat
      let m := m.hkResult c j r
      if j = m.rd HKC_CFG_NSTEPS [c] then m.hkPass c
      else (m.modHk c fun v => { v with pos := v.pos + 1, i := 0, sum := 0 }).wr HKC_STAT_STEP [c] (j + 1)

/-- A conversion of a warned rail's source: the least code of the rail over its sense points is kept. -/
def Mach.watchKeep (m : Mach) (src code : Nat) : Mach :=
  each (m.warned.filter fun r => (railSrcs r).contains src) (fun m r =>
    m.modHk 1 fun v => { v with least := tins v.least r (min code (tget 65535 v.least r)) }) m

/-- The source that a running conversion takes. -/
def Mach.hkConvSrc (m : Mach) (c : Nat) : HkConv → Nat
  | .seq => if (m.hkst c).pos = 0 then srcVchk else m.rd HKC_STEP_CFG_SRC [c, (m.hkst c).pos - 1]
  | .urg src _ => src
  | .watch src => src
  | .test k => if k < 16 then srcVref else srcAgnd

/-- HK_CONVERSION_END: the running conversion of a converter ends with a raw code (R272). -/
def Mach.hkEnd (m : Mach) (c raw : Nat) : Mach :=
  match (m.hkst c).cur with
  | none => m
  | some k =>
    let code := m.hkSrcCode c (m.hkConvSrc c k) raw
    let m := match k with
      | .seq => m.hkSeqEnd c code
      | .urg src cmd =>
        let (m, w) := m.hkWrite c code src true
        let m := match cmd with | some h => m.complete h DONE w | none => m
        if c = 1 && (m.hkst 1).watch then m.watchKeep src code else m
      | .watch src => (m.watchKeep src code).modHk 1 fun v => { v with watchN := v.watchN + 1 }
      | .test k =>
        m.modHk c fun v => match v.test with
          | some (_, a, b) => { v with test := some (if k < 16 then (k + 1, a + code, b) else (k + 1, a, b + code)) }
          | none => v
    m.hkNext c
def doHkConversionEnd (c raw : Nat) (s : State) : State := s.upd fun m => m.hkEnd c raw
def execHkConversionEnd (c : Fin 2) (raw : BitVec 16) (s : State) : Host.Outcome State Fault Refusal :=
  .next (doHkConversionEnd c.val raw.toNat s)

/-- HKB leaves WATCH when no warning remains: the interrupted step starts again from its first conversion (R284). -/
def Mach.watchEnd (m : Mach) : Mach :=
  let v := m.hkst 1
  if v.watch && m.warned.isEmpty then
    let m := m.setHk 1 { v with watch := false, i := 0, sum := 0 }
    let m := m.wr HKC_STAT_STATE [1] (m.hkState 1)
    let m := m.raise 6 0x0004 1 [v.watchN] []
    match v.cur with
    | some (.watch _) => m.hkNext 1
    | _ => m
  else m

/-! ### Self-test (R286) -/

/-- Start an admitted self-test. -/
def Mach.hkTestStart (m : Mach) (c : Nat) : Mach :=
  let m := m.modHk c fun v => { v with test := some (0, 0, 0) }
  let m := m.wr HKC_STAT_STATE [c] (m.hkState c)
  if (m.hkst c).cur.isNone then m.hkNext c else m

/-- SELFTEST_DONE: 32 conversions are made. -/
def Mach.hkTestDone (m : Mach) (c : Nat) : Mach :=
  match (m.hkst c).test with
  | some (32, a, b) =>
    let tol : Int := m.rd HKC_VCHK_TOL_VCHK_TOL
    let (er, eg) := tget (52429, 0) m.hk.expect c
    let bad := fun (s e : Nat) => decide (16 * tol < (((s : Int) - 16 * e).natAbs : Int))
    let r := (bad a er).toNat + 2 * (bad b eg).toNat
    let m := m.modHk c fun v => { v with test := none }
    let m := m.wr HKC_STAT_STATE [c] (m.hkState c)
    let m := if r = 0 then m else m.faultN 18 (popcount 2 r) c
    (m.raise 6 0x0005 c [] [r]).maintEnd actHkTest c r
  | _ => m
def doSelftestDone (c : Nat) (s : State) : State := s.upd fun m => m.hkTestDone c
def execSelftestDone (c : Fin 2) (s : State) : Host.Outcome State Fault Refusal := .next (doSelftestDone c.val s)

/-! ### Commands -/
def anySvc (_ : Mach) (_ : HostCmd) : Svc := .any

def ciHkSeq : CmdInfo where
  op := 0xD0
  masks := [mask 6, mask 64]
  tgt := below 2
  svc := anySvc

/-- A step descriptor is within R269, R273 and R281. -/
def stepValid (w x : Nat) : Bool :=
  let avg := bits w 6 9
  let sh := bits w 15 4
  let hi : Int := bits w 32 20
  let lo : Int := bits x 0 20
  let hy : Int := bits x 32 20
  decide (bits w 0 6 ≤ 40) && decide (bits w 23 6 ≤ 40) && avg != 0 && decide (avg ≤ 256) && decide (sh ≤ 8) &&
  decide (avg ≤ 16 * 2 ^ sh) && !(bits w 20 2 == 3 && decide (hi - hy < lo + hy))

def ownHkSeq (h : HostCmd) (_ : State) : Option Nat :=
  firstOf [(!aligned64 (h.f 2 0 64) || !(List.range (h.f 1 2 4 + 1)).all fun j => stepValid (h.dat (2 * j)) (h.dat (2 * j + 1)),
    BAD_FIELD)]

/-- The sequence waits for the next pass; a stopped sequencer starts with it at once. -/
def effHkSeq (h : HostCmd) (_ : Nat) (s : State) : Mach :=
  let c := h.tgt
  let m := ((s.m.hostRead (h.word 2) (16 * (h.f 1 2 4 + 1))).wait 0xD0 h 0).modHk c fun v => { v with next := some h }
  if m.on HKC_CFG_EN [c] then m
  else
    let m := m.hkPass c
    if (m.hkst c).cur.isNone then m.hkNext c else m

def doHkSeq (h : HostCmd) (s : State) : State := runCmd ciHkSeq ownHkSeq (lift effHkSeq) h s
def execHkSeq (h : HostCmd) (s : State) : Host.Outcome State Fault Refusal := .next (doHkSeq h s)

def ciHkConvert : CmdInfo where
  op := 0xD1
  masks := [mask 6]
  tgt := below 2
  svc := anySvc
  again := true

def ownHkConvert (h : HostCmd) (_ : State) : Option Nat := firstOf [(decide (40 < h.f 1 0 6), BAD_FIELD)]
def effHkConvert (h : HostCmd) (_ : Nat) (s : State) : Mach :=
  let c := h.tgt
  let (m, ok) := s.m.hkUrgent c (h.f 1 0 6) (some h)
  if !ok then m.complete h BUSY 0
  else if (m.hkst c).cur.isNone then m.hkNext c else m

def doHkConvert (h : HostCmd) (s : State) : State := runCmd ciHkConvert ownHkConvert (lift effHkConvert) h s
def execHkConvert (h : HostCmd) (s : State) : Host.Outcome State Fault Refusal := .next (doHkConvert h s)

def ciHkSnapshot : CmdInfo where
  op := 0xD2
  masks := [mask 64]
  tgt := below 2
  svc := anySvc

def ownHkSnapshot (h : HostCmd) (_ : State) : Option Nat := firstOf [(!aligned64 (h.f 1 0 64), BAD_FIELD)]
def effHkSnapshot (h : HostCmd) (_ : Nat) (s : State) : Mach :=
  let m := s.m
  let c := h.tgt
  let ws := (List.range 17).flatMap fun j =>
    match tfind (m.hkst c).latest j with
    | some (w, t) => [w + 2 ^ 32 + (if j < 16 ∧ bit (m.rd HKC_STAT_LIMIT [c]) j then 2 ^ 33 else 0), t]
    | none => [0, 0]
  (m.hostWords (h.f 1 0 64) ws 3 h.owner).done h 17

def doHkSnapshot (h : HostCmd) (s : State) : State := runCmd ciHkSnapshot ownHkSnapshot (lift effHkSnapshot) h s
def execHkSnapshot (h : HostCmd) (s : State) : Host.Outcome State Fault Refusal := .next (doHkSnapshot h s)

def ciHkSelftest : CmdInfo where
  op := 0xD3
  masks := []
  tgt := below 2
  svc := anySvc
  again := true

def ownHkSelftest (h : HostCmd) (s : State) : Option Nat := firstOf [(s.m.runs actHkTest h.tgt, BUSY)]
def effHkSelftest (h : HostCmd) (_ : Nat) (s : State) : Mach :=
  let (m, go) := s.m.maint actHkTest h.tgt [] (some h)
  if go then m.hkTestStart h.tgt else m

def doHkSelftest (h : HostCmd) (s : State) : State := runCmd ciHkSelftest ownHkSelftest (lift effHkSelftest) h s
def execHkSelftest (h : HostCmd) (s : State) : Host.Outcome State Fault Refusal := .next (doHkSelftest h s)

end Sys2Proof.Machine
end

