-- ==== Sys2Proof/Machine/MemCtl.lean ====
section
/-! DEFINITION. The record memory controller (R290–R321): the issue of line accesses by class and age, refresh,
row-disturbance protection, correction and poison, scrub, migration, areas, self-refresh and verification. -/
namespace Sys2Proof.Machine
open Sys2Proof

/-! ### Ranks -/

/-- Rank of a channel as one number. -/
def rankId (mc r : Nat) : Nat := 4 * mc + r
/-- Codes of MEM_MC_STAT.RANK_ST. -/
def rkAbsent : Nat := 0
def rkService : Nat := 1
def rkSpare : Nat := 2
def rkRetired : Nat := 3
def Mach.rankSt (m : Mach) (mc r : Nat) : Nat := bits (m.rd MEM_MC_STAT_RANK_ST [mc]) (2 * r) 2
def Mach.setRankSt (m : Mach) (mc r v : Nat) : Mach :=
  let x := m.rd MEM_MC_STAT_RANK_ST [mc]
  m.wr MEM_MC_STAT_RANK_ST [mc] (x - bits x (2 * r) 2 * 4 ^ r + v * 4 ^ r)
/-- Rank of a channel that is an unused spare. -/
def Mach.freeSpare (m : Mach) (mc : Nat) : Option Nat :=
  if m.on MEM_MC_STAT_SPARE_USED [mc] || m.on MEM_MC_STAT_MIG [mc] then none else m.spareRank

/-- Lines of a rank of one channel (Table 10.1). -/
def Mach.rankLines (m : Mach) : Nat := m.rowsPerBank * 2048

/-! ### Refresh backlog -/
def Mach.backlog (m : Mach) (k : Nat) : Nat := tget 0 m.mem.backlog k
/-- Set a rank's backlog, shown as the largest of its channel. -/
def Mach.setBacklog (m : Mach) (k v : Nat) : Mach :=
  let m := { m with mem := { m.mem with backlog := tput 0 m.mem.backlog k v } }
  let mc := k / 4
  m.wr MEM_MC_STAT_BACKLOG [mc] ((List.range 4).foldl (fun a r => max a (m.backlog (rankId mc r))) 0)
/-- Postponement limit (Table 10.5). -/
def Mach.postLimit (m : Mach) : Nat := if m.on MEM_CFG_REF_MODE then 8 else 4

/-! ### Choosing a request (R296, R297) -/

/-- The class a request counts in: its own, or C1 once its age limit has passed. -/
def Mach.reqClass (m : Mach) (r : MemReq) : Nat :=
  if 2 ≤ r.cls ∧ r.cls ≤ 5 ∧ r.since + m.rd MEM_AGE_AGE [r.cls - 2] * usDt < m.dtime then 1 else r.cls

def Mach.mcQueue (m : Mach) (mc : Nat) : List MemReq := m.mem.queue.filter fun r => mcOf r.line == mc

/-- A request may be issued: a migration takes a line of its channel every 32 ns at most (R312). -/
def Mach.mayIssue (m : Mach) (r : MemReq) : Bool := r.src != .migrate || decide (r.since + 32 * 1024 ≤ m.dtime)

/-- The request a channel issues next: the oldest of the highest class, and before it an older request of its source to
the same line. -/
def Mach.nextReq (m : Mach) (mc : Nat) : Option MemReq :=
  let q := (m.mcQueue mc).filter m.mayIssue
  let best := q.foldl (fun (b : Option MemReq) r =>
    match b with
    | none => some r
    | some x => if m.reqClass r < m.reqClass x then some r else b) none
  best.bind fun x => q.find? fun r => r.src == x.src && r.line == x.line

def Mach.rankHasC0 (m : Mach) (mc rk : Nat) : Bool :=
  (m.mcQueue mc).any fun r => m.reqClass r == 0 && m.physRank r.line == rk

/-! ### Row-disturbance protection (R302–R304) -/

/-- Adjacency rule `i` applied to a row, where it is on. -/
def Mach.adjRule (m : Mach) (i row : Nat) : Nat :=
  let c := m.rd MEM_ADJ_COND [i]
  let k := m.rd MEM_ADJ_MASK [i]
  if c = 31 ∨ bit k c then row else if bit row c then row ^^^ k else row
def Mach.adjForward (m : Mach) (row : Nat) : Nat := [0, 1, 2, 3].foldl (fun r i => m.adjRule i r) row
def Mach.adjInverse (m : Mach) (row : Nat) : Nat := [3, 2, 1, 0].foldl (fun r i => m.adjRule i r) row

/-- Rows that the two pairs of a neighbour refresh activate: the physical neighbours one and two away. -/
def Mach.neighbours (m : Mach) (row : Nat) : List Nat :=
  let p : Int := m.adjForward row
  let l : List Int := [p - 1, p + 1, p - 2, p + 2]
  (l.filter fun (x : Int) => decide (0 ≤ x) && decide (x < (m.rowsPerBank : Int))).map fun x => m.adjInverse x.toNat

def leastCount (t : List (Nat × Nat)) : Nat :=
  match t with
  | [] => 0
  | e :: es => es.foldl (fun a x => min a x.2) e.2

/-- Count an activate in a bank's table of 16 entries; the truth value says that the row's count reached THRESH. -/
def countAct (thresh row : Nat) (t : List (Nat × Nat)) : List (Nat × Nat) × Bool :=
  let t := if t.any fun e => e.1 == row then t.map fun e => if e.1 = row then (row, e.2 + 1) else e
    else if t.length < 16 then t ++ [(row, 1)]
    else
      let l := leastCount t
      let i := t.findIdx fun e => e.2 == l
      t.set i (row, l + 1)
  match t.find? fun e => e.1 == row with
  | some e =>
    if thresh ≤ e.2 then
      (t.map fun x => if x.1 = row then (row, leastCount (t.filter fun y => y.1 != row)) else x, true)
    else (t, false)
  | none => (t, false)

/-- Activate the row of a line in its bank; a row that reaches THRESH has its neighbours refreshed. -/
def Mach.activate (m : Mach) (line : Nat) : Mach :=
  let mc := mcOf line
  let b := (mc * 4 + m.physRank line) * 32 + bankOf line
  let row := rowOf line
  let (t, hit) := countAct (m.rd MEM_RH_CFG_THRESH) row (tget [] m.mem.act b)
  let m := { m with mem := { m.mem with act := tput [] m.mem.act b t } }
  if hit then
    let m := { m with mem := { m.mem with nbr := tput [] m.mem.nbr b (m.neighbours row) } }
    let m := m.inc MEM_MC_NBR_NBR [mc]
    if m.on MEM_CFG_RFM_EN then m.inc MEM_MC_NBR_RFM [mc] else m
  else m

/-! ### Migration (R311–R313) -/

/-- The next line of a migration takes its place in the queue of its channel, one line at a time (R312). -/
def Mach.migNext (m : Mach) (mc : Nat) : Mach :=
  let p := m.rd MEM_MC_MIG_POINTER [mc]
  if m.on MEM_MC_STAT_MIG [mc] && decide (p < m.rankLines) then
    m.putReq { cls := 4, src := .migrate, line := m.rd MEM_MC_STAT_MIG_RANK [mc] * 2 ^ 32 + p * 16 + mc, data := none, since := m.dtime }
  else m

/-- A migration starts: causes 0 uncorrectable, 1 fault action, 2 command. -/
def Mach.migStart (m : Mach) (mc r cause : Nat) : Mach :=
  let m := m.wrs [(MEM_MC_STAT_MIG, [mc], 1), (MEM_MC_STAT_MIG_RANK, [mc], r), (MEM_MC_MIG_POINTER, [mc], 0)]
  let m := { m with mem := { m.mem with migSince := tins m.mem.migSince mc m.dtime } }
  (m.raise 7 0x0002 mc [] [r, cause]).migNext mc

/-- A channel's migration asks for no further line. -/
def Mach.migForget (m : Mach) (mc : Nat) : Mach :=
  { m with mem := { m.mem with migSince := tdel m.mem.migSince mc,
                               queue := m.mem.queue.filter fun r => !(r.src == .migrate && mcOf r.line == mc) } }

/-- Request the migration of a rank (R311).  Without an unused spare a request that no command made raises SPARE_NONE. -/
def Mach.migRequest (m : Mach) (mc r cause : Nat) : Mach :=
  if m.on MEM_MC_STAT_MIG [mc] && m.rd MEM_MC_STAT_MIG_RANK [mc] == r then m
  else match m.freeSpare mc with
    | none => (m.fault 39).raise 7 0x0004 mc [] [r]
    | some _ =>
      let (m, go) := m.maint actMigrate mc [r, cause] none
      if go then m.migStart mc r cause else m

/-- The spare takes over: a migration completes, or memory has lost the areas (R312, R313). -/
def Mach.migFinish (m : Mach) (mc : Nat) : Mach :=
  if m.on MEM_MC_STAT_MIG [mc] then
    let r := m.rd MEM_MC_STAT_MIG_RANK [mc]
    let ms := (m.dtime - tget m.dtime m.mem.migSince mc) / msDt
    let m := m.wrs [(MEM_MC_STAT_MIG, [mc], 0), (MEM_MC_MIG_POINTER, [mc], m.rankLines),
                    (MEM_MC_STAT_SPARE_USED, [mc], 1), (MEM_MC_STAT_SPARE_FOR, [mc], r)]
    let m := m.setRankSt mc r rkRetired
    let m := match m.spareRank with | some sp => m.setRankSt mc sp rkService | none => m
    ((m.migForget mc).raise 7 0x0003 mc [ms] [r]).maintEnd actMigrate mc ms
  else m

/-! ### Correction and poison (R308, R309) -/

/-- Count in one byte of a field of four, one for each rank; it saturates. -/
def Mach.incRank (m : Mach) (F : Fld) (mc rk : Nat) : Mach :=
  let x := m.rd F [mc]
  if bits x (8 * rk) 8 = 255 then m else m.wr F [mc] (x + 2 ^ (8 * rk))

/-- A corrected read; the line's corrected content stays where it is. -/
def Mach.memCe (m : Mach) (line : Nat) : Mach :=
  let mc := mcOf line
  let rk := m.physRank line
  (m.incRank MEM_MC_CE_COUNT mc rk).fault (20 + mc) rk

/-- The slot of a pricking entry holds an address, and the entry does not carry ECC_POISON. -/
def Mach.prkHolds (m : Mach) (w : List Nat) (addr : Nat) : Bool :=
  let from_ := bits (w.getD 0 0) 0 40
  let w2 := w.getD 2 0
  bits (w.getD 0 0) 40 24 != 0xFFFFFF && !bit w2 41 && !bit w2 40 && decide (from_ ≤ addr) &&
    decide (addr < from_ + m.slotSize (bits w2 24 4))

/-- Entries of the pricking table whose slot holds an address gain ECC_POISON, and their CHECK is made again. -/
def Mach.prkPoison (m : Mach) (addr : Nat) : Mach :=
  let prk := m.cap.prk.map fun e =>
    if m.prkHolds e.2 addr then (e.1, prkSeal (e.2.set 2 (e.2.getD 2 0 + fPoison * 2 ^ 32))) else e
  { m with cap := { m.cap with prk := prk } }

/-- An uncorrectable read of a line: count, latch, report, and request a migration (R309, R311, R316). -/
def Mach.memUe (m : Mach) (line comp : Nat) : Mach :=
  let mc := mcOf line
  let rk := m.physRank line
  let addr := 64 * line
  let m := m.incRank MEM_MC_UE_COUNT mc rk
  let m := m.wrs [(MEM_MC_ERR, [mc], addr), (MEM_MC_ERR_HI_DEVICE, [mc], comp)]
  let m := m.raise 7 0x0001 mc [addr] [comp]
  let area := m.areaAt addr
  let m := match area with | some a => m.inc MEM_AREA_PCNT_VALUE [a] | none => m
  let m := match area with
    | some a => if m.areaType a = areaRecord then m.prkPoison addr else m
    | none => m
  let gone := (area.map m.areaInvalid).getD false
  if gone then m else (m.fault 36 mc).migRequest mc rk 0

/-- Read a line: the outcome of its correction. -/
def State.readLine (s : State) (line : Nat) (ecc : MemEcc) : State :=
  if s.dram.isPoison line then s
  else match ecc with
    | .ok => s
    | .corrected => { s with m := s.m.memCe line }
    | .uncorrectable c => { s with dram := s.dram.spoil line, m := s.m.memUe line c.val }

/-! ### Areas (R314, R315) -/

/-- Zeros over an area, whose INVALID and poison count clear; the command completes with the time taken, in µs. -/
def State.clearArea (s : State) (a : Nat) : State :=
  let lo := s.m.areaBase a
  let m := s.m.wrs [(MEM_AREA_CFG_INVALID, [a], 0), (MEM_AREA_PCNT_VALUE, [a], 0)]
  let m := (m.waitsOf 0x92 a).foldl (fun m w => m.complete w.h DONE ((m.dtime - w.at_) / usDt)) (m.unwait 0x92 a)
  { s with dram := s.dram.clear lo (lo + s.m.areaSize a), m := m }

/-! ### One access -/

/-- Take a request off the queue. -/
def Mach.takeReq (m : Mach) (r : MemReq) : Mach := { m with mem := { m.mem with queue := m.mem.queue.erase r } }

/-- Issue a request; a write of a part of a line reads the line first, and a line that does not read stays poisoned (R295); the
line of a migration is copied (R312). -/
def State.issue (s : State) (r : MemReq) (ecc : MemEcc) : State :=
  let s := { s with m := s.m.takeReq r }
  match r.clear, r.data with
  | some a, _ => s.clearArea a
  | none, some bs =>
    match r.part with
    | some o =>
      let s := s.readLine r.line ecc
      { s with dram := s.dram.writeLine r.line (patch (readCells s.dram.cells (64 * r.line) 64) o bs) (s.dram.isPoison r.line) }
    | none =>
      let s := { s with dram := s.dram.writeLine r.line bs r.poison }
      match r.src with
      | .acc t => if r.cls = 3 then { s with m := s.m.accClearDone t } else s
      | _ => s
  | none, none =>
    let s := s.readLine r.line ecc
    if r.src = .migrate then { s with m := (s.m.add MEM_MC_MIG_POINTER [mcOf r.line] 1).migNext (mcOf r.line) } else s

/-- Before an access: the channel leaves self-refresh, postponed refreshes go ahead of C1–C5, and the row is activated. -/
def Mach.preAccess (m : Mach) (mc line cls : Nat) : Mach :=
  let m := m.wr MEM_MC_STAT_SR [mc] 0
  let rk := m.physRank line
  let m := if cls != 0 && !m.rankHasC0 mc rk then m.setBacklog (rankId mc rk) 0 else m
  m.activate line

/-- One line access of a channel (R296): the next request, and with none queued a read of the line that the event names. -/
def State.memAccess (s : State) (mc rd : Nat) (ecc : MemEcc) : State :=
  if !s.m.memOk then s
  else match s.m.nextReq mc with
    | some r => { s with m := s.m.preAccess mc r.line (s.m.reqClass r) }.issue r ecc
    | none =>
      let line := rd / 16 * 16 + mc
      if s.m.rankUsable (rankOf line) && decide (64 * line < s.m.rankEnd (rankOf line)) then
        { s with m := s.m.preAccess mc line 3 }.readLine line ecc
      else s

def doMemAccess (mc : Nat) (rd : Nat) (ecc : MemEcc) (s : State) : State := s.memAccess mc rd ecc
def execMemAccess (mc : Fin 16) (rd : Nat) (ecc : MemEcc) (s : State) : Host.Outcome State Fault Refusal :=
  .next (doMemAccess mc.val rd ecc s)

/-! ### Refresh events -/

/-- A refresh of a rank falls due (R300): postponed while C0 requests keep the rank busy or a catch-up burst will make it
up, forced at the limit, else issued. -/
def Mach.refreshDue (m : Mach) (mc rk : Nat) : Mach :=
  let k := rankId mc rk
  if !m.memOk || m.on MEM_MC_STAT_SR [mc] || !decide (rk < m.ranks) then m
  else if m.rankHasC0 mc rk then
    if m.backlog k < m.postLimit then
      { m with mem := { m.mem with forced := m.mem.forced.filter (· != k) } }.setBacklog k (m.backlog k + 1)
    else
      let first := !m.mem.forced.contains k
      let m := (m.inc MEM_MC_FORCED_FORCED [mc]).fault 37 mc
      let m := { m with mem := { m.mem with forced := sins m.mem.forced k } }
      if first then m.raise 7 0x0005 mc [] [rk] else m
  else
    let m := { m with mem := { m.mem with forced := m.mem.forced.filter (· != k) } }
    if m.runs actCatchUp k then m.setBacklog k (min (m.backlog k + 1) m.postLimit) else m
def doRefreshDue (mc rk : Nat) (s : State) : State := s.upd fun m => m.refreshDue mc rk
def execRefreshDue (mc : Fin 16) (rank : Fin 4) (s : State) : Host.Outcome State Fault Refusal :=
  .next (doRefreshDue mc.val rank.val s)

/-- A rank has been idle for 100 ns (R301). -/
def Mach.catchUp (m : Mach) (mc rk : Nat) : Mach :=
  let k := rankId mc rk
  if !m.memOk || m.backlog k == 0 || m.runs actCatchUp k || m.waiting actCatchUp k ||
      (m.mcQueue mc).any fun r => m.physRank r.line == rk then m
  else (m.maint actCatchUp k [] none).1
def doRefreshCatchUp (mc rk : Nat) (s : State) : State := s.upd fun m => m.catchUp mc rk
def execRefreshCatchUp (mc : Fin 16) (rank : Fin 4) (s : State) : Host.Outcome State Fault Refusal :=
  .next (doRefreshCatchUp mc.val rank.val s)

/-- A poll of the refresh-rate indication (R299): the channels whose components ask for doubled refresh. -/
def doRefreshRatePoll (ask : Nat) (s : State) : State :=
  s.upd fun m => { m with mem := { m.mem with doubled := bitList 16 ask } }
def execRefreshRatePoll (ask : BitVec 16) (s : State) : Host.Outcome State Fault Refusal :=
  .next (doRefreshRatePoll ask.toNat s)

/-- tREFI of a channel, in units of 10 ns (Table 10.5, R299). -/
def Mach.trefi (m : Mach) (mc : Nat) : Nat :=
  (if m.on MEM_CFG_REF_MODE then 195 else 390) / (if m.mem.doubled.contains mc then 2 else 1)

/-- The refresh window ends (R302). -/
def doActTableClear (s : State) : State := s.upd fun m => { m with mem := { m.mem with act := [] } }
def execActTableClear (s : State) : Host.Outcome State Fault Refusal := .next (doActTableClear s)

/-! ### Scrub (R310) -/

/-- Lines of one channel that a pass reads. -/
def Mach.passLines (m : Mach) : Nat :=
  ((List.range 4).filter m.rankUsable).length * ((m.rowsPerBank - 1) * 2048)

/-- A usable line of a channel's own numbering at or after `l`; past the last the pass starts again. -/
def Mach.scrubWrap (m : Mach) (l : Nat) : Nat :=
  let r := l / 2 ^ 28
  if m.rankUsable r && decide (l % 2 ^ 28 < (m.rowsPerBank - 1) * 2048) then l
  else match ((List.range 4).filter m.rankUsable).find? fun x => decide (r < x) with
    | some x => x * 2 ^ 28
    | none => 0

/-- A scrub step reads 64 lines at class C4. -/
def Mach.scrubStart (m : Mach) (mc : Nat) : Mach :=
  let l := m.scrubWrap (tget 0 m.mem.scrubAt mc)
  let m := { m with mem := { m.mem with scrubAt := tput 0 m.mem.scrubAt mc l } }
  let m := each (List.range 64) (fun m i =>
    m.putReq { cls := 4, src := .scrub, line := (l + i) * 16 + mc, data := none, since := m.dtime }) m
  let left := tget 0 m.mem.fast mc - 64
  { m with mem := { m.mem with fast := tput 0 m.mem.fast mc left } }

/-- Show whether a fast pass runs. -/
def Mach.fastShow (m : Mach) : Mach := m.wb MEM_SCRUB_CFG_RUNNING [] (!m.mem.fast.isEmpty)

/-- Request a scrub step of a channel, for a command or none. -/
def Mach.scrubRequest (m : Mach) (mc : Nat) : Mach :=
  if !m.memOk || m.runs actScrub mc then m
  else
    let (m, go) := m.maint actScrub mc [] none
    if go then (m.scrubStart mc).fastShow else m

def doDramScrubStep (mc : Nat) (s : State) : State :=
  s.upd fun m => if m.rd MEM_SCRUB_CFG_HOURS = 0 ∧ tget 0 m.mem.fast mc = 0 then m else m.scrubRequest mc
def execDramScrubStep (mc : Fin 16) (s : State) : Host.Outcome State Fault Refusal := .next (doDramScrubStep mc.val s)

/-- The next step of a channel starts behind the lines of the one that ends. -/
def Mach.scrubNext (m : Mach) (mc : Nat) : Mach :=
  if m.runs actScrub mc then
    { m with mem := { m.mem with scrubAt := tput 0 m.mem.scrubAt mc (m.scrubWrap (tget 0 m.mem.scrubAt mc + 64)) } }
  else m

/-- The step of a channel ends when its reads have been issued; a fast pass goes on with its next step. -/
def Mach.scrubEnd (m : Mach) (mc : Nat) : Mach :=
  if (m.mcQueue mc).any fun r => r.src == .scrub then m
  else
    let m := (m.scrubNext mc).maintEnd actScrub mc 0
    if tget 0 m.mem.fast mc = 0 then m.fastShow else m.scrubRequest mc

/-- Start one fast pass over every channel. -/
def Mach.fastPass (m : Mach) : Mach :=
  let m := { m with mem := { m.mem with fast := (List.range 16).map fun mc => (mc, m.passLines) } }
  let m := { m with mem := { m.mem with fast := if m.passLines = 0 then [] else m.mem.fast } }
  each (List.range 16) (fun m mc => m.scrubRequest mc) m.fastShow

/-! ### Migration, self-refresh and verification events -/
def doMigDone (mc : Nat) (s : State) : State := s.upd fun m => if m.memOk then m.migFinish mc else m
def execMigDone (mc : Fin 16) (s : State) : Host.Outcome State Fault Refusal := .next (doMigDone mc.val s)

/-- A channel has been idle for IDLE_US µs (R317). -/
def Mach.srEnter (m : Mach) (mc : Nat) : Mach :=
  if !m.memOk || m.rd MEM_SR_CFG_IDLE_US == 0 || m.rd CAP_COMMIT_COMMIT != 0 || m.mirroring || !(m.mcQueue mc).isEmpty then m
  else (each (List.range 4) (fun m r => m.setBacklog (rankId mc r) 0) m).wr MEM_MC_STAT_SR [mc] 1
def doSelfRefreshIdle (mc : Nat) (s : State) : State := s.upd fun m => m.srEnter mc
def execSelfRefreshIdle (mc : Fin 16) (s : State) : Host.Outcome State Fault Refusal := .next (doSelfRefreshIdle mc.val s)

/-- Rank and lane map that the event reports for a channel. -/
def mapOf (maps : List (Nat × Nat)) (mc : Nat) : Nat := tget 0 maps mc

/-- The result of a verification (R306): failing channels of those asked are marked and reported; all sixteen channels
clear make memory AVAILABLE. -/
def Mach.verifyResult (m : Mach) (asked pass : Nat) (maps : List (Nat × Nat)) : Mach :=
  let fail := (bitList 16 asked).filter fun mc => !bit pass mc
  let m := m.wr MEM_STAT_VFAIL [] (orAll (fail.map (2 ^ ·)) + (m.rd MEM_STAT_VFAIL &&& (0xFFFF ^^^ (asked % 65536))))
  let m := each fail (fun m mc => (m.fault 38 mc).raise 7 0x0006 mc [mapOf maps mc] []) m
  m.wr MEM_STAT_STATE [] (if m.rd MEM_STAT_VFAIL = 0 then memAvailable else memFailed)

/-- Channels that pass, of those asked. -/
def passing (asked pass : Nat) : Nat := asked &&& pass

/-! ### Area commands -/

/-- Areas as the accepted commands leave them: number, base, size. -/
def Mach.areasSoon (m : Mach) : List (Nat × Nat × Nat) :=
  let now := ((List.range 256).filter fun a => m.areaType a != 0).map fun a => (a, m.areaBase a, m.areaSize a)
  m.hif.changes.foldl (fun l c => match c.2 with
    | .cmd 0x90 h => l ++ [(h.tgt, h.f 2 0 40, h.f 3 0 41)]
    | .cmd 0x91 h => l.filter fun x => x.1 != h.tgt
    | _ => l) now

def ciAreaCreate : CmdInfo where
  op := 0x90
  masks := [mask 3, mask 40, mask 41]
  tgt := below 256

def ownAreaCreate (h : HostCmd) (s : State) : Option Nat :=
  let ty := h.f 1 0 3
  let base := h.f 2 0 40
  let size := h.f 3 0 41
  let l := s.m.areasSoon
  firstOf [(l.any fun x => x.1 == h.tgt, WRONG_STATE),
           (ty == 0 || decide (5 < ty) || base % 65536 != 0 || size % 65536 != 0 || size == 0, BAD_FIELD),
           (!s.m.rangeUsable base (base + size) || l.any fun x => decide (base < x.2.1 + x.2.2) && decide (x.2.1 < base + size),
            NO_AREA),
           (!s.m.memOk, CLOCK_INVALID)]

def applyAreaCreate (h : HostCmd) (m : Mach) : Mach :=
  m.wrs [(MEM_AREA_CFG_TYPE, [h.tgt], h.f 1 0 3), (MEM_AREA_CFG_INVALID, [h.tgt], 0),
         (MEM_AREA_BASE_VALUE, [h.tgt], h.f 2 0 40 / 65536), (MEM_AREA_SIZE_VALUE, [h.tgt], h.f 3 0 41 / 65536),
         (MEM_AREA_PCNT_VALUE, [h.tgt], 0)]

def doAreaCreate (h : HostCmd) (s : State) : State := runCmd ciAreaCreate ownAreaCreate (lift (later 0x90)) h s
def execAreaCreate (h : HostCmd) (s : State) : Host.Outcome State Fault Refusal := .next (doAreaCreate h s)

/-- A generator's staging area, or the area of a stored segment of it. -/
def Mach.genUses (m : Mach) (g a : Nat) : Bool :=
  (m.on GEN_STG_AREA_BOUND [g] && m.rd GEN_STG_AREA_AREA [g] == a) ||
  m.gen.segs.any fun e => e.1 / 1024 == g && segType e.2 == 0 && segArea e.2 == a

/-- An area is bound to something that runs (R315). -/
def Mach.areaHeld (m : Mach) (a : Nat) : Bool :=
  (allSets.any fun s =>
    (activeSt (m.setState s) || (m.pset s).armAt.isSome) &&
      (m.rd CAP_SET_BIND_AREA [s] == a || (m.mode s == 2 && m.accDram s && m.rd ACC_SET_BIND_AREA [s] == a))) ||
  (allStr.any fun i => m.lruns i && m.rd LOG_RING_CFG_AREA [m.lringOf i] == a) ||
  (allGen.any fun g => m.genUses g a &&
    !(m.gstate g == gIdle || m.gstate g == gDone || m.gstate g == gStopped))

def ciAreaDestroy : CmdInfo where
  op := 0x91
  masks := []
  tgt := below 256
def ownAreaDestroy (h : HostCmd) (s : State) : Option Nat :=
  firstOf [(s.m.areaType h.tgt != 0 && s.m.areaHeld h.tgt, BUSY)]
def applyAreaDestroy (h : HostCmd) (m : Mach) : Mach :=
  m.wrs [(MEM_AREA_CFG_TYPE, [h.tgt], 0), (MEM_AREA_CFG_INVALID, [h.tgt], 0), (MEM_AREA_BASE_VALUE, [h.tgt], 0),
         (MEM_AREA_SIZE_VALUE, [h.tgt], 0), (MEM_AREA_PCNT_VALUE, [h.tgt], 0)]
def doAreaDestroy (h : HostCmd) (s : State) : State := runCmd ciAreaDestroy ownAreaDestroy (lift (later 0x91)) h s
def execAreaDestroy (h : HostCmd) (s : State) : Host.Outcome State Fault Refusal := .next (doAreaDestroy h s)

def ciAreaClear : CmdInfo where
  op := 0x92
  masks := []
  tgt := below 256
def ownAreaClear (h : HostCmd) (s : State) : Option Nat :=
  firstOf [(s.m.areaType h.tgt == 0, NO_AREA), (s.m.areaHeld h.tgt, BUSY), (!s.m.memOk, CLOCK_INVALID)]
def effAreaClear (h : HostCmd) (due : Nat) (s : State) : Mach := (s.m.at_ due (.cmd 0x92 h)).wait 0x92 h s.m.dtime
def applyAreaClear (h : HostCmd) (m : Mach) : Mach :=
  m.putReq { cls := 3, src := .other, line := m.areaBase h.tgt / 64, data := none, since := m.dtime, clear := some h.tgt }
def doAreaClear (h : HostCmd) (s : State) : State := runCmd ciAreaClear ownAreaClear (lift effAreaClear) h s
def execAreaClear (h : HostCmd) (s : State) : Host.Outcome State Fault Refusal := .next (doAreaClear h s)

/-! ### Controller commands -/
def ciMemScrub : CmdInfo where
  op := 0x93
  masks := [mask 1 + mask 8 * 2 ^ 8]
  tgt := tgt0
  again := true
/-- HOURS applies at the boundary; a fast pass is requested at acceptance, and a channel's deferred first step answers
DEFERRED. -/
def effMemScrub (h : HostCmd) (due : Nat) (s : State) : Mach :=
  let m := s.m.at_ due (.cmd 0x93 h)
  if h.b 1 0 then
    let held := (List.range 16).any fun mc => (m.blocker actScrub mc).isSome
    m.fastPass.complete h (if held then DEFERRED else DONE) due
  else m.done h due
def applyMemScrub (h : HostCmd) (m : Mach) : Mach := m.wr MEM_SCRUB_CFG_HOURS [] (h.f 1 8 8)
def doMemScrub (h : HostCmd) (s : State) : State := runCmd ciMemScrub (fun _ _ => none) (lift effMemScrub) h s
def execMemScrub (h : HostCmd) (s : State) : Host.Outcome State Fault Refusal := .next (doMemScrub h s)

def ciMemMigrate : CmdInfo where
  op := 0x94
  masks := [mask 2]
  tgt := below 16
/-- WRONG_STATE without an unused spare, or for a rank that is not in service (R311). -/
def ownMemMigrate (h : HostCmd) (s : State) : Option Nat :=
  firstOf [((s.m.freeSpare h.tgt).isNone && !s.m.waiting actMigrate h.tgt || s.m.rankSt h.tgt (h.f 1 0 2) != rkService,
            WRONG_STATE)]
def effMemMigrate (h : HostCmd) (_ : Nat) (s : State) : Mach :=
  let (m, go) := s.m.maint actMigrate h.tgt [h.f 1 0 2, 2] (some h)
  if go then m.migStart h.tgt (h.f 1 0 2) 2 else m
def doMemMigrate (h : HostCmd) (s : State) : State := runCmd ciMemMigrate ownMemMigrate (lift effMemMigrate) h s
def execMemMigrate (h : HostCmd) (s : State) : Host.Outcome State Fault Refusal := .next (doMemMigrate h s)

def ciMemPasr : CmdInfo where
  op := 0x95
  masks := [mask 32]
  tgt := tgt0
def ownMemPasr (h : HostCmd) (s : State) : Option Nat := firstOf [(h.f 1 0 32 / 2 ^ (8 * s.m.ranks) != 0, BAD_FIELD)]
def effMemPasr (h : HostCmd) (_ : Nat) (s : State) : Mach := (s.m.wr MEM_PASR_MASK [] (h.f 1 0 32)).done h 0
def doMemPasrSet (h : HostCmd) (s : State) : State := runCmd ciMemPasr ownMemPasr (lift effMemPasr) h s
def execMemPasrSet (h : HostCmd) (s : State) : Host.Outcome State Fault Refusal := .next (doMemPasrSet h s)

def ciMemSr : CmdInfo where
  op := 0x96
  masks := [mask 16]
  tgt := tgt0
def applyMemSr (h : HostCmd) (m : Mach) : Mach := m.wr MEM_SR_CFG_IDLE_US [] (h.f 1 0 16)
def doMemSrSet (h : HostCmd) (s : State) : State := runCmd ciMemSr (fun _ _ => none) (lift (later 0x96)) h s
def execMemSrSet (h : HostCmd) (s : State) : Host.Outcome State Fault Refusal := .next (doMemSrSet h s)

def ciMemAge : CmdInfo where
  op := 0x97
  masks := [mask 64]
  tgt := tgt0
def ownMemAge (h : HostCmd) (_ : State) : Option Nat :=
  firstOf [([0, 16, 32, 48].any fun b => h.f 1 b 16 == 0, BAD_FIELD)]
def applyMemAge (h : HostCmd) (m : Mach) : Mach :=
  m.wrs ((List.range 4).map fun i => (MEM_AGE_AGE, [i], h.f 1 (16 * i) 16))
def doMemAgeSet (h : HostCmd) (s : State) : State := runCmd ciMemAge ownMemAge (lift (later 0x97)) h s
def execMemAgeSet (h : HostCmd) (s : State) : Host.Outcome State Fault Refusal := .next (doMemAgeSet h s)

def ciMemVerify : CmdInfo where
  op := 0x98
  masks := [mask 16]
  tgt := tgt0
  svc m _ := if m.dev = .basting then .any else .full
def ownMemVerify (_ : HostCmd) (s : State) : Option Nat :=
  firstOf [(s.m.rd TBS_STATUS_MPLL_ST != pllLocked, CLOCK_INVALID),
           (s.m.rd MEM_STAT_STATE != memUnavailable && s.m.rd MEM_STAT_STATE != memFailed, WRONG_STATE)]
def effMemVerify (h : HostCmd) (_ : Nat) (s : State) : Mach :=
  let m := s.m.wr MEM_STAT_STATE [] memVerifying
  { m with mem := { m.mem with verifying := h.f 1 0 16 } }.wait 0x98 h 0
def doMemVerify (h : HostCmd) (s : State) : State := runCmd ciMemVerify ownMemVerify (lift effMemVerify) h s
def execMemVerify (h : HostCmd) (s : State) : Host.Outcome State Fault Refusal := .next (doMemVerify h s)

end Sys2Proof.Machine
end

