-- ==== Sys2Proof/Machine/Hoop.lean ====
section
/-! DEFINITION. The Hoop (R377–R400): its regions and digests, seal transitions, commits, the audit log, the verification
window and its requests. -/
namespace Sys2Proof.Machine
open Sys2Proof

/-! ### Regions (Table 13.1) -/

/-- The 32-bit registers of regions 1, 3, 4 and 6 in ascending offset order, and the register part of regions 2 and 5: index
lists with the fields they share. -/
def rgnRegs (r : Nat) : List (List Nat × List Fld) :=
  match r with
  | 1 => (List.range 256).flatMap fun s =>
      [([s], [TIL_SLICE_BAND_A_OFF_BAND, TIL_SLICE_BAND_A_GAIN_BAND]), ([s], [TIL_SLICE_BAND_B_DLY_BAND, TIL_SLICE_BAND_B_BW_BAND])]
  | 2 => (List.range 4).map fun t => ([t], [TIL_TEMP_GRID_BASE, TIL_TEMP_GRID_STEP])
  | 3 => ((List.range 64).map fun n => ([n], [TIL_CHK_ALIGN_ALIGN])) ++
      [([], [TIL_CHK_TOL_TOL_PCT, TIL_CHK_TOL_TOL_LSB]), ([], [TIL_CHK_WIN_CHK_WIN, TIL_CHK_WIN_CHK_THR])]
  | 4 => (List.range 4).flatMap fun k => (List.range 8).map fun j => ([k, j], [TRG_INTERP_KC])
  | 5 => [([0], [HKC_CAL_OFFSET, HKC_CAL_GAIN]), ([1], [HKC_CAL_OFFSET, HKC_CAL_GAIN]), ([], [HKC_VCHK_TOL_VCHK_TOL])]
  | 6 => [([], [TBS_CFG_SRC, TBS_CFG_REALIGN, TBS_CFG_QUAL, TBS_CFG_TPLL_BW, TBS_CFG_HOLD_AVG, TBS_CFG_PBO_THR]),
          ([], [TBS_REF_FREQ_REF_FREQ]), ([], [TBS_PPS_DELAY_PPS_DELAY])]
  | _ => []

/-- The region that a sealed register belongs to, by its offset. -/
def rgnOf (addr : Nat) : Nat :=
  if addr < 0x201000 then 3 else if addr < 0x203000 then 1 else if addr < 0x204000 then 2
  else if addr < 0x400000 then 3 else if addr < 0x500000 then 6 else if addr < 0xA00000 then 4 else 5

/-- Stored value of a sealed field. -/
def Mach.stRd (m : Mach) (F : Fld) (ix : List Nat) : Nat := (tfind m.hoop.stored (F.key ix)).getD (F.rst ix)

/-- Live or stored value of a sealed field. -/
def Mach.hrd (m : Mach) (live : Bool) (F : Fld) (ix : List Nat) : Nat := if live then m.rd F ix else m.stRd F ix

/-- The words of a region's registers. -/
def Mach.rgnWords (m : Mach) (live : Bool) (r : Nat) : List Nat :=
  (rgnRegs r).map fun p => p.2.foldl (fun a F => a + m.hrd live F p.1 <<< F.lsb) 0

/-- A table entry as its five fields, two bytes each (R47). -/
def coefBytes (c : Coef) : List (BitVec 8) := c.list.flatMap fun v => toBytes 2 (enc 16 v)
/-- The check of a table entry (R47). -/
def coefCheck (c : Coef) : Nat := crc16 (coefBytes c)

/-- The stored table, or the table that the next temperature boundary brings into use. -/
def Mach.tableNow (m : Mach) (live : Bool) : List (Nat × Coef) := if live then m.smp.tableDue.getD m.smp.table else m.hoop.table

/-- Divider trims and expected codes, as region 5 lists them (R393). -/
def Mach.hkCalWords (m : Mach) : List Nat :=
  ([0, 1].flatMap fun c => (List.range 14).map fun i => tget 0 m.hk.dividers (14 * c + i)) ++
    [0, 1].flatMap fun c => let e := tget (52429, 0) m.hk.expect c; [e.1, e.2]

/-- The canonical content of a region (R393). -/
def Mach.rgnBytes (m : Mach) (live : Bool) (r : Nat) : List (BitVec 8) :=
  let regs := (m.rgnWords live r).flatMap (toBytes 4)
  match r with
  | 2 => ((List.range 8192).flatMap fun i =>
      let c := tget {} (m.tableNow live) i
      coefBytes c ++ toBytes 2 (coefCheck c)) ++ regs
  | 5 => regs ++ m.hkCalWords.flatMap (toBytes 4)
  | 7 => m.hoop.image
  | _ => regs

def Mach.rgnDigest (m : Mach) (live : Bool) (r : Nat) : Nat := digest64 (m.rgnBytes live r)

/-- The device digest over the region digests 1 to 7, most significant byte first (R393). -/
def Mach.devDigest (m : Mach) (live : Bool) : Nat :=
  digest64 ((List.range 7).flatMap fun i => (toBytes 8 (m.rgnDigest live (i + 1))).reverse)

/-! ### Live, stored and dirty -/
def Mach.dirty (m : Mach) (r : Nat) : Bool := bit (m.rd HOOP_STAT_DIRTY) (r - 1)
def Mach.setDirty (m : Mach) (r : Nat) (b : Bool) : Mach := m.wr HOOP_STAT_DIRTY [] (setBit (m.rd HOOP_STAT_DIRTY) (r - 1) b)
def Mach.dirtyRgns (m : Mach) : List Nat := ((List.range 7).map (· + 1)).filter m.dirty

/-- Store the live values of a region: region 2 with the staging copy as its table (R50, R387). -/
def Mach.storeRgn (m : Mach) (r : Nat) : Mach :=
  let st := (rgnRegs r).foldl (fun st p => p.2.foldl (fun st F => tput (F.rst p.1) st (F.key p.1) (m.rd F p.1)) st) m.hoop.stored
  let m := { m with hoop := { m.hoop with stored := st } }
  let m := if r = 2 then
      { m with hoop := { m.hoop with table := m.smp.staging }, smp := { m.smp with tableDue := some m.smp.staging, fgDue := m.smp.fgDue ++ m.smp.fgStaged,
                                                                                    fgStaged := [] } }
    else m
  m.setDirty r false

/-- A write to an RWH field that waits for its boundary, by the region it is for. -/
def rwhOf (r : Nat) : Nat × Change → Bool
  | (_, .rwh a _) => rgnOf a == r
  | _ => false

/-- Put back the stored values of a region; a write that has not taken effect yet is reverted with them. -/
def Mach.revertRgn (m : Mach) (r : Nat) : Mach :=
  let m := { m with hif := { m.hif with changes := m.hif.changes.filter fun x => !rwhOf r x } }
  let m := (rgnRegs r).foldl (fun m p => p.2.foldl (fun m F => m.wr F p.1 (m.stRd F p.1)) m) m
  m.setDirty r false

/-! ### Transitions (Table 13.2) -/
def fuseSteps : Nat := 1024
def Seal.left (v : Seal) : Nat := fuseSteps - v.fuseUsed

/-- Burn one fuse step, where one is left; the store's epoch follows (R394). -/
def State.burn (s : State) : State :=
  if s.hoopSeal.left = 0 then s
  else
    let u := s.hoopSeal.fuseUsed + 1
    let left := fuseSteps - u
    let m := s.m.wrs [(HOOP_FUSE_FUSE_USED, [], u), (HOOP_FUSE_EPOCH, [], u),
      (HOOP_STAT_FUSE_LOW, [], (decide (left ≤ 24)).toNat), (HOOP_STAT_FUSE_EXHAUSTED, [], (left == 0).toNat)]
    let m := if left = 24 then m.raise 9 0x0008 0 [] [left] else m
    { s with hoopSeal := { s.hoopSeal with fuseUsed := u }, m := m }

/-- CHANGE and STATE entries are in flash before what they record takes effect (R390). -/
def Mach.flushed (m : Mach) : Mach := { m with hoop := { m.hoop with unflushed := 0 } }

/-- A transition of the seal: the STATE entry with its fuse step, the registers, events, alerts and messages
(R381, R383, R384, R397). -/
def State.sealTo (s : State) (dest : SealSt) (cause source t : Nat) (reverted : Bool) : State :=
  let s := s.burn
  let interval := match dest with | .broken => true | .sealed => false | .opened => s.hoopSeal.brokenInterval
  let v := { s.hoopSeal with st := dest, cause := if dest = .broken then cause else s.hoopSeal.cause, brokenInterval := interval }
  let m := s.m
  let m := m.wrs [(HOOP_STAT_STATE, [], dest.code), (HOOP_STAT_BROKEN_CAUSE, [], v.cause), (HOOP_STATE_T, [], t),
                  (HOOP_STATE_EP_EPOCH, [], m.epoch)]
  let m := if dest = .opened then m.wr HOOP_STAT_UNSEAL_PEND [] 0 else m
  let m := (m.auditAt t dest auState source cause reverted.toNat (m.devDigest false)).flushed
  let m := (m.raiseAt t 9 0x0001 0 [] [dest.code, cause]).alert HIF_ALERT_STAT_HOOP_STATE
  let m := (m.wb HIF_ALERT_STAT_HOOP_BROKEN [] (dest == .broken)).alertEval
  let m := m.msix1 0
  let m := if dest = .broken then (m.raiseAt t 9 0x0002 0 [] [cause]).msix1 1 else m
  { s with hoopSeal := v, m := m }

/-- The log can take a commit (R391). -/
def Mach.logTakes (m : Mach) : Bool := decide (m.logUsed < 8128)

/-! ### Firmware images (R389) -/

/-- The image carries a valid vendor signature (R389): a property of its bytes that the spec leaves to the vendor's key. -/
def imageSigned (bytes : List (BitVec 8)) : Bool := Config.freeFn 1 (bytes.map fun (b : BitVec 8) => (b.toNat : Int)) % 2 == 1
/-- The version that an image's bytes carry, in a form the spec does not give. -/
def imageVersion (bytes : List (BitVec 8)) : Nat := (Config.freeFn 2 (bytes.map fun (b : BitVec 8) => (b.toNat : Int)) % 2 ^ 32).toNat


/-! ### Commits (R387, R388) -/
def Mach.committing (m : Mach) : Bool := !m.hoop.commits.isEmpty

/-- Start a commit, after those that run. -/
def Mach.commit (m : Mach) (regions : List Nat) (op : Nat) (cmd : Option HostCmd) : Mach :=
  { m with hoop := { m.hoop with commits := m.hoop.commits ++ [Commit.mk regions op cmd] } }.wr HOOP_STAT_COMMIT_BUSY [] 1

/-- Seal by strap: dirty regions are committed first, or revert when the log cannot take them (R382). -/
def State.strapSeal (s : State) (source t : Nat) : State :=
  let d := s.m.dirtyRgns
  if d.isEmpty then s.sealTo .sealed 2 source t false
  else if s.m.logTakes then { s with m := s.m.commit d 0 none }
  else { s with m := d.foldl Mach.revertRgn s.m }.sealTo .sealed 2 source t true

/-- Complete a command that waits; one that a reset has dropped has no completion. -/
def Mach.endWait (m : Mach) (op : Nat) (h : HostCmd) (status result : Nat) : Mach :=
  if m.hif.waits.any fun w => w.op == op && w.h == h then (m.unwait op h.tgt).complete h status result else m

/-- What a TB_SOURCE writes (R79, Table 3.6). -/
def sourceFlds (h : HostCmd) : List (Fld × List Nat × Nat) :=
  let w := h.f 1 0 32
  [(TBS_CFG_SRC, [], bits w 0 2), (TBS_CFG_REALIGN, [], bits w 2 2), (TBS_CFG_QUAL, [], bits w 4 4),
   (TBS_CFG_TPLL_BW, [], bits w 8 3), (TBS_CFG_HOLD_AVG, [], bits w 11 4), (TBS_CFG_PBO_THR, [], bits w 16 8),
   (TBS_REF_FREQ_REF_FREQ, [], h.f 2 0 32), (TBS_PPS_DELAY_PPS_DELAY, [], h.f 3 0 32)]

/-- It names another source or another frequency than the present ones. -/
def Mach.newSource (m : Mach) (h : HostCmd) : Bool :=
  bits (h.f 1 0 32) 0 2 != m.rd TBS_CFG_SRC || h.f 2 0 32 != m.rd TBS_REF_FREQ_REF_FREQ

/-- Its fields change with its CHANGE entry (R390), and a new source qualifies from the next boundary (R97). -/
def Mach.setSource (m : Mach) (h : HostCmd) : Mach :=
  let t := m.wrs (sourceFlds h)
  if m.newSource h then t.at_ (m.stitch + 1) (.cmd 0x80 h) else t

/-- A whole commit is finished: its command completes, or the Hoop seals. -/
def State.commitEnd (s : State) (c : Commit) : State :=
  match c.op, c.cmd with
  | 0, _ => if s.hoopSeal.st = .opened ∧ !s.hoopSeal.gf then s.sealTo .sealed 2 2 s.m.dtime false else s
  | 0xB1, some h =>
    if s.hoopSeal.st = .opened ∧ !s.hoopSeal.gf then
      let s := s.sealTo .sealed 1 0 s.m.dtime false
      { s with m := s.m.endWait 0xB1 h DONE (s.m.devDigest false) }
    else { s with m := s.m.endWait 0xB1 h WRONG_STATE 0 }
  | 0x12, some h => { s with m := s.m.endWait 0x12 h DONE 0 }
  | 0x80, some h => { s with m := s.m.endWait 0x80 h DONE (s.m.stitch + 1) }
  | op, some h => { s with m := s.m.endWait op h DONE (s.m.devDigest false) }
  | _, none => s

/-- CHANGE_DONE: the flash record of the first region of the running commit is written (R387).  A TB_SOURCE takes effect
with it, and accepted writes of the region before it. -/
def State.changeDone (s : State) : State :=
  match s.m.hoop.commits with
  | [] => s
  | c :: rest =>
    match c.regions with
    | [] => s
    | r :: rs =>
      if s.m.hif.changes.any (rwhOf r) then s
      else
      let old := s.m.devDigest false
      let m := match c.op, c.cmd with
        | 0x80, some h => s.m.setSource h
        | _, _ => s.m
      let m := m.storeRgn r
      let m := match r, c.cmd with
        | 7, some h =>
          let img := h.bytes (h.f 1 0 32)
          { m with hoop := { m.hoop with image := img, imageVer := imageVersion img } }
        | _, _ => m
      let new_ := m.devDigest false
      let src := if c.op = 0 then 2 else 0
      let m := (m.audit s.hoopSeal.st auChange src r old new_).flushed
      let m := (m.raise 9 0x0003 0 [m.rd HOOP_MEC_MEC] [r]).msix1 2
      let left := if rs.isEmpty then rest else { c with regions := rs } :: rest
      let m := { m with hoop := { m.hoop with commits := left } }
      let m := m.wb HOOP_STAT_COMMIT_BUSY [] (!left.isEmpty)
      let s := { s with m := m }
      if !rs.isEmpty then s
      else
        let s := s.commitEnd c
        if s.m.hoop.strapWait && !s.m.committing then
          let s := { s with m := { s.m with hoop := { s.m.hoop with strapWait := false } } }
          if s.hoopSeal.st = .opened ∧ s.m.on HOOP_STAT_STRAP ∧ !s.hoopSeal.gf then s.strapSeal 2 s.m.dtime else s
        else s

def doChangeDone (s : State) : State := s.changeDone
def execChangeDone (s : State) : Host.Outcome State Fault Refusal := .next (doChangeDone s)

/-! ### Strap (R380, R381) -/

/-- A level of the strap that has held for 10 ms; `high` means the jumper is not fitted. -/
def State.strap (s : State) (high : Bool) (t : Nat) : State :=
  if s.hoopSeal.gf || s.m.on HOOP_STAT_STRAP == high then s
  else
    let pend := s.m.on HOOP_STAT_UNSEAL_PEND
    let s := { s with m := s.m.wb HOOP_STAT_STRAP [] high }
    match s.hoopSeal.st, high, pend with
    | .sealed, false, true => s.sealTo .opened 3 2 t false
    | .broken, false, true => s.sealTo .opened 3 2 t false
    | .sealed, false, false => s.sealTo .broken 4 2 t false
    | .opened, true, _ =>
      if s.m.committing then { s with m := { s.m with hoop := { s.m.hoop with strapWait := true } } }
      else s.strapSeal 2 t
    | _, _, _ => s

/-- HOOP_STRAP_CHANGE: in Retention the edge is latched and acted on at exit. -/
def doHoopStrapChange (high : Bool) (s : State) : State :=
  if s.m.dev = .retention then
    if s.hoopSeal.gf then s
    else { s with m := { s.m with hoop := { s.m.hoop with latched := s.m.hoop.latched ++ [(high, s.m.dtime)] } } }
  else s.strap high s.m.dtime
def execHoopStrapChange (high : Bool) (s : State) : Host.Outcome State Fault Refusal := .next (doHoopStrapChange high s)

/-- Latched edges take effect at the exit from Retention. -/
def State.strapLatched (s : State) : State :=
  let l := s.m.hoop.latched
  l.foldl (fun s e => s.strap e.1 e.2) { s with m := { s.m with hoop := { s.m.hoop with latched := [] } } }

/-- UNSEAL_LAPSED: 60 s have passed without a strap fall. -/
def doUnsealLapsed (s : State) : State :=
  s.upd fun m => if m.on HOOP_STAT_UNSEAL_PEND then (m.wr HOOP_STAT_UNSEAL_PEND [] 0).raise 9 0x0007 0 else m
def execUnsealLapsed (s : State) : Host.Outcome State Fault Refusal := .next (doUnsealLapsed s)

/-! ### Refused writes (R385) -/

/-- Write a REFUSED entry for `n` writes to a block. -/
def Mach.refusedEntry (m : Mach) (sl : SealSt) (t off rgn n : Nat) : Mach :=
  ((m.auditAt t sl auRefused 1 rgn off n).fault 51).raiseAt t 9 0x0004 0 [off] [min n 65535]

/-- A register write to sealed content was refused: one entry for a block in a second, which counts what was refused. -/
def Mach.refuseWrite (m : Mach) (sl : SealSt) (off rgn : Nat) : Mach :=
  let b := off / 2 ^ 20
  let rest := m.hoop.refused.filter fun x => x.block != b
  let put := fun (m : Mach) (x : Refused) => { m with hoop := { m.hoop with refused := rest ++ [x] } }
  match m.hoop.refused.find? fun x => x.block == b with
  | some x =>
    if m.dtime < x.last + 1000 * msDt then
      put m (if x.n = 0 then { x with n := 1, offset := off, region := rgn, at_ := m.dtime } else { x with n := x.n + 1 })
    else
      let (o, g, t) := if x.n = 0 then (off, rgn, m.dtime) else (x.offset, x.region, x.at_)
      put (m.refusedEntry sl t o g (x.n + 1)) { block := b, last := m.dtime }
  | none => put (m.refusedEntry sl m.dtime off rgn 1) { block := b, last := m.dtime }

/-- Entries for refused writes whose block's second is over. -/
def Mach.refusedDue (m : Mach) (sl : SealSt) : Mach :=
  let due := m.hoop.refused.filter fun x => decide (x.last + 1000 * msDt ≤ m.dtime)
  let m := { m with hoop := { m.hoop with refused := m.hoop.refused.filter fun x => decide (m.dtime < x.last + 1000 * msDt) } }
  due.foldl (fun m x => if x.n = 0 then m else
    let m := m.refusedEntry sl x.at_ x.offset x.region x.n
    { m with hoop := { m.hoop with refused := m.hoop.refused ++ [{ block := x.block, last := m.dtime }] } }) m

/-- AUDIT_FLUSH: buffered entries are written to flash (R390). -/
def doAuditFlush (s : State) : State := s.upd fun m => (m.refusedDue s.hoopSeal.st).flushed
def execAuditFlush (s : State) : Host.Outcome State Fault Refusal := .next (doAuditFlush s)

/-! ### Requests (R398, R399) -/

/-- The Hoop is OPEN. -/
def State.isOpen (s : State) : Bool := s.hoopSeal.st == .opened

def ciHoopUnseal : CmdInfo where
  op := 0xB0
  masks := []
  tgt := tgt0
def ownHoopUnseal (_ : HostCmd) (s : State) : Option Nat :=
  firstOf [(s.isOpen || s.hoopSeal.gf || decide (s.hoopSeal.left ≤ 4), WRONG_STATE)]
def effHoopUnseal (h : HostCmd) (_ : Nat) (s : State) : State :=
  if s.m.on HOOP_STAT_STRAP then
    { s with m := (s.m.wr HOOP_STAT_UNSEAL_PEND [] 1).done h 1 }
  else
    let s := s.sealTo .opened 3 0 s.m.dtime false
    { s with m := s.m.done h 0 }
def doHoopUnseal (h : HostCmd) (s : State) : State := runCmd ciHoopUnseal ownHoopUnseal effHoopUnseal h s
def execHoopUnseal (h : HostCmd) (s : State) : Host.Outcome State Fault Refusal := .next (doHoopUnseal h s)

def ciHoopSeal : CmdInfo where
  op := 0xB1
  masks := []
  tgt := tgt0
def ownHoopSeal (_ : HostCmd) (s : State) : Option Nat :=
  firstOf [(!s.isOpen || s.hoopSeal.gf || s.hoopSeal.left == 0, WRONG_STATE),
           (!s.m.dirtyRgns.isEmpty && !s.m.logTakes, SEAL_LOG_FULL), (s.m.committing, BUSY)]
def effHoopSeal (h : HostCmd) (_ : Nat) (s : State) : State :=
  let d := s.m.dirtyRgns
  if d.isEmpty then
    let s := s.sealTo .sealed 1 0 s.m.dtime false
    { s with m := s.m.done h (s.m.devDigest false) }
  else { s with m := (s.m.commit d 0xB1 (some h)).wait 0xB1 h 0 }
/-- HOOP_SEAL.  On the LQ6420-GF the request completes with WRONG_STATE and the refusal is recorded (R2, assumption 9). -/
def doHoopSeal (h : HostCmd) (s : State) : State :=
  let r := runCmd ciHoopSeal ownHoopSeal effHoopSeal h s
  if s.hoopSeal.gf && (commonRefusal ciHoopSeal h s.m).isNone then { r with m := r.m.refusedCmd r.hoopSeal.st 0xB1 } else r
def execHoopSeal (h : HostCmd) (s : State) : Host.Outcome State Fault Refusal := .next (doHoopSeal h s)

/-- A commit of the staging copy would change an entry of a tile with a channel in an armed set (R50). -/
def Mach.tableBusy (m : Mach) : Bool :=
  (List.range 4).any fun t =>
    (allSets.any fun s => m.active s && (m.members s).any fun n => n / 16 == t) &&
      (List.range 2048).any fun i => tget {} m.smp.staging (2048 * t + i) != tget {} m.hoop.table (2048 * t + i)

def ciHoopCommit : CmdInfo where
  op := 0xB2
  masks := [mask 8]
  tgt := tgt0
def ownHoopCommit (h : HostCmd) (s : State) : Option Nat :=
  firstOf [(!s.isOpen, SEALED), (!s.m.logTakes, SEAL_LOG_FULL), (s.m.committing || (h.b 1 2 && s.m.tableBusy), BUSY),
           (h.b 1 0 || h.b 1 7, BAD_FIELD)]
def effHoopCommit (h : HostCmd) (_ : Nat) (s : State) : Mach :=
  let l := (bitList 7 (h.f 1 0 7)).filter (· != 0)
  if l.isEmpty then s.m.done h (s.m.devDigest false) else (s.m.commit l 0xB2 (some h)).wait 0xB2 h 0
def doHoopCommit (h : HostCmd) (s : State) : State := runCmd ciHoopCommit ownHoopCommit (lift effHoopCommit) h s
def execHoopCommit (h : HostCmd) (s : State) : Host.Outcome State Fault Refusal := .next (doHoopCommit h s)

/-- RUN_CHECK over the first `n` entries. -/
def Mach.runCheck (m : Mach) (n : Nat) : Nat := crc32c ((m.hoop.log.take n).flatMap wordsBytes)

/-- Identification of the part: the device serial number (R399, Table 11.13). -/
def Mach.serial (m : Mach) : Nat := m.hif.serial

def ciHoopLogExport : CmdInfo where
  op := 0xB3
  masks := [mask 13 + mask 14 * 2 ^ 32, mask 64]
  tgt := tgt0
  svc m _ := if m.dev = .retention then .full else .any
def ownHoopLogExport (h : HostCmd) (s : State) : Option Nat :=
  let first := h.f 1 0 13
  let count := h.f 1 32 14
  firstOf [(count == 0 || decide (8192 < count) || decide (s.m.logUsed < first + count) || h.f 2 0 6 != 0, BAD_FIELD)]
def effHoopLogExport (h : HostCmd) (_ : Nat) (s : State) : Mach :=
  let m := s.m
  let first := h.f 1 0 13
  let count := h.f 1 32 14
  let w := [m.rd HOOP_LOG_BASE_BASE + first + count <<< 24, m.rd HOOP_MEC_MEC, m.devDigest true,
    s.hoopSeal.fuseUsed + s.hoopSeal.st.code <<< 16 + s.hoopSeal.gf.toNat <<< 20, m.serial, m.dtime, 0]
  let hdr := w ++ [crc32c (wordsBytes w) + m.runCheck (first + count) <<< 32]
  let m := m.hostWords (h.word 2) hdr 3 h.owner
  let m := m.hostWords (h.word 2 + 64) (((m.hoop.log.drop first).take count).flatMap id) 3 h.owner
  m.done h count
def doHoopLogExport (h : HostCmd) (s : State) : State := runCmd ciHoopLogExport ownHoopLogExport (lift effHoopLogExport) h s
def execHoopLogExport (h : HostCmd) (s : State) : Host.Outcome State Fault Refusal := .next (doHoopLogExport h s)

def ciHoopLogAck : CmdInfo where
  op := 0xB4
  masks := [mask 24 + mask 32 * 2 ^ 32]
  tgt := tgt0
/-- Entries that an acknowledgement through a sequence number releases. -/
def Mach.ackCount (m : Mach) (h : HostCmd) : Nat := h.f 1 0 24 + 1 - m.rd HOOP_LOG_BASE_BASE
def ownHoopLogAck (h : HostCmd) (s : State) : Option Nat :=
  let m := s.m
  let n := m.ackCount h
  firstOf [(!s.isOpen, SEALED), (!s.hoopSeal.gf && decide (s.hoopSeal.left ≤ 4), WRONG_STATE),
    (decide (h.f 1 0 24 < m.rd HOOP_LOG_BASE_BASE) || decide (m.logUsed < n) || m.runCheck n != h.f 1 32 32, BAD_FIELD)]
def effHoopLogAck (h : HostCmd) (_ : Nat) (s : State) : State :=
  let n := s.m.ackCount h
  let m := { s.m with hoop := { s.m.hoop with log := s.m.hoop.log.drop n } }
  let m := (m.wr HOOP_LOG_BASE_BASE [] (m.rd HOOP_LOG_BASE_BASE + n)).logRegs
  let s := { s with m := m }
  let s := if s.hoopSeal.gf then s else s.burn
  let m := s.m.audit s.hoopSeal.st auExport 0 0 (h.f 1 0 24) (h.f 1 32 32)
  { s with m := m.done h n }
def doHoopLogAck (h : HostCmd) (s : State) : State := runCmd ciHoopLogAck ownHoopLogAck effHoopLogAck h s
def execHoopLogAck (h : HostCmd) (s : State) : Host.Outcome State Fault Refusal := .next (doHoopLogAck h s)

def ciHoopFwLoad : CmdInfo where
  op := 0xB5
  masks := [mask 32, mask 64]
  tgt := tgt0
def ownHoopFwLoad (h : HostCmd) (s : State) : Option Nat :=
  let len := h.f 1 0 32
  firstOf [(!s.isOpen, SEALED), (!s.m.logTakes, SEAL_LOG_FULL), (s.m.committing, BUSY),
    (len == 0 || len % 256 != 0 || h.f 2 0 6 != 0 || !imageSigned (h.bytes len), BAD_FIELD)]
def effHoopFwLoad (h : HostCmd) (_ : Nat) (s : State) : Mach :=
  ((s.m.hostRead (h.word 2) (h.f 1 0 32)).commit [7] 0xB5 (some h)).wait 0xB5 h 0
def doHoopFwLoad (h : HostCmd) (s : State) : State := runCmd ciHoopFwLoad ownHoopFwLoad (lift effHoopFwLoad) h s
def execHoopFwLoad (h : HostCmd) (s : State) : Host.Outcome State Fault Refusal := .next (doHoopFwLoad h s)

def ciHoopDiscard : CmdInfo where
  op := 0xB6
  masks := []
  tgt := tgt0
def ownHoopDiscard (_ : HostCmd) (s : State) : Option Nat := firstOf [(!s.isOpen, WRONG_STATE)]
/-- Dirty regions revert, and the staging copy is loaded from the table (R50). -/
def effHoopDiscard (h : HostCmd) (_ : Nat) (s : State) : Mach :=
  let d := s.m.dirtyRgns
  let m := d.foldl Mach.revertRgn s.m
  let m := { m with smp := { m.smp with staging := m.hoop.table } }
  m.done h (orAll (d.map (2 ^ ·)))
def doHoopDiscard (h : HostCmd) (s : State) : State := runCmd ciHoopDiscard ownHoopDiscard (lift effHoopDiscard) h s
def execHoopDiscard (h : HostCmd) (s : State) : Host.Outcome State Fault Refusal := .next (doHoopDiscard h s)

def ciHoopNote : CmdInfo where
  op := 0xB7
  masks := [mask 64, mask 64]
  tgt := tgt0
def ownHoopNote (_ : HostCmd) (s : State) : Option Nat := firstOf [(!s.isOpen, SEALED), (!s.m.logTakes, SEAL_LOG_FULL)]
def effHoopNote (h : HostCmd) (_ : Nat) (s : State) : Mach :=
  let seq := s.m.rd HOOP_LOG_BASE_BASE + s.m.logUsed
  (s.m.audit s.hoopSeal.st auNote 0 0 (h.word 1) (h.word 2)).done h seq
def doHoopNote (h : HostCmd) (s : State) : State := runCmd ciHoopNote ownHoopNote (lift effHoopNote) h s
def execHoopNote (h : HostCmd) (s : State) : Host.Outcome State Fault Refusal := .next (doHoopNote h s)

end Sys2Proof.Machine
end

