-- ==== Sys2Proof/Machine/TileCmds.lean ====
section
/-! DEFINITION. Channel commands (R66–R68) and the events of the tiles: settling, combining, temperature, background
estimation, foreground calibration, check samples and loopback. -/
namespace Sys2Proof.Machine
open Sys2Proof

def tileOf (n : Nat) : Nat := n / 16
def Mach.tileCal (m : Mach) (t : Nat) : Bool := m.on TIL_TILE_STAT_FG_ACTIVE [t]
/-- A channel is a member of an active set. -/
def Mach.inArmed (m : Mach) (n : Nat) : Bool := allSets.any fun s => m.active s && bit (m.rd CAP_SET_MEMB [s]) n

/-- Stop what takes a channel's samples: its units, and its stream with a gap cause. -/
def Mach.cutChan (m : Mach) (n cause : Nat) : Mach := (m.stopUnits n (m.stitch + 1)).logGap n cause (m.inputNow n)

/-- A channel's sampling ends with the present stitch's opening: the last samples before it leave the filters with values
that no rule states. -/
def Mach.tail (m : Mach) (n : Nat) : Mach :=
  let k := m.firstOut n m.stitch - (m.chan n).histNext
  if !m.flows n || (m.chan n).held || m.fallback || k == 0 then m
  else
    let i0 := (m.chan n).histNext
    let (f, m) := m.free (16 * k)
    let outs := (List.range k).map fun i => (i0 + i, sext 16 (bits f (16 * i) 16))
    let m := m.modChan n fun c => { c with hist := (outs.map Prod.snd).reverse ++ c.hist, histNext := i0 + k }
    (m.unitsFeed n outs).logFeed n outs

/-! ### CH_CONFIG (R39, R40, R67) -/

/-- Mark of a CH_CONFIG that waits for the channel's return from calibration. -/
def calWait : Nat := 2 ^ 64

def ciChConfig : CmdInfo where
  op := 0x10
  masks := [mask 10]
  tgt := below 64
  svc _ h := .acq (decide (h.tgt < 16))
  r15 m h := m.unused h.tgt

def ownChConfig (h : HostCmd) (s : State) : Option Nat :=
  let m := s.m
  let n := h.tgt
  let rate := h.f 1 1 3 != m.rd TIL_CH_CFG_BWL [n] || h.f 1 4 4 != m.rd TIL_CH_CFG_DEC_LOG2 [n]
  let en := h.b 1 0
  firstOf [(h.f 1 1 3 == 7 || decide (8 < h.f 1 4 4), BAD_FIELD),
    (m.inArmed n && (rate || en != m.on TIL_CH_CFG_ENABLE [n]), BUSY), (m.lruns n && rate, BUSY),
    (en && !m.on TIL_CH_CFG_ENABLE [n] && !m.spllLocked, CLOCK_INVALID)]

/-- A change of a quad's factor is still to take effect, or its 64 stitches have not passed (Table 2.3). -/
def Mach.quadBusy (m : Mach) (q : Nat) : Bool :=
  m.hif.changes.any fun p => match p.2 with
    | .cmd op h => op == 0x11 && h.tgt == q
    | .other k a => (k == 4 || k == 5) && a.headD 0 == q
    | _ => false

/-- A channel settles after a change of the given kind. -/
def Mach.settlesAfter (m : Mach) (why n : Nat) : Bool := m.chState n == chSettling && (m.chan n).why == why

/-- A combining change ends, and its command completes, when its stitches have passed and no channel of the quad settles
after it any more (R39; a quad without an enabled channel: assumption 131). -/
def Mach.quadDone (m : Mach) (q first : Nat) : Mach :=
  if m.quadBusy q || (quadCh q).any (m.settlesAfter 1) then m
  else (m.finish 0x11 q DONE (lo32 first)).wr TIL_QUAD_CFG_PENDING [q] 0

/-- A channel has settled, or settles no more: the change of factor or of rate that it settled after may be complete (R39,
R73). -/
def Mach.settleEnd (m : Mach) (n why first : Nat) : Mach :=
  match why with
  | 1 => m.quadDone (n / 4) first
  | 2 => if allCh.any (m.settlesAfter 2) then m else m.finish 0x81 0 DONE (lo32 first)
  | _ => m

/-- Switch the slices of a channel that was enabled: 16 settling stitches from the present one. -/
def Mach.takeChan (m : Mach) (n : Nat) : Mach :=
  if m.chState n = chSettling ∧ m.on TIL_CH_CFG_ENABLE [n] ∧ !m.tileCal (tileOf n) then m.settle n m.stitch 16 else m

/-- The configuration of a CH_CONFIG takes effect at the boundary of the present stitch. -/
def Mach.setChCfg (m : Mach) (h : HostCmd) : Mach :=
  let n := h.tgt
  let m := if h.b 1 8 && !m.on TIL_CH_CFG_EST_EN [n] then m.modChan n fun c => { c with estFrom := m.stitch } else m
  m.wrs [(TIL_CH_CFG_ENABLE, [n], h.f 1 0 1), (TIL_CH_CFG_BWL, [n], h.f 1 1 3), (TIL_CH_CFG_DEC_LOG2, [n], h.f 1 4 4),
         (TIL_CH_CFG_EST_EN, [n], h.f 1 8 1), (TIL_CH_CFG_OVR_EVT, [n], h.f 1 9 1)]

def applyChConfig (h : HostCmd) (m : Mach) : Mach :=
  let n := h.tgt
  let was := m.on TIL_CH_CFG_ENABLE [n]
  let rate := h.f 1 1 3 != m.rd TIL_CH_CFG_BWL [n] || h.f 1 4 4 != m.rd TIL_CH_CFG_DEC_LOG2 [n]
  if m.unused n then m
  else
    let m := if was && (rate || !h.b 1 0) then m.tail n else m
    let m := if rate && m.chIsOn n then m.stopUnits n m.stitch else m
    let m := m.setChCfg h
    if h.b 1 0 then
      if was then
        (if rate && m.chIsOn n then
          (m.modChan n fun c => { c with firstValid := m.stitch, fir := [], blk := [] }).restartRing n m.stitch
        else m)
      else (m.wr TIL_CH_STAT_STATE [n] chSettling).at_ (m.stitch + 1) (.take n)
    else if was then
      let why := (m.chan n).why
      let m := (m.stopUnits n m.stitch).logEnd n gcChOff
      (m.chanOff n chOff).settleEnd n why m.stitch
    else m

/-- Enabling shows as SETTLING at acceptance; a command during the tile's calibration waits for the channel's return. -/
def effChConfig (h : HostCmd) (due : Nat) (s : State) : Mach :=
  let m := s.m
  let n := h.tgt
  let starts := h.b 1 0 && !m.on TIL_CH_CFG_ENABLE [n]
  if m.tileCal (tileOf n) then m.wait 0x10 h calWait
  else
    let m := m.at_ due (.cmd 0x10 h)
    if starts then (m.wr TIL_CH_STAT_STATE [n] chSettling).wait 0x10 h (due + 17) else m.done h (lo32 due)
def doChConfig (h : HostCmd) (s : State) : State := runCmd ciChConfig ownChConfig (lift effChConfig) h s
def execChConfig (h : HostCmd) (s : State) : Host.Outcome State Fault Refusal := .next (doChConfig h s)

/-! ### QUAD_COMBINE (R38, R39) -/
def ciQuadCombine : CmdInfo where
  op := 0x11
  masks := [mask 2]
  tgt := below 16
def ownQuadCombine (h : HostCmd) (s : State) : Option Nat :=
  let q := h.tgt
  firstOf [(h.f 1 0 2 == 3, BAD_FIELD),
    ((quadCh q).any s.m.inArmed || s.m.tileCal (q / 4) || (quadCh q).any (fun n => s.m.on TIL_CH_STAT_LOOPBACK [n]), BUSY)]

/-- Channels leave the sets that do not run: an unused channel is a member of none (R15). -/
def Mach.leaveSets (m : Mach) (l : List Nat) : Mach :=
  each allSets (fun m s => m.wr CAP_SET_MEMB [s] (l.foldl (fun w n => setBit w n false) (m.rd CAP_SET_MEMB [s]))) m

/-- The factor of a quad changes at the boundary of the present stitch: the streams that flow are cut, and settle. -/
def Mach.combine (m : Mach) (q f : Nat) : Mach :=
  let k := m.stitch
  let on := (quadCh q).filter m.flows
  let old := (quadCh q).map fun n => (n, m.firstOut n k)
  let gone := (quadCh q).filter (m.wr TIL_QUAD_CFG_FACTOR [q] f).unused
  let m := each on (fun m n => (m.tail n).stopUnits n k) m
  let m := each (on.filter fun n => !gone.contains n) (fun m n => m.logGap n gcCombine (m.inputAt' n k)) m
  let m := each gone (fun m n => (m.stopUnits n k).logEnd n gcChOff) m
  let m := m.wr TIL_QUAD_CFG_FACTOR [q] f
  let m := (each ((List.range 16).map (16 * q + ·)) (fun m s => m.clearSlice s) m).leaveSets gone
  let m := each old (fun m p =>
    let n := p.1
    if m.unused n then
      let m := m.finish 0x10 n BAD_TARGET 0
      (m.wr TIL_CH_CFG_ENABLE [n] 0).chanOff n chUnused
    else
      let m := m.modLstr n fun v => { v with base := v.base + (m.firstOut n k : Nat) - (p.2 : Nat) }
      if m.chState n = chUnused then m.chanOff n chOff
      else if m.chState n = chSettling then
        ((m.settle n k 64 1).modChan n fun c => { c with blk := [] }).restartRing n k
      else m) m
  m.at_ (k + 64) (.other 4 [q])

/-- A change of factor begins: the ON channels of the quad show SETTLING, and their streams flow until it takes effect
(R39). -/
def Mach.quadCut (m : Mach) (q : Nat) : Mach :=
  (each ((quadCh q).filter m.chIsOn) (fun m n =>
    (m.wr TIL_CH_STAT_STATE [n] chSettling).modChan n fun c => { c with going := true }) m).wr TIL_QUAD_CFG_PENDING [q] 1

def effQuadCombine (h : HostCmd) (due : Nat) (s : State) : Mach :=
  let m := s.m
  let q := h.tgt
  if h.f 1 0 2 = m.rd TIL_QUAD_CFG_FACTOR [q] then m.done h (lo32 due)
  else
    ((m.quadCut q).at_ (due + 1) (.cmd 0x11 h)).wait 0x11 h (due + 65)
/-- On a secondary, where no command waits, the cut is made at the boundary of application, and the factor changes one
stitch later. -/
def applyQuadCombine (h : HostCmd) (m : Mach) : Mach :=
  let f := h.f 1 0 2
  if (m.waitsOf 0x11 h.tgt).any fun w => w.at_ == m.stitch + 64 then m.combine h.tgt f
  else if f = m.rd TIL_QUAD_CFG_FACTOR [h.tgt] then m
  else (m.quadCut h.tgt).at_ (m.stitch + 1) (.other 5 [h.tgt, f])
def doQuadCombine (h : HostCmd) (s : State) : State := runCmd ciQuadCombine ownQuadCombine (lift effQuadCombine) h s
def execQuadCombine (h : HostCmd) (s : State) : Host.Outcome State Fault Refusal := .next (doQuadCombine h s)

/-- CHANNEL_SETTLED: the settling stitches of a channel are over; it becomes ON (R39, R141), and its blocks carry the flags
that stand. -/
def Mach.settled (m : Mach) (broken : Bool) (n : Nat) : Mach :=
  let c := m.chan n
  if m.chState n ≠ chSettling ∨ c.held ∨ c.firstValid = 0 ∨ m.stitch < c.firstValid ∨ c.settleFrom = 0 then m
  else
    let k := m.stitch
    let m := (m.wr TIL_CH_STAT_STATE [n] chOn).restartRing n k
    let m := m.restartWatch n k
    let m := [gcFgCal, gcCombine, gcRate].foldl (fun m b => m.logGood n b (m.inputAt' n k)) m
    let m := m.markChan n (m.devFlags broken ||| m.chanFlags n)
    (m.finish 0x10 n DONE (lo32 c.firstValid)).settleEnd n c.why c.firstValid
def doChannelSettled (n : Nat) (s : State) : State := s.upd fun m => m.settled s.hoopSeal.brokenInterval n
def execChannelSettled (ch : Fin 64) (s : State) : Host.Outcome State Fault Refusal := .next (doChannelSettled ch.val s)

/-! ### CAL_RELEASE and LOOPBACK -/

/-- Slices that a channel uses. -/
def Mach.slicesOf (m : Mach) (n : Nat) : List Nat := (m.driven n).flatMap fun k => (List.range 4).map (4 * k + ·)

def ciCalRelease : CmdInfo where
  op := 0x13
  masks := []
  tgt := below 64
  svc _ h := .acq (decide (h.tgt < 16))
  r15 m h := m.unused h.tgt
def applyCalRelease (h : HostCmd) (m : Mach) : Mach := each (m.slicesOf h.tgt) (fun m s => m.clearSlice s) m
def doCalRelease (h : HostCmd) (s : State) : State := runCmd ciCalRelease (fun _ _ => none) (lift (later 0x13)) h s
def execCalRelease (h : HostCmd) (s : State) : Host.Outcome State Fault Refusal := .next (doCalRelease h s)

def ciLoopback : CmdInfo where
  op := 0x14
  masks := [mask 2]
  tgt := below 8
def ownLoopback (h : HostCmd) (s : State) : Option Nat :=
  let n := 8 * h.tgt
  firstOf [(s.m.tileCal (tileOf n) || s.m.unused n, BUSY)]
/-- The switch acts one boundary after the stitch of application and settles in four stitches (R65). -/
def effLoopback (h : HostCmd) (due : Nat) (s : State) : Mach := (s.m.at_ (due + 1) (.cmd 0x14 h)).wait 0x14 h (due + 5)
def applyLoopback (h : HostCmd) (m : Mach) : Mach :=
  let g := h.tgt
  let n := 8 * g
  let on := h.b 1 0
  let m := m.wb TIL_CH_STAT_LOOPBACK [n] on
  let i := m.stitch * 2048 * m.comb n
  let m := m.modChan n fun c => { c with estBad := true, loopFrom := if on then i else c.loopFrom,
                                         chkSkipTo := if on then c.chkSkipTo else max c.chkSkipTo i }
  { m with smp := { m.smp with muted := if on && h.b 1 1 then sins m.smp.muted g else m.smp.muted.filter (· != g) } }
def doLoopback (h : HostCmd) (s : State) : State := runCmd ciLoopback ownLoopback (lift effLoopback) h s
def execLoopback (h : HostCmd) (s : State) : Host.Outcome State Fault Refusal := .next (doLoopback h s)

/-- LOOPBACK_SETTLED: four stitches have passed since the switch. -/
def Mach.loopSettled (m : Mach) (g : Nat) : Mach :=
  match m.waitsOf 0x14 g with
  | w :: _ => if m.stitch < w.at_ then m else m.finish 0x14 g DONE (w.at_)
  | [] => m
def doLoopbackSettled (g : Nat) (s : State) : State := s.upd fun m => m.loopSettled g
def execLoopbackSettled (gen : Fin 8) (s : State) : Host.Outcome State Fault Refusal := .next (doLoopbackSettled gen.val s)

/-! ### Temperature (R49) -/
def Mach.tempReading (m : Mach) (raws : List Nat) : Mach :=
  if m.stitch % 256 ≠ 0 ∨ !m.tb.running then m
  else each raws.zipIdx (fun m p => m.tileReading p.2 p.1) m.tableSwap
def doTempReading (raws : List Nat) (s : State) : State := s.upd fun m => m.tempReading raws
def execTempReading (t0 t1 t2 t3 : BitVec 16) (s : State) : Host.Outcome State Fault Refusal :=
  .next (doTempReading [t0.toNat, t1.toNat, t2.toNat, t3.toNat] s)

/-! ### Background estimation (R51–R54) -/

/-- A reason of R54 discards the interval of a channel. -/
def Mach.estDiscard (m : Mach) (n : Nat) : Bool :=
  let c := m.chan n
  let sq := c.estN * c.estSq
  let sum2 := c.estSum.natAbs * c.estSum.natAbs
  c.estBad || m.on TIL_CH_STAT_LOOPBACK [n] || decide (512 / m.decim n < 8 * c.estOvr) ||
    decide (10000 * (sq - sum2) < 32768 * 32768 * c.estN * c.estN)

/-- Outcome of an interval for one slice: `none` freezes it. -/
def Mach.estSlice (m : Mach) (s : Nat) (res : List Int) : Option (List Int) :=
  let t := (m.slice s).trim.list
  candidates (m.bands s) t ((t.zip res).map fun p => p.1 + (p.2.tdiv 8))

/-- Give the slices of a channel their outcome at the boundary of the present stitch. -/
def Mach.estApply (m : Mach) (outs : List (Nat × Option (List Int))) : Mach :=
  each outs (fun m p => if m.frozen p.1 then m else
    match p.2 with
    | some l => m.setTrims p.1 (Coef.ofList l)
    | none => m.freezeSlice p.1) m

/-- Outcomes as plain numbers, for a request that waits. -/
def estCode (outs : List (Nat × Option (List Int))) : List Nat :=
  outs.flatMap fun p => match p.2 with
    | some l => p.1 :: 1 :: l.map (enc 32)
    | none => [p.1, 0, 0, 0, 0, 0, 0]
def estDecode : Nat → List Nat → List (Nat × Option (List Int))
  | n + 1, s :: k :: a :: b :: c :: d :: e :: t =>
    (s, if k = 1 then some ([a, b, c, d, e].map (sext 32)) else none) :: estDecode n t
  | _, _ => []

/-- ESTIMATOR_INTERVAL_END at the boundary that ends the interval of a channel: `res` holds the measured residuals of the
slices it uses.  An interval in which EST_EN was 0 gives nothing (assumption 130).  One deferred request stands for a tile (R439); it carries the trims of each interval that waits. -/
def Mach.estEnd (m : Mach) (n : Nat) (res : List (List Int)) : Mach :=
  if !m.chIsOn n || m.dev != .full || m.stitch % (512 / m.comb n) != 0 then m
  else
    let bad := m.estDiscard n || (m.chan n).estN == 0
    let off := !m.on TIL_CH_CFG_EST_EN [n] || decide (m.stitch < (m.chan n).estFrom + 512 / m.comb n)
    let m := m.modChan n fun c => { c with estBad := m.supplyWarn, estOvr := 0, estN := 0, estSum := 0, estSq := 0 }
    if off then m
    else if bad then m.inc TIL_EST_CNT_SKIPS [n]
    else
      let m := m.inc TIL_EST_CNT_UPDATES [n]
      let outs := ((m.slicesOf n).filter fun s => !m.frozen s).map fun s =>
        (s, m.estSlice s (res.getD ((m.slicesOf n).findIdx (· == s)) []))
      if m.waiting actBgCal (tileOf n) then
        { m with flt := { m.flt with deferred := m.flt.deferred.map fun (r : MReq) =>
            if r.act = actBgCal ∧ r.inst = tileOf n then { r with args := r.args ++ estCode outs } else r } }
      else
        let (m, go) := m.maint actBgCal (tileOf n) (estCode outs) none
        if go then m.estApply outs else m
def doEstimatorIntervalEnd (n : Nat) (res : List (List Int)) (s : State) : State := s.upd fun m => m.estEnd n res
def execEstimatorIntervalEnd (ch : Fin 64) (res : List (List Int)) (s : State) : Host.Outcome State Fault Refusal :=
  .next (doEstimatorIntervalEnd ch.val res s)

/-! ### Foreground calibration (R55–R58) -/
def ciFgCal : CmdInfo where
  op := 0x12
  masks := [mask 1]
  tgt := below 4
/-- A LOOPBACK into the tile that is accepted and has not settled counts as active (DESIGN CHOICE, assumption 127). -/
def ownFgCal (h : HostCmd) (s : State) : Option Nat :=
  let m := s.m
  let t := h.tgt
  let tw := h.b 1 0
  firstOf [((tileCh t).any m.inArmed || ([2 * t, 2 * t + 1].any fun g =>
              m.on TIL_CH_STAT_LOOPBACK [8 * g] || !(m.waitsOf 0x14 g).isEmpty) || (tw && (m.committing || m.tableBusy)), BUSY),
           (tw && !s.isOpen, SEALED), (tw && !m.logTakes, SEAL_LOG_FULL)]

/-- A tile goes offline. -/
def Mach.fgStart (m : Mach) (t : Nat) : Mach :=
  let m := each ((tileCh t).filter m.chIsOn) (fun m n => (m.cutChan n gcFgCal).wr TIL_CH_STAT_STATE [n] chSettling) m
  let m := each (tileCh t) (fun m n => m.modChan n fun c => { c with held := true, estBad := true }) m
  (each (tileCh t) (fun m n => m.wr TIL_CH_STAT_FG_ACTIVE [n] 1) m).wr TIL_TILE_STAT_FG_ACTIVE [t] 1

def effFgCal (h : HostCmd) (_ : Nat) (s : State) : Mach :=
  let (m, go) := s.m.maint actFgCal h.tgt [h.f 1 0 1] (some h)
  if go then m.fgStart h.tgt else m
def doFgCal (h : HostCmd) (s : State) : State := runCmd ciFgCal ownFgCal (lift effFgCal) h s
def execFgCal (h : HostCmd) (s : State) : Host.Outcome State Fault Refusal := .next (doFgCal h s)

/-- The channels of a tile return: waiting configurations take effect, and enabled channels settle as for an enable. -/
def Mach.fgReturn (m : Mach) (t : Nat) : Mach :=
  let m := m.wr TIL_TILE_STAT_FG_ACTIVE [t] 0
  each (tileCh t) (fun m n =>
    let m := m.wr TIL_CH_STAT_FG_ACTIVE [n] 0
    let m := m.modChan n fun c => { c with held := false }
    let k := m.stitch + 1
    let was := m.on TIL_CH_CFG_ENABLE [n]
    let cfgs := (m.waitsOf 0x10 n).filter fun w => w.at_ == calWait
    let m := cfgs.foldl (fun m w => m.setChCfg w.h) m
    if m.on TIL_CH_CFG_ENABLE [n] then
      -- a configuration of a channel that was enabled takes effect now; one that enables it completes when it is ON
      let m := if was then cfgs.foldl (fun m w => m.endWait 0x10 w.h DONE (lo32 k)) m else m
      m.settle n k 16
    else
      let m := cfgs.foldl (fun m w => m.endWait 0x10 w.h DONE (lo32 (m.stitch + 1))) m
      if m.chState n = chOn ∨ m.chState n = chSettling then (m.logEnd n gcChOff).chanOff n chOff else m) m

/-- Grid point nearest the tile's present temperature. -/
def Mach.gridPoint (m : Mach) (t : Nat) : Nat :=
  min 31 ((m.rd TIL_TILE_STAT_POINT [t] * 256 + m.rd TIL_TILE_STAT_WEIGHT [t] + 128) / 256)

/-- Measured coefficients of the 64 slices of a tile against their bands (R57): the map of failing slices. -/
def Mach.fgTrims (m : Mach) (t : Nat) (meas : List (List Int)) : Mach × Nat :=
  (List.range 64).foldl (fun (st : Mach × Nat) i =>
    let s := 64 * t + i
    let v := st.1.slice s
    let cand := ((meas.getD i []).zip v.interp.list).map fun p => p.1 - p.2
    match candidates (st.1.bands s) v.trim.list cand with
    | some l => ((st.1.setTrims s (Coef.ofList l)).setFrozen s false, st.2)
    | none => (st.1.fault 6 (s / 4), st.2 + 2 ^ i)) (m, 0)

/-- The measured values go to the staging copy at the nearest grid point, for one commit of region 2; the tile's trims and
freezes go when the new values apply (R58). -/
def Mach.fgStage (m : Mach) (t : Nat) (meas : List (List Int)) : Mach :=
  let p := m.gridPoint t
  each (List.range 64) (fun m i =>
    let s := 64 * t + i
    { m with smp := { m.smp with staging := tput {} m.smp.staging (32 * s + p) (Coef.ofList (meas.getD i [])) } })
    { m with smp := { m.smp with fgStaged := sins m.smp.fgStaged t } }

/-- FG_CAL_DONE: the calibration of a tile ends with what it measured. -/
def State.fgDone (s : State) (t : Nat) (meas : List (List Int)) : State :=
  let m := s.m
  match m.flt.running.find? fun r => r.act == actFgCal && r.inst == t with
  | none => s
  | some r =>
    let m :=
      if r.args.headD 0 = 1 then
        if s.isOpen then
          match m.maintCmd actFgCal t with
          | some h =>
            let m := (m.fgStage t meas).commit [2] 0x12 (some h)
            ({ m with flt := { m.flt with running := m.flt.running.filter fun x => !(x.act == actFgCal && x.inst == t) } }.maintRegs).wait
              0x12 h 0
          | none => ((m.fgStage t meas).commit [2] 0x12 none).maintEnd actFgCal t 0
        else m.maintEndSt actFgCal t SEALED 0
      else
        let (m, bad) := m.fgTrims t meas
        m.maintEndSt actFgCal t (if bad = 0 then DONE else OUTSIDE_SEALED_BAND) bad
    { s with m := m.fgReturn t }

/-! ### Check samples (R59–R63) -/

/-- A block in a check window excludes its sample (R62). -/
def Mach.windowBad (m : Mach) (n last len : Nat) : Bool :=
  let d := 2048 * m.decim n
  let b0 := (last + 1 - len) / d
  (List.range (last / d + 1 - b0)).any fun i =>
    let f := m.blkFlags n (b0 + i)
    bit f 2 || bit f 4

/-- A check sample of channel `n` taken at base sample `at_` counted from stitch 0; the instants are the multiples of 2 500
base samples (DESIGN CHOICE, assumption 126).  The converters run while their channel is ON and SPLL clocks them (R59, R91),
and go on without comparing while their tile calibrates (R56, R62, assumption 120). -/
def Mach.checkSample (m : Mach) (n : Nat) (code : Int) (at_ : Nat) : Mach :=
  let cal := m.tileCal (tileOf n) && m.on TIL_CH_CFG_ENABLE [n]
  if !(m.chIsOn n || cal) || m.unused n || m.fallback || m.dev != .full || at_ % 2500 != 0 then m
  else
    let t := m.baseTime at_ >>> 40
    let skip := fun (m : Mach) => (m.inc TIL_CHK_CNT_SKIP [n]).chkCount n t false
    match tfind m.smp.ccTest n with
    | some (k, sum) =>
      let m := if k < 64 then { m with smp := { m.smp with ccTest := tins m.smp.ccTest n (k + 1, sum + code) } } else m
      skip (m.modChan n fun c => { c with chkSkipTo := max c.chkSkipTo (at_ * m.comb n) })
    | none =>
      let (last, len) := m.chkWindow n at_
      if cal || (m.on TIL_CH_STAT_LOOPBACK [n] && decide ((m.chan n).loopFrom ≤ last)) ||
          decide (last + 1 < len + (m.chan n).chkSkipTo) || m.windowBad n last len then skip m
      else match (m.chan n).window last len with
        | some w => m.chkCount n t (decide ((m.chkTol : Int) < ((fastValue w - code).natAbs : Int)))
        | none => skip m
def doCheckSample (n : Nat) (code : Int) (at_ : Nat) (s : State) : State := s.upd fun m => m.checkSample n code at_
def execCheckSample (ch : Fin 64) (code : BitVec 18) (at_ : Nat) (s : State) : Host.Outcome State Fault Refusal :=
  .next (doCheckSample ch.val code.toInt at_ s)

/-! ### Check-converter self-test (R451) -/

/-- The self-test of a tile starts on its ON channels. -/
def Mach.ccStart (m : Mach) (t : Nat) : Mach :=
  let l := (tileCh t).filter fun n => m.chIsOn n && !m.unused n
  { m with smp := { m.smp with ccTest := l.foldl (fun tb n => tins tb n (0, 0)) m.smp.ccTest } }

/-- CC_SELFTEST_DONE: every tested converter has made 64 check samples. -/
def Mach.ccDone (m : Mach) (t : Nat) : Mach :=
  if !m.runs actCcTest t then m
  else
    let l := m.smp.ccTest.filter fun e => tileOf e.1 == t
    if l.any fun e => decide (e.2.1 < 64) && m.chIsOn e.1 then m
    else
      let bad := l.filter fun e => e.2.1 == 64 && decide (8 * 64 < (e.2.2 - 64 * tget 0 m.smp.ccExpect e.1).natAbs)
      let m := { m with smp := { m.smp with ccTest := m.smp.ccTest.filter fun e => tileOf e.1 != t } }
      let m := bad.foldl (fun m e => m.fault 7 e.1) m
      m.maintEnd actCcTest t (orAll (bad.map fun e => 2 ^ (e.1 - 16 * t)))
def doCcSelftestDone (t : Nat) (s : State) : State := s.upd fun m => m.ccDone t
def execCcSelftestDone (tile : Fin 4) (s : State) : Host.Outcome State Fault Refusal := .next (doCcSelftestDone tile.val s)

end Sys2Proof.Machine
end

