-- ==== Sys2Proof/Machine/TimeCmds.lean ====
section
/-! DEFINITION. The time base (R69–R98, R499): its commands, the references, the pull of DTIME, time of day, planned
relocks, and the events of the PPS, SYNC, marker, trigger-bus and timer inputs and outputs. -/
namespace Sys2Proof.Machine
open Sys2Proof

/-! ### Clock outputs (R90) -/

/-- PPSOUT and REFOUT may drive: SPLL clocks the core, outside Retention (R90, Table 17.8). -/
def Mach.clockOk (m : Mach) : Bool := m.tb.running && m.spllLocked && !m.fallback && m.dev != .retention

/-- REFOUT carries its frequency (1: 10 MHz, 2: 100 MHz) or holds low. -/
def Mach.refout (m : Mach) : Mach := m.pin .refout (if m.clockOk then m.rd TBS_OUT_REFOUT_SEL else 0)

/-- PPSOUT falls. -/
def Mach.ppsLow (m : Mach) : Mach :=
  if m.tb.ppsLeft.isSome then { m with tb := { m.tb with ppsLeft := none } }.pin .ppsout 0 else m

/-- PPSOUT_PULSE: PPSOUT rises at a whole second of DTIME, for 1 ms. -/
def Mach.ppsPulse (m : Mach) : Mach :=
  let ofs := m.tb.dt % (secDt * 2 ^ 40)
  if m.clockOk && m.on TBS_OUT_PPSOUT_EN && m.tb.ppsLeft.isNone && decide (ofs < m.cycInc) then
    { m with tb := { m.tb with ppsLeft := some (msDt * 2 ^ 40 - ofs) } }.pin .ppsout 1
  else m
def doPpsoutPulse (s : State) : State := s.upd Mach.ppsPulse
def execPpsoutPulse (s : State) : Host.Outcome State Fault Refusal := .next (doPpsoutPulse s)

/-! ### Disciplining (R79–R87) -/

/-- The selected source needs REFIN; it needs PPSIN (R79). -/
def Mach.usesRef (m : Mach) : Bool := bit (m.rd TBS_CFG_SRC) 0
def Mach.usesPps (m : Mach) : Bool := bit (m.rd TBS_CFG_SRC) 1
def Mach.srcOk (m : Mach) : Bool :=
  m.rd TBS_CFG_SRC != 0 && (!m.usesRef || m.on TBS_STATUS_REF_OK) && (!m.usesPps || m.on TBS_STATUS_PPS_OK)

def Mach.tpll (m : Mach) (st : Nat) : Mach := m.wr TBS_STATUS_TPLL_ST [] st

/-- The offset is to be removed by pulling. -/
def Mach.setOffset (m : Mach) (d : Int) : Mach := { m with tb := { m.tb with offset := d } }

/-- A time taken modulo a period into plus or minus half of it. -/
def wrapHalf (x : Int) (per : Nat) : Int :=
  let r := x % (per : Int)
  if (per : Int) < 2 * r then r - per else r

/-- The offset between DTIME and the reference's time, in DTIME units with 40 fractional bits: of REFIN's phase modulo its period
under SRC 1, else that of the last compensated PPSIN edge from a whole second (R83, R88).  The edges' time holds what TBS_PBO has
built out, unless a step is to remove that too (DESIGN CHOICE, assumption 135). -/
def Mach.refOffset (m : Mach) (phase : Int) : Int :=
  if m.usesPps then
    wrapHalf ((m.rd TBS_PPS_CAP : Int) - (if m.rd TBS_CFG_REALIGN = 2 then 0 else sext 64 (m.rd TBS_PBO))) secDt * 2 ^ 40
  else
    let f := max 1 (m.rd TBS_REF_FREQ_REF_FREQ)
    roundHalfEven (wrapHalf (phase * f) secDt * 2 ^ 40) f

/-- An offset to the nearest DTIME unit. -/
def unitsOf (off40 : Int) : Int := roundHalfEven off40 (2 ^ 40)

/-- Deal with the offset measured at qualification, in DTIME units with 40 fractional bits (R83). -/
def Mach.align (m : Mach) (sl : SealSt) (off40 : Int) : Mach :=
  let off := unitsOf off40
  if (off40.natAbs : Nat) ≤ m.rd TBS_CFG_PBO_THR * 1024 * 2 ^ 40 then (m.setOffset off40).tpll tpQualifying
  else match m.rd TBS_CFG_REALIGN with
    | 1 =>
      let m := (m.setOffset off40).tpll tpSlewing
      { m with tb := { m.tb with slewFrom := m.dtime } }
    | 2 => (m.setOffset off40).tpll tpStepPending
    | _ =>
      let pbo := enc 64 ((m.rd TBS_PBO : Int) + off)
      let m := ((m.wr TBS_PBO [] pbo).setOffset 0).tpll tpQualifying
      (m.raise 1 0x0012 0 [enc 64 off, pbo]).auditTime sl 0x12 (enc 64 off) pbo

/-- REF_QUALIFIED: REFIN, or PPSIN, has completed its qualification time; `phase` is what TPLL measures of REFIN, in DTIME
units. -/
def Mach.refQualified (m : Mach) (sl : SealSt) (pps : Bool) (phase : Int) : Mach :=
  let was := m.on (if pps then TBS_STATUS_PPS_OK else TBS_STATUS_REF_OK)
  let uses := if pps then m.usesPps else m.usesRef
  if !m.tb.running || was then m
  else
    let m := m.wr (if pps then TBS_STATUS_PPS_OK else TBS_STATUS_REF_OK) [] 1
    let off := m.refOffset phase
    if !uses then m
    else
      let m := m.raise 1 0x0011 0 [enc 64 (unitsOf off)]
      if !m.srcOk then m
      else if m.spllLocked && !m.fallback then m.align sl off
      else { m with tb := { m.tb with measured := some off } }
def doRefQualified (pps : Bool) (off : Int) (s : State) : State := s.upd fun m => m.refQualified s.hoopSeal.st pps off
def execRefQualified (pps : Bool) (off : Int) (s : State) : Host.Outcome State Fault Refusal :=
  .next (doRefQualified pps off s)

/-- TPLL coasts with its word held (R81): a slew or a pull stops where it stands (R87), and the blocks open now carry TB_COAST
(R82). -/
def Mach.coast (m : Mach) : Mach :=
  let m := (m.setOffset 0).tpll tpCoasting
  let m := { m with tb := { m.tb with measured := none, word := m.holdWord } }
  (m.markStitch m.stitch fTbCoast).logMark m.stitch fTbCoast

/-- REF_LOST: an edge of REFIN or PPSIN is missing (R81).  PPS_MISSING goes with it, and names the second after the last edge
(DESIGN CHOICE, assumption 133). -/
def Mach.refLost (m : Mach) (sl : SealSt) (pps : Bool) : Mach :=
  let F := if pps then TBS_STATUS_PPS_OK else TBS_STATUS_REF_OK
  let uses := if pps then m.usesPps else m.usesRef
  let st := m.rd TBS_STATUS_TPLL_ST
  if !m.tb.running then m
  else if !uses then m.wr F [] 0
  else if !m.on F && (st == tpCoasting || st == tpFree) then m
  else
    let code := if pps then 2 else 1
    let m := ((m.wr F [] 0).inc TBS_LOSS_CNT_REF_LOSS []).coast
    let m := ((m.fault 3).raise 1 0x0010 0 [] [code]).auditTime sl 0x10 code 0
    if pps then m.raise 1 0x0016 0 [(m.rd TBS_PPS_CAP + secDt) % 2 ^ 64] else m
def doRefLost (pps : Bool) (s : State) : State := s.upd fun m => m.refLost s.hoopSeal.st pps
def execRefLost (pps : Bool) (s : State) : Host.Outcome State Fault Refusal := .next (doRefLost pps s)

/-- TPLL_LOCKED: the offset is pulled in (R82, R83). -/
def Mach.tpllLocked (m : Mach) : Mach :=
  if m.srcOk && m.rd TBS_STATUS_TPLL_ST == tpQualifying && m.tb.offset == 0 && m.spllLocked then m.tpll tpLocked else m
def doTpllLocked (s : State) : State := s.upd Mach.tpllLocked
def execTpllLocked (s : State) : Host.Outcome State Fault Refusal := .next (doTpllLocked s)

/-- SLEW_DONE: the offset is within PBO_THR; the rest is pulled in by the locked loop. -/
def Mach.slewDone (m : Mach) : Mach :=
  if m.rd TBS_STATUS_TPLL_ST == tpSlewing && decide (m.tb.offset.natAbs ≤ m.rd TBS_CFG_PBO_THR * 1024 * 2 ^ 40) then
    (m.tpll tpLocked).raise 1 0x0013 0 [((m.dtime + 2 ^ 64 - m.tb.slewFrom) % 2 ^ 64) / msDt]
  else m
def doSlewDone (s : State) : State := s.upd Mach.slewDone
def execSlewDone (s : State) : Host.Outcome State Fault Refusal := .next (doSlewDone s)

/-- EPOCH increments, with effect from a core cycle on (R76, R86). -/
def Mach.epochFrom (m : Mach) (c : Nat) : Mach :=
  let m := m.wr TBS_EPOCH_EPOCH [] (m.epoch + 1)
  { m with tb := { m.tb with epochs := (c, m.epoch) :: m.tb.epochs } }

/-- EPOCH increments now. -/
def Mach.nextEpoch (m : Mach) : Mach := m.epochFrom m.cycles

/-- DTIME takes a value; blocks that span the change carry TB_EPOCH by their EPOCH (R86). -/
def Mach.setDt (m : Mach) (t40 : Int) : Mach := { m with tb := { m.tb with dt := (t40 % (2 ^ 104 : Nat)).toNat } }

/-- DTIME_STEP at a boundary at which no set is armed (R83, R85). -/
def Mach.dtimeStep (m : Mach) (sl : SealSt) : Mach :=
  if m.rd TBS_STATUS_TPLL_ST != tpStepPending || m.anyActive || !m.spllLocked || m.fallback then m
  else
    let off := m.tb.offset
    let m := (((m.setDt ((m.tb.dt : Int) - off)).nextEpoch).setOffset 0).wr TBS_PBO [] 0
    let d := enc 64 (-(off / 2 ^ 40))
    ((m.tpll tpLocked).raise 1 0x0014 0 [d] [m.epoch]).auditTime sl 0x14 d m.epoch

/-- DTIME_WRAP: DTIME has wrapped. -/
def Mach.dtimeWrap (m : Mach) : Mach :=
  match m.tb.wrapped with
  | some c =>
    let m := { m with tb := { m.tb with wrapped := none } }.epochFrom c
    m.raise 1 0x0015 0 [] [m.epoch]
  | none => m
def doDtimeWrap (s : State) : State := s.upd Mach.dtimeWrap
def execDtimeWrap (s : State) : Host.Outcome State Fault Refusal := .next (doDtimeWrap s)

/-! ### PPSIN and time of day (R88, R89) -/

/-- PPS_DELAY in DTIME units. -/
def Mach.ppsDelay (m : Mach) : Int := roundHalfEven (m.rdI TBS_PPS_DELAY_PPS_DELAY * 1024) 1000

/-- A pending TB_TOD is loaded so that DTIME has its value at the compensated edge. -/
def Mach.todLoad (m : Mach) (sl : SealSt) (cap : Int) : Mach :=
  match m.tb.tod with
  | none => m
  | some v =>
    let old := m.dtime
    let m := (m.setDt (((v : Int) + (old : Int) - cap) * 2 ^ 40)).nextEpoch
    let m := { m with tb := { m.tb with tod := none } }.wr TBS_STATUS_TOD_PENDING [] 0
    ((m.raise 1 0x0017 0 [old] [m.epoch]).auditTime sl 0x17 old m.epoch).finish 0x82 0 DONE m.epoch

/-- PPSIN_EDGE: a rising edge `ofs` DTIME units into the present cycle. -/
def Mach.ppsEdge (m : Mach) (sl : SealSt) (ofs : Nat) : Mach :=
  if !m.tb.running then m
  else
    let cap := (m.dtime : Int) + (ofs % (m.cycInc / 2 ^ 40 + 1) : Nat) - m.ppsDelay
    (m.wr TBS_PPS_CAP [] (enc 64 cap)).todLoad sl cap
def doPpsinEdge (ofs : Nat) (s : State) : State := s.upd fun m => m.ppsEdge s.hoopSeal.st ofs
def execPpsinEdge (ofs : Nat) (s : State) : Host.Outcome State Fault Refusal := .next (doPpsinEdge ofs s)

/-! ### TB_SOURCE (R79, R97) -/

/-- A TBS_CFG word that no field may hold (R97). -/
def tbsCfgBad (w : Nat) : Bool :=
  let bw := bits w 8 3
  bits w 2 2 == 3 || decide (8 < bits w 4 4) || decide (4 < bw) || decide (10 < bits w 11 4) ||
  (bits w 0 2 == 2 && bw != 3 && bw != 4)

def acq (_ : Mach) (_ : HostCmd) : Svc := .acq false

def ciTbSource : CmdInfo where
  op := 0x80
  masks := [0xFF7FFF, mask 32, mask 32]
  tgt := tgt0
  svc := acq
def ownTbSource (h : HostCmd) (s : State) : Option Nat :=
  let f := h.f 2 0 32
  firstOf [(!s.isOpen, SEALED), (decide (f < 10000000) || decide (500000000 < f), CLOCK_INVALID),
    (tbsCfgBad (h.f 1 0 32), BAD_FIELD), (!s.m.logTakes, SEAL_LOG_FULL), (s.m.committing, BUSY)]
/-- A new source qualifies afresh (R97). -/
def Mach.requalify (m : Mach) : Mach :=
  let m := m.wrs [(TBS_STATUS_REF_OK, [], 0), (TBS_STATUS_PPS_OK, [], 0)]
  let m := { m with tb := { m.tb with offset := 0, measured := none } }
  m.tpll (if m.rd TBS_CFG_SRC = 0 then tpFree else tpQualifying)
def applyTbSource (_ : HostCmd) (m : Mach) : Mach := m.requalify
/-- Region 6 is committed at once, and the change takes effect when its CHANGE entry is in flash (R387, R390). -/
def effTbSource (h : HostCmd) (_ : Nat) (s : State) : Mach := (s.m.commit [6] 0x80 (some h)).wait 0x80 h 0
def doTbSource (h : HostCmd) (s : State) : State := runCmd ciTbSource ownTbSource (lift effTbSource) h s
def execTbSource (h : HostCmd) (s : State) : Host.Outcome State Fault Refusal := .next (doTbSource h s)

/-! ### Leaving SPLL and coming back (R73, R91) -/

/-- The acquisition core moves to its fallback clock: clock outputs and MCLK stop, and every running pulse ends (R131). -/
def Mach.toFallback (m : Mach) : Mach :=
  let m := (m.wr TBS_STATUS_ACQ_FALLBACK [] 1).ppsLow.refout.mclkAll
  m.endPulses (fun _ => true) fun _ => m.cycles

/-- Channels whose sampling runs: enabled and not unused. -/
def Mach.enabledCh (m : Mach) : List Nat := allCh.filter fun n => m.on TIL_CH_CFG_ENABLE [n] && !m.unused n

def modStr : List Nat := (List.range 256).map (64 + ·)

/-- A planned relock begins at a boundary; when SPLL has been lost since the command was accepted, its next lock takes the
new rate. -/
def Mach.planRelock (m : Mach) (khz : Nat) : Mach :=
  let k := m.stitch
  let m := if m.spllLocked then (m.wr TBS_STATUS_SPLL_ST [] pllSearching).pin .lockS 0 else m
  let m := { m with tb := { m.tb with planned := true, newKhz := some khz, oldKhz := none, backDue := false } }
  let m := each m.enabledCh (fun m n => m.tail n) m
  let m := m.logGapAll m.enabledCh gcRate k
  let m := m.logGapAll modStr gcRate k
  let m := each m.enabledCh (fun m n =>
    let m := m.stopUnits n k
    (m.wr TIL_CH_STAT_STATE [n] chSettling).modChan n fun c => { c with held := true, estBad := true }) m
  if m.fallback then m else m.toFallback

/-- SPLL_LOCKED (R70, R91).  TBS_PLL_BAND shows the old band until then, and SPLL_ST of a loss stays 2 (DESIGN CHOICE,
assumption 134). -/
def Mach.spllLock (m : Mach) (band : Nat) : Mach :=
  if !m.tb.running || m.spllLocked then m
  else
    let m := ((m.wr TBS_STATUS_SPLL_ST [] pllLocked).wr TBS_PLL_BAND_SPLL_BAND [] band).pin .lockS 1
    let m := { m with tb := { m.tb with backDue := true } }
    m.raise 1 0x0002 0 [m.stitch + 1] [band]
def doSpllLocked (band : Nat) (s : State) : State := s.upd fun m => m.spllLock band
def execSpllLocked (band : Fin 64) (s : State) : Host.Outcome State Fault Refusal := .next (doSpllLocked band.val s)

/-- The core returns after a planned relock: channels settle, and the TB_RATE that waits completes with the first valid stitch
when none settles after it any more (R73). -/
def Mach.rateBack (m : Mach) : Mach :=
  let k := m.stitch
  let l := m.enabledCh
  let m := match m.tb.newKhz with | some f => m.wr TBS_SLICE_FREQ_SLICE_KHZ [] f | none => m
  let m := { m with tb := { m.tb with planned := false, newKhz := none } }
  let m := each l (fun m n => m.settle n k 16 2) m
  let m := (m.logGoodAll modStr gcRate k).logGoodAll allStr gcSpll k
  let m := each allSets (fun m s => m.comeBack s) m
  if l.isEmpty then m.finish 0x81 0 DONE (lo32 k) else m

/-- After a loss, rings restart empty, gaps close, sets re-arm and settling channels settle again. -/
def Mach.lossBack (m : Mach) : Mach :=
  let k := m.stitch
  let m := each allCh (fun m n =>
    if m.chIsOn n then
      (((m.modChan n fun c => { c.dry with firstValid := k }).restartRing n k).restartWatch n k)
    else if (m.chan n).going then m.modChan n fun c => { c.dry with firstValid := k }
    else if m.chState n = chSettling ∧ (m.chan n).settleFrom ≠ 0 ∧ !(m.chan n).held then
      m.settle n k ((m.chan n).firstValid - (m.chan n).settleFrom) (m.chan n).why
    else m) m
  let m := m.logGoodAll allStr gcSpll k
  each allSets (fun m s => m.comeBack s) m

/-- The core returns to SPLL at the boundary of the present stitch, once the records that a loss cuts are closed. -/
def Mach.spllReturn (m : Mach) (sl : SealSt) : Mach :=
  if !m.tb.backDue || !m.spllLocked || m.tb.lost.isSome then m
  else
    let m := (m.wr TBS_STATUS_ACQ_FALLBACK [] 0)
    let m := { m with tb := { m.tb with backDue := false } }
    let m := if m.tb.planned then m.rateBack else m.lossBack
    let m := m.mclkAll.refout
    match m.tb.measured with
    | some off => ({ m with tb := { m.tb with measured := none } }).align sl off
    | none => m

/-! ### TB_RATE (R73) -/

def ciTbRate : CmdInfo where
  op := 0x81
  masks := [mask 32]
  tgt := tgt0
  svc := acq
def ownTbRate (h : HostCmd) (s : State) : Option Nat :=
  let m := s.m
  let f := h.f 1 0 32
  firstOf [(m.anyActive || allGen.any m.gruns || (List.range 4).any m.tileCal ||
      allCh.any (fun n => m.on TIL_CH_STAT_LOOPBACK [n]), BUSY),
    (decide (f < 1000000) || decide (1250000 < f) || !m.spllLocked, CLOCK_INVALID)]
def effTbRate (h : HostCmd) (due : Nat) (s : State) : Mach := (s.m.at_ due (.cmd 0x81 h)).wait 0x81 h due
def applyTbRate (h : HostCmd) (m : Mach) : Mach := m.planRelock (h.f 1 0 32)
def doTbRate (h : HostCmd) (s : State) : State := runCmd ciTbRate ownTbRate (lift effTbRate) h s
def execTbRate (h : HostCmd) (s : State) : Host.Outcome State Fault Refusal := .next (doTbRate h s)

/-! ### TB_TOD (R89) -/

def ciTbTod : CmdInfo where
  op := 0x82
  masks := [mask 64]
  tgt := tgt0
  svc := acq
def ownTbTod (_ : HostCmd) (s : State) : Option Nat :=
  let m := s.m
  firstOf [(m.anyActive || m.on TBS_STATUS_TOD_PENDING, BUSY),
    (!m.usesPps || !m.on TBS_STATUS_PPS_OK, CLOCK_INVALID)]
def applyTbTod (h : HostCmd) (m : Mach) : Mach :=
  { m with tb := { m.tb with tod := some (h.word 1) } }.wr TBS_STATUS_TOD_PENDING [] 1
/-- The value waits for the next edge; a primary that mirrors applies it at the stitch its partner does. -/
def effTbTod (h : HostCmd) (due : Nat) (s : State) : Mach :=
  (if s.m.mirroring then (s.m.at_ due (.cmd 0x82 h)).wr TBS_STATUS_TOD_PENDING [] 1 else applyTbTod h s.m).wait 0x82 h due
def doTbTod (h : HostCmd) (s : State) : State := runCmd ciTbTod ownTbTod (lift effTbTod) h s
def execTbTod (h : HostCmd) (s : State) : Host.Outcome State Fault Refusal := .next (doTbTod h s)

/-! ### TB_SPREAD, TB_OUTPUTS, TB_SYNC -/

def ciTbSpread : CmdInfo where
  op := 0x83
  masks := [0x7F7F]
  tgt := tgt0
  svc := anySvc
/-- MODE 3, or a DEPTH that a spreading MODE may not have (Table 3.2). -/
def spreadBad (mode depth : Nat) : Bool := mode == 3 || (mode != 0 && (depth == 0 || decide (5 < depth)))
/-- MPLL centre spread is not allowed at the present memory rate (R74). -/
def Mach.centreBad (m : Mach) (mode : Nat) : Bool := mode == 2 && m.rd MEM_CFG_RATE == 2
def ownTbSpread (h : HostCmd) (s : State) : Option Nat :=
  firstOf [(spreadBad (h.f 1 0 2) (h.f 1 2 3) || spreadBad (h.f 1 8 2) (h.f 1 10 3), BAD_FIELD),
    (s.m.centreBad (h.f 1 8 2), CLOCK_INVALID)]
def effTbSpread (h : HostCmd) (_ : Nat) (s : State) : Mach :=
  (s.m.wrs [(TBS_SPREAD_CPLL_MODE, [], h.f 1 0 2), (TBS_SPREAD_CPLL_DEPTH, [], h.f 1 2 3),
    (TBS_SPREAD_CPLL_RATE, [], h.f 1 5 2), (TBS_SPREAD_MPLL_MODE, [], h.f 1 8 2),
    (TBS_SPREAD_MPLL_DEPTH, [], h.f 1 10 3), (TBS_SPREAD_MPLL_RATE, [], h.f 1 13 2)]).done h 0
def doTbSpread (h : HostCmd) (s : State) : State := runCmd ciTbSpread ownTbSpread (lift effTbSpread) h s
def execTbSpread (h : HostCmd) (s : State) : Host.Outcome State Fault Refusal := .next (doTbSpread h s)

def ciTbOutputs : CmdInfo where
  op := 0x84
  masks := [mask 3]
  tgt := tgt0
  svc := anySvc
def ownTbOutputs (h : HostCmd) (_ : State) : Option Nat := firstOf [(h.f 1 0 2 == 3, BAD_FIELD)]
def applyTbOutputs (h : HostCmd) (m : Mach) : Mach :=
  let m := m.wrs [(TBS_OUT_REFOUT_SEL, [], h.f 1 0 2), (TBS_OUT_PPSOUT_EN, [], h.f 1 2 1)]
  (if h.b 1 2 then m else m.ppsLow).refout
def doTbOutputs (h : HostCmd) (s : State) : State := runCmd ciTbOutputs ownTbOutputs (lift (later 0x84)) h s
def execTbOutputs (h : HostCmd) (s : State) : Host.Outcome State Fault Refusal := .next (doTbOutputs h s)

def ciTbSync : CmdInfo where
  op := 0x85
  masks := [mask 64]
  tgt := tgt0
  svc := acq
def ownTbSync (h : HostCmd) (s : State) : Option Nat := firstOf [(decide (h.word 1 < s.m.stitch + 2), BAD_FIELD)]
def applyTbSync (h : HostCmd) (m : Mach) : Mach :=
  if h.word 1 < m.stitch then m else { m with tb := { m.tb with syncs := sins m.tb.syncs (h.word 1) } }
def effTbSync (h : HostCmd) (_ : Nat) (s : State) : Mach := (applyTbSync h s.m).done h (h.word 1)
def doTbSync (h : HostCmd) (s : State) : State := runCmd ciTbSync ownTbSync (lift effTbSync) h s
def execTbSync (h : HostCmd) (s : State) : Host.Outcome State Fault Refusal := .next (doTbSync h s)

/-- SYNCOUT carries a pulse of one stitch; pending MODE 1 starts follow it (R90, R257). -/
def Mach.syncOut (m : Mach) : Mach :=
  let k := m.stitch
  let m := if k ≠ 0 ∧ m.tb.syncs.contains (k - 1) ∧ !m.tb.syncs.contains k then m.pin .syncout 0 else m
  let m := if m.tb.syncs.contains k then (m.pin .syncout 1).genSync k else m
  { m with tb := { m.tb with syncs := m.tb.syncs.filter fun x => decide (k ≤ x) } }

/-! ### Inputs -/

/-- Delay of trigger-bus line `l`, or of SYNC at 16, that a formed pair takes off input times, in DTIME units with 40
fractional bits (R406). -/
def Mach.twlDelay (m : Mach) (l : Nat) : Nat :=
  if m.formed then divRound (m.rd TWL_DLY_DELAY [l] * 1024 * 2 ^ 40) 1000 else 0

/-- SYNCIN_PULSE: the leading edge is sampled in the present cycle. -/
def Mach.syncIn (m : Mach) : Mach :=
  if !m.tb.running then m
  else m.genSync (if m.tb.cyc * m.cycInc < m.twlDelay 16 then m.stitch - 1 else m.stitch)
def doSyncinPulse (s : State) : State := s.upd Mach.syncIn
def execSyncinPulse (s : State) : Host.Outcome State Fault Refusal := .next (doSyncinPulse s)

/-- Pad delay of a line, in DTIME units with 40 fractional bits: 1.10 ns for a marker, 0.70 ns for a trigger-bus line. -/
def padDelay (l : Nat) : Nat := divRound ((if l < 96 then 11264 else 7168) * 2 ^ 40) 10

/-- MARKER_INPUT_EDGE: an input line is sampled at a new level at the opening of the present cycle (R111, R129).  As a pattern
input its state is the level after INV (DESIGN CHOICE, assumption 139). -/
def Mach.markerEdge (m : Mach) (l : Nat) (high : Bool) : Mach :=
  if m.ioOut l || !m.tb.running || m.on TRG_IO_PIN_STATE [l] == high then m
  else
    let m := m.wb TRG_IO_PIN_STATE [l] high
    if m.aliveLine l then { m with pair := { m.pair with quiet := 0 } }
    else
      let c := m.cycles
      let t := toT (m.tb.dt - padDelay l - (if l < 96 then 0 else m.twlDelay (l - 96)))
      let v := high != m.on TRG_IO_INV [l]
      let arr := c + 4
      let m := m.putPChg { sid := 0x180 + l, v := v, t := t, arr := arr / 256, arrC := arr }
      if v then m.putEv { sid := 0x180 + l, t := t, arr := arr / 256, arrC := arr } else m
def doMarkerInputEdge (l : Nat) (high : Bool) (s : State) : State := s.upd fun m => m.markerEdge l high
def execMarkerInputEdge (line : Fin 112) (high : Bool) (s : State) : Host.Outcome State Fault Refusal :=
  .next (doMarkerInputEdge line.val high s)

/-- TIMER_FIRE: the period of a timer has elapsed (R132). -/
def Mach.timerFire (m : Mach) (r : Nat) : Mach :=
  match tfind m.trg.timers r with
  | some c =>
    if m.tb.running && decide (c ≤ m.cycles) then
      let t := if c = m.cycles then toT m.tb.dt else m.cycleT (c / 256) (c % 256)
      let m := m.putEv { sid := 0x218 + r, t := t, arr := c / 256, arrC := c }
      { m with trg := { m.trg with timers := tins m.trg.timers r (c + m.rd TRG_TMR_PER_PERIOD [r]) } }
    else m
  | none => m
def doTimerFire (r : Nat) (s : State) : State := s.upd fun m => m.timerFire r
def execTimerFire (r : Fin 4) (s : State) : Host.Outcome State Fault Refusal := .next (doTimerFire r.val s)

/-- TRIG_OUT_PULSE: the leading edges of a set's pulses that are due (R126). -/
def Mach.trigOutPulse (m : Mach) (s : Nat) : Mach :=
  if m.fallback then m else m.startPulses fun p => p.set == s && !p.started && decide (p.from_ ≤ m.cycles)
def doTrigOutPulse (t : Nat) (s : State) : State := s.upd fun m => m.trigOutPulse t
def execTrigOutPulse (t : Fin 16) (s : State) : Host.Outcome State Fault Refusal := .next (doTrigOutPulse t.val s)

end Sys2Proof.Machine
end

