-- ==== Sys2Proof/Machine/Dma.lean ====
section
/-! DEFINITION. The bulk DMA engine (R356–R376). -/
namespace Sys2Proof.Machine
open Sys2Proof

/-! ### Channels -/
def dsUnbound : Nat := 0
def dsIdle : Nat := 1
def dsRunning : Nat := 2
def dsPausing : Nat := 3
def dsPaused : Nat := 4
def dsHalted : Nat := 5
def dsError : Nat := 6

def allDma : List Nat := List.range 32
def Mach.dch (m : Mach) (k : Nat) : DmaCh := tget {} m.dma.ch k
def Mach.setDch (m : Mach) (k : Nat) (v : DmaCh) : Mach := { m with dma := { m.dma with ch := tput {} m.dma.ch k v } }
def Mach.modDch (m : Mach) (k : Nat) (f : DmaCh → DmaCh) : Mach := m.setDch k (f (m.dch k))
def Mach.dmaSt (m : Mach) (k : Nat) : Nat := m.rd DMA_CH_STAT_STATE [k]
def Mach.setDmaSt (m : Mach) (k st : Nat) : Mach := m.wr DMA_CH_STAT_STATE [k] st
def Mach.dmaHead (m : Mach) (k : Nat) : Nat := m.rd DMA_CH_STAT_HEAD [k]
def Mach.dmaTail (m : Mach) (k : Nat) : Nat := m.rd DMA_DB_TAIL [k]
def Mach.dmaSize (m : Mach) (k : Nat) : Nat := 2 ^ m.rd DMA_CH_CFG_LOG2SIZE [k]
def Mach.dmaHalted (m : Mach) : Bool := m.on DMA_STAT_HALTED
def Mach.dmaHeld (m : Mach) (k : Nat) : Bool := m.on DMA_CH_CTL_PAUSE [k] || m.on DMA_CH_STAT_MEM_PAUSE [k]

/-- The state in which a bound channel stands when it neither moves data nor waits for reads. -/
def Mach.dmaRest (m : Mach) (k : Nat) : Nat :=
  if !m.on DMA_CH_CFG_BOUND [k] then dsUnbound
  else if m.dmaHalted then dsHalted
  else if m.rd DMA_CH_STAT_FAULT [k] ≠ 0 then dsError
  else if m.dmaHeld k then dsPaused
  else if (m.dch k).desc.isSome || m.dmaHead k != m.dmaTail k then dsRunning
  else dsIdle
def Mach.dmaShow (m : Mach) (k : Nat) : Mach := m.setDmaSt k (m.dmaRest k)

/-- Move the head past the present entry (R357). -/
def Mach.dmaAdvance (m : Mach) (k : Nat) : Mach :=
  let m := m.wr DMA_CH_STAT_HEAD [k] ((m.dmaHead k + 1) % m.dmaSize k)
  m.modDch k fun c => { c with seq := (c.seq + 1) % 65536, rereads := 0 }

/-! ### Descriptors (R360–R362) -/
def dConv (w : List Nat) : Nat := bits (w.getD 0 0) 0 3
def dShuf (w : List Nat) : Nat := bits (w.getD 0 0) 3 2
def dSrcDram (w : List Nat) : Bool := bit (w.getD 0 0) 5
def dDstDram (w : List Nat) : Bool := bit (w.getD 0 0) 6
def dHalf (w : List Nat) : Bool := bit (w.getD 0 0) 7
def dDone (w : List Nat) : Bool := bit (w.getD 0 0) 8
def dUrgent (w : List Nat) : Bool := bit (w.getD 0 0) 9
/-- Bit-plane word width in bits. -/
def dWidth (w : List Nat) : Nat := 8 * 2 ^ bits (w.getD 0 0) 12 2
def dTag (w : List Nat) : Nat := bits (w.getD 0 0) 32 16
def dSrc (w : List Nat) : Nat := w.getD 1 0
def dDst (w : List Nat) : Nat := w.getD 2 0
def dLen (w : List Nat) : Nat := bits (w.getD 3 0) 0 40
def dMembers (w : List Nat) : Nat := bits (w.getD 4 0) 0 7
def dFirst (w : List Nat) : Nat := bits (w.getD 4 0) 8 11
def dNsamp (w : List Nat) : Nat := bits (w.getD 4 0) 24 40
def dStride (w : List Nat) : Nat := w.getD 5 0
def dUser (w : List Nat) : Nat := w.getD 7 0
/-- SHUF 1 and 2 read a record slot. -/
def dSlot (w : List Nat) : Bool := dShuf w == 1 || dShuf w == 2

/-- Source and destination bits of a sample (Table 12.2); record slots hold P12 with CONV 0. -/
def srcW (w : List Nat) : Nat := if dSlot w && dConv w == 0 then 12 else [8, 12, 16, 32, 16].getD (dConv w) 8
def dstW (w : List Nat) : Nat := if dSlot w && dConv w == 0 then 12 else [8, 16, 12, 16, 32].getD (dConv w) 8

/-- One converted sample (Table 12.2). -/
def convCode (conv x : Nat) : Nat :=
  match conv with
  | 1 => enc 16 (sext 12 x * 16)
  | 2 => enc 12 (p12 (sext 16 x))
  | 3 => enc 16 (sat16 (roundHalfEven (sext 24 (bits x 8 24)) 256))
  | 4 => x <<< 16
  | _ => x

/-- What has to be taken in all: bytes, or samples of a record slot. -/
def dTotal (w : List Nat) : Nat := if dSlot w then dMembers w * dNsamp w else dLen w

/-- Words of a bit-plane transfer. -/
def dWords (w : List Nat) : Nat := dLen w / (dWidth w / 8)

/-- Bytes from the destination's first to its last. -/
def dSpan (w : List Nat) : Nat :=
  match dShuf w with
  | 1 => (dMembers w - 1) * dStride w + ceilDiv (dNsamp w * dstW w) 8
  | 2 => ceilDiv (dMembers w * dNsamp w * dstW w) 8
  | 3 => (dWidth w - 1) * dStride w + ceilDiv (dWords w) 8
  | _ => ceilDiv (dLen w * 8 / srcW w * dstW w) 8

/-- Destination bytes of a linear descriptor (R363). -/
def dBytes (w : List Nat) : Nat := dSpan w

def slotBlk (w : List Nat) : Nat := if dConv w = 2 then 4096 else 3072
/-- Source bytes of a record slot (R361), or LENGTH. -/
def dSrcSpan (w : List Nat) : Nat := if dSlot w then nbRows (dNsamp w) * dMembers w * slotBlk w else dLen w

/-- Fields and reserved bits (check 2 of R362). -/
def Mach.descBad (m : Mach) (k : Nat) (w : List Nat) : Bool :=
  let c := dConv w
  let w0 := w.getD 0 0
  bits w0 14 18 != 0 || bits (w.getD 3 0) 40 24 != 0 || bit (w.getD 4 0) 7 || bits (w.getD 4 0) 19 5 != 0 ||
  w.getD 6 0 != 0 || (dSrcDram w && decide (2 ^ 40 ≤ dSrc w)) || (dDstDram w && decide (2 ^ 40 ≤ dDst w)) ||
  (!dSrcDram w && !dDstDram w) || (bit w0 10 && !m.on DMA_CH_CFG_NOSNOOP_OK [k]) ||
  (bit w0 11 && !m.on DMA_CH_CFG_RELAXED_OK [k]) || decide (4 < c) || (dHalf w && dShuf w != 0) ||
  (if dSlot w then
    dLen w != 0 || !dSrcDram w || decide (2 < c) || dMembers w == 0 || decide (64 < dMembers w) ||
      (dShuf w == 1 && decide (dStride w < ceilDiv (dNsamp w * dstW w) 8))
  else
    dLen w == 0 || (c == 1 && dLen w % 3 != 0) || (c == 2 && dLen w % 2 != 0) || (c == 3 && dLen w % 4 != 0) ||
      (c == 4 && dLen w % 2 != 0) ||
      (dShuf w == 3 && (c != 0 || dLen w % (dWidth w / 8) != 0 || decide (dStride w < ceilDiv (dWords w) 8))))

/-- A DRAM range of usable addresses within one area (R361). -/
def Mach.dmaRange (m : Mach) (a n : Nat) : Bool :=
  n == 0 || (m.rangeUsable a (a + n) && match m.areaAt a with
    | some i => decide (a + n ≤ m.areaBase i + m.areaSize i)
    | none => false)

/-- Checks 2 to 4 of a descriptor. -/
def Mach.descRefusal (m : Mach) (k : Nat) (w : List Nat) : Option Nat :=
  firstOf [(m.descBad k w, BAD_FIELD), (!m.memOk, CLOCK_INVALID),
    ((dSrcDram w && !m.dmaRange (dSrc w) (dSrcSpan w)) || (dDstDram w && !m.dmaRange (dDst w) (dSpan w)), NO_AREA)]

/-! ### Events (R370) -/

/-- Raise an event of a descriptor; URGENT lets its message go at once. -/
def Mach.dmaEvent (m : Mach) (code k : Nat) (w : List Nat) (short : List Nat) : Mach :=
  m.evPut (evRec m.dtime m.epoch 8 code k [dUser w] short (dUrgent w))

def Mach.descDoneEv (m : Mach) (k : Nat) (w : List Nat) (status : Nat) : Mach := m.dmaEvent 1 k w [dTag w, status]

/-! ### Positions shown in registers (R371) -/

/-- Byte address of a sample of a record slot, by member and index, and its bit offset. -/
def slotAt (w : List Nat) (p j : Nat) : Nat × Nat :=
  let x := dFirst w + j
  let b := dSrc w + (x / 2048 * dMembers w + p) * slotBlk w
  let bit_ := x % 2048 * srcW w
  (b + bit_ / 8, bit_ % 8)

/-- Member and index of the sample at a position of the order in which samples are written (R365). -/
def slotOrder (w : List Nat) (pos : Nat) : Nat × Nat :=
  if dShuf w = 1 then (pos / dNsamp w, pos % dNsamp w) else (pos % dMembers w, pos / dMembers w)

/-- Destination bit, counted from DST, of the sample at a position. -/
def slotDst (w : List Nat) (pos : Nat) : Nat :=
  if dShuf w = 1 then 8 * (pos / dNsamp w * dStride w) + pos % dNsamp w * dstW w else pos * dstW w

def Mach.dmaRegs (m : Mach) (k : Nat) : Mach :=
  let c := m.dch k
  match c.desc with
  | none => m
  | some w =>
    let sr := if dSlot w then let x := slotOrder w c.pos; (slotAt w x.1 x.2).1 else dSrc w + c.pos
    let ds := match dShuf w with
      | 0 => dDst w + c.wr
      | 3 => dDst w + c.pos / (dWidth w / 8) / 8
      | _ => dDst w + slotDst w c.pos / 8
    let left := if dSlot w then ceilDiv ((dTotal w - c.pos) * srcW w) 8 else dLen w - c.pos
    m.wrs [(DMA_CH_SRC, [k], sr), (DMA_CH_DST, [k], ds), (DMA_CH_LEFT, [k], left), (DMA_CH_HOLD_BITS, [k], c.bits)]

/-! ### Halt (R373) -/
def dhCompletion : Nat := 1
def dhPoison : Nat := 2
def dhTimeout : Nat := 3
def dhDram : Nat := 4
def dhFetch : Nat := 5

def Mach.dmaHalt (m : Mach) (cause : Nat) (ch : Option Nat) (dram : Bool) (addr : Nat) : Mach :=
  if m.dmaHalted then m
  else
    let m := m.wrs [(DMA_STAT_HALTED, [], 1), (DMA_STAT_CAUSE, [], cause), (DMA_STAT_CH, [], ch.getD 63),
      (DMA_STAT_SPACE, [], dram.toNat), (DMA_ERR, [], addr)]
    let m := m.inc DMA_HALTS_COUNT []
    let m := each allDma (fun m k => m.dmaShow k) m
    (m.fault 40).raise 8 3 (ch.getD 0xFFFF) [addr] [cause]

/-! ### Fetch (R357, R362) -/

/-- The channel may fetch its next descriptor. -/
def Mach.dmaFetches (m : Mach) (k : Nat) : Bool :=
  m.hostUp && m.on DMA_CH_CFG_BOUND [k] && !m.dmaHalted && !m.dmaHeld k && !(m.dch k).stalled &&
  m.rd DMA_CH_STAT_FAULT [k] == 0 && (m.dch k).desc.isNone && m.dmaHead k != m.dmaTail k && m.dev == .full

def Mach.dmaFail (m : Mach) (k : Nat) (w : List Nat) (st : Nat) : Mach :=
  ((m.wr DMA_CH_STAT_FAULT [k] st).descDoneEv k w st).dmaShow k

/-- DMA_DESCRIPTOR_FETCH: the entry at the head, as read.  A stale one stays at the head (R334). -/
def Mach.dmaFetch (m : Mach) (k : Nat) (w : List Nat) : Mach :=
  let c := m.dch k
  if !m.dmaFetches k then m
  else
    let m := m.emit (.read (m.rd DMA_CH_RING [k] + 64 * m.dmaHead k) 64 1 false)
    if bits (w.getD 0 0) 48 16 ≠ c.seq then
    if c.rereads < 4 then m.setDch k { c with rereads := c.rereads + 1 }
    else ((m.setDch k { c with rereads := 0 }).fault 41).dmaFail k w QUEUE_STALE
  else match m.descRefusal k w with
    | some st => (m.dmaAdvance k).dmaFail k w st
    | none =>
      let m := m.modDch k fun c => { c with desc := some w, pos := 0, wr := 0, held := 0, bits := 0, half := false, rereads := 0 }
      (m.setDmaSt k dsRunning).dmaRegs k
def doDmaDescriptorFetch (k : Nat) (ws : List Nat) (s : State) : State := s.upd fun m => m.dmaFetch k ws
def execDmaDescriptorFetch (k : Fin 32) (ws : List (BitVec 64)) (s : State) : Host.Outcome State Fault Refusal :=
  .next (doDmaDescriptorFetch k.val (ws.map BitVec.toNat) s)

/-! ### Moving data (R358, R363–R366) -/

/-- The descriptor has source data left and may move it. -/
def Mach.dmaActive (m : Mach) (k : Nat) : Bool :=
  match (m.dch k).desc with
  | none => false
  | some w => m.dmaSt k == dsRunning && !m.dmaHalted && !m.dmaHeld k && decide ((m.dch k).pos < dTotal w) &&
      (m.hostUp || (dSrcDram w && dDstDram w))

/-- The channel whose turn it is: the next active one after the last served. -/
def Mach.dmaTurn (m : Mach) : Option Nat :=
  ((List.range 32).map fun i => (m.dma.last + 1 + i) % 32).find? m.dmaActive

/-- Pack codes of `width` bits, first lowest. -/
def packBits (width : Nat) (codes : List Nat) : Nat := codes.foldr (fun c a => c % 2 ^ width + a <<< width) 0

/-- Write destination bytes of channel `k`; RO sets relaxed ordering on the writes to host memory (R359). -/
def State.dmaWrite (s : State) (k : Nat) (dram : Bool) (a : Nat) (bs : List (BitVec 8)) : State :=
  let ro := match (s.m.dch k).desc with
    | some w => bit (w.getD 0 0) 11
    | none => false
  if dram then s.writeBytes 3 (.dma k) a bs else { s with m := s.m.emit (.host a bs 3 ro (.dma k)) }

/-- DESC_HALF, once the first half of the destination is written and acknowledged (R369). -/
def Mach.dmaHalfEv (m : Mach) (k : Nat) : Mach :=
  let c := m.dch k
  match c.desc with
  | none => m
  | some w =>
    let half := ceilDiv (dBytes w) 2
    let busy := dDstDram w && m.mem.queue.any fun r => r.src == .dma k && decide (r.line * 64 < dDst w + half)
    if dHalf w && !c.half && decide (half ≤ c.wr) && !busy then
      (m.setDch k { c with half := true }).dmaEvent 2 k w [dTag w]
    else m

/-- Source lines of a unit that do not read correctly. -/
def State.dmaBad (s : State) (unc : List Nat) (a n : Nat) : Option Nat :=
  if n = 0 then none
  else ((List.range ((a + n - 1) / 64 + 1 - a / 64)).map (a / 64 + ·)).find? fun l => s.linePoison l || unc.contains l

/-- One unit of a linear or bit-plane transfer: `n` source bytes. -/
def State.dmaLinear (s : State) (k : Nat) (w : List Nat) (n : Nat) (bytes : List (BitVec 8)) : State :=
  let c := s.m.dch k
  if dShuf w = 3 then
    let wd := dWidth w
    let x := ofBytes bytes
    let cnt := n / (wd / 8)
    let i0 := c.pos / (wd / 8)
    let s := each (List.range wd) (fun s b =>
      let v := packBits 1 ((List.range cnt).map fun i => bits x (wd * i + b) 1)
      s.dmaWrite k (dDstDram w) (dDst w + b * dStride w + i0 / 8) (toBytes (ceilDiv cnt 8) v)) s
    { s with m := s.m.setDch k { c with pos := c.pos + n, wr := c.wr + wd * ceilDiv cnt 8 } }
  else
    let x := c.held + ofBytes bytes <<< c.bits
    let tot := c.bits + 8 * n
    let cnt := tot / srcW w
    let v := packBits (dstW w) ((List.range cnt).map fun i => convCode (dConv w) (bits x (srcW w * i) (srcW w)))
    let nb := ceilDiv (cnt * dstW w) 8
    let s := s.dmaWrite k (dDstDram w) (dDst w + c.wr) (toBytes nb v)
    { s with m := s.m.setDch k { c with pos := c.pos + n, wr := c.wr + nb, held := x >>> (srcW w * cnt),
                                        bits := tot - srcW w * cnt } }

/-- One unit of a record slot: `n` samples from the present position, which stay within one plane. -/
def State.dmaSamples (s : State) (k : Nat) (w : List Nat) (n : Nat) : State :=
  let c := s.m.dch k
  let codes := (List.range n).map fun i =>
    let x := slotOrder w (c.pos + i)
    let (a, o) := slotAt w x.1 x.2
    convCode (dConv w) (bits (ofBytes (s.bytes a 3)) o (srcW w))
  let d := slotDst w c.pos
  let nb := ceilDiv (n * dstW w) 8
  let s := s.dmaWrite k (dDstDram w) (dDst w + d / 8) (toBytes nb (packBits (dstW w) codes))
  { s with m := s.m.setDch k { c with pos := c.pos + n, wr := c.wr + nb } }

/-- Samples that the next unit of a record slot takes: 4 KiB of source, an even number, within one plane. -/
def slotUnit (w : List Nat) (pos : Nat) : Nat :=
  let u := if srcW w = 12 then 2730 else 2048
  min u (if dShuf w = 1 then dNsamp w - pos % dNsamp w else dTotal w - pos)

/-- DMA_TRANSFER_UNIT: 4 KiB of source data of the channel whose turn it is.  `data` is what host memory holds there. -/
def State.dmaUnit (s : State) (k : Nat) (data : List (BitVec 8)) (unc : List Nat) : State :=
  match s.m.dmaTurn, (s.m.dch k).desc with
  | some t, some w =>
    if t ≠ k then s
    else
      let c := s.m.dch k
      let s := { s with m := { s.m with dma := { s.m.dma with last := k } } }
      let n := if dSlot w then slotUnit w c.pos else min 4096 (dLen w - c.pos)
      let bad := if dSlot w then
          (List.range n).findSome? fun i =>
            let x := slotOrder w (c.pos + i)
            s.dmaBad unc (slotAt w x.1 x.2).1 2
        else if dSrcDram w then s.dmaBad unc (dSrc w + c.pos) n else none
      match bad with
      | some l =>
        let s := if unc.contains l then s.readLine l (.uncorrectable 7) else s
        { s with m := s.m.dmaHalt dhDram (some k) true (64 * l) }
      | none =>
        let s := if dSlot w || dSrcDram w then s else s.upd fun m => m.emit (.read (dSrc w + c.pos) n 3 (bit (w.getD 0 0) 10))
        let s := if dSlot w then s.dmaSamples k w n
          else s.dmaLinear k w n (if dSrcDram w then s.bytes (dSrc w + c.pos) n
            else (data ++ List.replicate (n - data.length) 0).take n)
        { s with m := (s.m.dmaRegs k).dmaHalfEv k }
  | _, _ => s
def doDmaTransferUnit (k : Nat) (data : List (BitVec 8)) (unc : List Nat) (s : State) : State := s.dmaUnit k data unc
def execDmaTransferUnit (k : Fin 32) (data : List (BitVec 8)) (unc : List Nat) (s : State) :
    Host.Outcome State Fault Refusal := .next (doDmaTransferUnit k.val data unc s)

/-- DESC_DONE: every destination write of the descriptor is done (R367, R368). -/
def Mach.descDone (m : Mach) (k : Nat) : Mach :=
  match (m.dch k).desc with
  | none => m
  | some w =>
    if m.dmaHalted || decide ((m.dch k).pos < dTotal w) || (dDstDram w && m.mem.queue.any fun r => r.src == .dma k) then m
    else
      let m := m.dmaHalfEv k
      let m := (m.dmaAdvance k).inc DMA_CH_CNT_DONE [k]
      let m := if dDone w then m.descDoneEv k w DONE else m
      let m := m.modDch k fun c => { c with desc := none }
      if m.dmaSt k = dsPausing then m else m.dmaShow k
def doDescDone (k : Nat) (s : State) : State := s.upd fun m => m.descDone k
def execDescDone (k : Fin 32) (s : State) : Host.Outcome State Fault Refusal := .next (doDescDone k.val s)

/-! ### Pause (R371, R372) -/

/-- Setting PAUSE: no new reads. -/
def Mach.dmaPause (m : Mach) (k : Nat) : Mach :=
  let m := m.wr DMA_CH_CTL_PAUSE [k] 1
  if m.dmaSt k = dsRunning ∨ m.dmaSt k = dsIdle then m.setDmaSt k dsPausing else m
def doDmaPause (k : Nat) (s : State) : State := s.upd fun m => m.dmaPause k
def execDmaPause (k : Fin 32) (s : State) : Host.Outcome State Fault Refusal := .next (doDmaPause k.val s)

/-- DMA_PAUSED: the last outstanding read has returned. -/
def Mach.dmaPaused (m : Mach) (k : Nat) : Mach :=
  if m.dmaSt k = dsPausing then (m.setDmaSt k dsPaused).dmaRegs k else m
def doDmaPaused (k : Nat) (s : State) : State := s.upd fun m => m.dmaPaused k
def execDmaPaused (k : Fin 32) (s : State) : Host.Outcome State Fault Refusal := .next (doDmaPaused k.val s)

/-- Clearing PAUSE: the channel goes on from where it stands, unless MEM_PAUSE or a halt holds it. -/
def Mach.dmaResume (m : Mach) (k : Nat) : Mach :=
  let m := m.wr DMA_CH_CTL_PAUSE [k] 0
  if m.dmaHeld k then m else m.dmaShow k
def doDmaResume (k : Nat) (s : State) : State := s.upd fun m => m.dmaResume k
def execDmaResume (k : Fin 32) (s : State) : Host.Outcome State Fault Refusal := .next (doDmaResume k.val s)

/-- An MPLL loss pauses channels whose descriptor names DRAM. -/
def Mach.dmaMemPause (m : Mach) : Mach :=
  each allDma (fun m k =>
    if (m.dch k).desc.isNone then m
    else
      let m := m.wr DMA_CH_STAT_MEM_PAUSE [k] 1
      if m.dmaSt k = dsRunning then m.setDmaSt k dsPausing else m) m

/-- They resume after MEM_REINIT. -/
def Mach.dmaMemBack (m : Mach) : Mach :=
  each allDma (fun m k =>
    if m.on DMA_CH_STAT_MEM_PAUSE [k] then
      let m := m.wr DMA_CH_STAT_MEM_PAUSE [k] 0
      if m.dmaHeld k then m else m.dmaShow k
    else m) m

/-! ### Doorbell (R331, R332, R356) -/

/-- An invalid doorbell is counted. -/
def Mach.dbBad (m : Mach) : Mach := m.inc HIF_DB_ERR_COUNT []

/-- A new tail does not move backwards. -/
def dbForward (size head old new_ : Nat) : Bool :=
  decide (new_ < size) && decide ((old + size - head) % size ≤ (new_ + size - head) % size)

def Mach.dmaDoorbell (m : Mach) (k v : Nat) : Mach :=
  let t := v % 4096
  if !m.on DMA_CH_CFG_BOUND [k] || !dbForward (m.dmaSize k) (m.dmaHead k) (m.dmaTail k) t then m.dbBad
  else
    let m := (m.wr DMA_DB_TAIL [k] t).modDch k fun c => { c with stalled := false }
    let m := m.wr DMA_CH_STAT_FAULT [k] 0
    if m.dmaSt k = dsPausing then m else m.dmaShow k
def doDmaDoorbellWrite (k v : Nat) (s : State) : State := s.upd fun m => if m.hostUp then m.dmaDoorbell k v else m
def execDmaDoorbellWrite (k : Fin 32) (v : BitVec 32) (s : State) : Host.Outcome State Fault Refusal :=
  .next (doDmaDoorbellWrite k.val v.toNat s)

/-! ### Commands (R374, R376) -/

def ciDmaBind : CmdInfo where
  op := 0xC0
  masks := [0x30F, mask 64]
  tgt := below 32
def ownDmaBind (h : HostCmd) (s : State) : Option Nat :=
  let m := s.m
  let st := m.dmaSt h.tgt
  firstOf [(st != dsUnbound && st != dsIdle && st != dsHalted, BUSY),
    (h.f 1 0 4 == 0 || decide (12 < h.f 1 0 4) || h.f 2 0 12 != 0, BAD_FIELD), (m.dmaHalted, DMA_HALTED)]
def effDmaBind (h : HostCmd) (_ : Nat) (s : State) : Mach :=
  let k := h.tgt
  let m := s.m.wrs [(DMA_CH_CFG_BOUND, [k], 1), (DMA_CH_CFG_LOG2SIZE, [k], h.f 1 0 4),
    (DMA_CH_CFG_NOSNOOP_OK, [k], h.f 1 8 1), (DMA_CH_CFG_RELAXED_OK, [k], h.f 1 9 1), (DMA_CH_RING, [k], h.word 2),
    (DMA_CH_STAT_HEAD, [k], 0), (DMA_DB_TAIL, [k], 0), (DMA_CH_STAT_FAULT, [k], 0), (DMA_CH_STAT_STATE, [k], dsIdle)]
  (m.setDch k {}).done h k
def doDmaBind (h : HostCmd) (s : State) : State := runCmd ciDmaBind ownDmaBind (lift effDmaBind) h s
def execDmaBind (h : HostCmd) (s : State) : Host.Outcome State Fault Refusal := .next (doDmaBind h s)

def ciDmaUnbind : CmdInfo where
  op := 0xC1
  masks := []
  tgt := below 32
def ownDmaUnbind (h : HostCmd) (s : State) : Option Nat :=
  let st := s.m.dmaSt h.tgt
  firstOf [(st != dsIdle && st != dsError && st != dsHalted, BUSY), (s.m.dmaHalted, DMA_HALTED)]
def effDmaUnbind (h : HostCmd) (_ : Nat) (s : State) : Mach :=
  let k := h.tgt
  let left := (s.m.dmaTail k + s.m.dmaSize k - s.m.dmaHead k) % s.m.dmaSize k
  let m := s.m.wrs [(DMA_CH_CFG_BOUND, [k], 0), (DMA_CH_CFG_LOG2SIZE, [k], 0), (DMA_CH_CFG_NOSNOOP_OK, [k], 0),
    (DMA_CH_CFG_RELAXED_OK, [k], 0), (DMA_CH_STAT_HEAD, [k], 0), (DMA_DB_TAIL, [k], 0), (DMA_CH_STAT_FAULT, [k], 0),
    (DMA_CH_STAT_STATE, [k], dsUnbound)]
  (m.setDch k {}).done h left
def doDmaUnbind (h : HostCmd) (s : State) : State := runCmd ciDmaUnbind ownDmaUnbind (lift effDmaUnbind) h s
def execDmaUnbind (h : HostCmd) (s : State) : Host.Outcome State Fault Refusal := .next (doDmaUnbind h s)

def ciDmaRecover : CmdInfo where
  op := 0xC2
  masks := [1]
  tgt := tgt0
def ownDmaRecover (_ : HostCmd) (s : State) : Option Nat := firstOf [(!s.m.dmaHalted, WRONG_STATE)]
/-- MODE 1 abandons the descriptors in progress. -/
def effDmaRecover (h : HostCmd) (_ : Nat) (s : State) : Mach :=
  let mode := h.f 1 0 1
  let busy := allDma.filter fun k => (s.m.dch k).desc.isSome
  let m := s.m.wr DMA_STAT_HALTED [] 0
  let m := if mode = 1 then each busy (fun m k =>
      let m := match (m.dch k).desc with | some w => m.descDoneEv k w DMA_HALTED | none => m
      (m.dmaAdvance k).modDch k fun c => { c with desc := none }) m else m
  let m := each allDma (fun m k => m.dmaShow k) m
  (m.raise 8 4 0 [] [mode]).done h (if mode = 1 then busy.length else 0)
def doDmaRecover (h : HostCmd) (s : State) : State := runCmd ciDmaRecover ownDmaRecover (lift effDmaRecover) h s
def execDmaRecover (h : HostCmd) (s : State) : Host.Outcome State Fault Refusal := .next (doDmaRecover h s)

end Sys2Proof.Machine
end

