-- ==== Sys2Proof/Machine/Faults.lean ====
section
/-! DEFINITION. The fault block (R431–R437), errors of SRAM, and the fault and maintenance commands (R450, R501). -/
namespace Sys2Proof.Machine
open Sys2Proof

/-! ### Windows -/
def injected : Nat := 65536
def allSrc : List Nat := List.range 64
def emptyBuckets : List FBucket := List.replicate 8 {}

def Mach.fbuckets (m : Mach) (src : Nat) : List FBucket := tget emptyBuckets m.flt.buckets src
def Mach.setBuckets (m : Mach) (src : Nat) (l : List FBucket) : Mach :=
  { m with flt := { m.flt with buckets := tput emptyBuckets m.flt.buckets src l } }
def windowCount (l : List FBucket) : Nat := l.foldl (fun a b => a + b.n) 0
/-- Real counts of the window, newest first. -/
def windowReal (l : List FBucket) : List (Nat × Nat) := l.flatMap FBucket.real

/-- Enter one count into the open bucket, which saturates. -/
def enterCount (l : List FBucket) (c : FltCount) : List FBucket :=
  match l with
  | [] => []
  | b :: t => { n := min 65535 (b.n + c.n), real := if c.inst = injected then b.real else (c.inst, c.n) :: b.real } :: t

/-- Close the open bucket. -/
def closeBucket (l : List FBucket) : List FBucket := ({} :: l).take 8

/-- Buckets close at the boundary of the present stitch (R432); `t0` and `t1` are the latched DTIME of the stitch before
and of this one. -/
def Mach.closeBuckets (m : Mach) (t0 t1 : Nat) : Mach :=
  each (m.flt.buckets.map Prod.fst) (fun m src =>
    let w := m.rd FLT_SRC_CFG_WLEN [src] / 8
    let ends := if m.on FLT_SRC_CFG_WUNIT [src] then t0 / (w * msDt) != t1 / (w * msDt) else m.stitch % w == 0
    if ends then m.setBuckets src (closeBucket (m.fbuckets src)) else m) m

/-- Counts of the stitch that ended wait for the next slot. -/
def Mach.countsDue (m : Mach) : Mach := { m with flt := { m.flt with due := m.flt.due ++ m.flt.pend, pend := [] } }

def Mach.flasting (m : Mach) (src : Nat) : Bool := m.on FLT_SRC_STAT_LASTING [src]
def Mach.setLasting (m : Mach) (src : Nat) (b : Bool) : Mach :=
  (m.wb FLT_SRC_STAT_LASTING [src] b).wr FLT_LASTING [] (setBit (m.rd FLT_LASTING) src b)

/-! ### Actions (Table 15.2) -/
def faCount : Nat := 0
def faEvent : Nat := 2
def faDegrade : Nat := 3
def faSpare : Nat := 4
def faTakeover : Nat := 5
def faSelvedge : Nat := 6

/-- A degrade effect stands in Table 15.1. -/
def hasDegrade (src : Nat) : Bool :=
  [0, 1, 4, 5, 8, 10, 13, 45, 46].contains src || (decide (20 ≤ src) && decide (src ≤ 35))
/-- The degrade effect applies to the channel or generator that was counted. -/
def needsInst (src : Nat) : Bool := src == 4 || src == 5 || src == 13

/-- The rank with most corrected reads in the window. -/
def topRank (l : List (Nat × Nat)) : Option Nat :=
  let tot := fun (r : Nat) => (l.filter fun x => x.1 == r).foldl (fun a x => a + x.2) 0
  let best := [0, 1, 2, 3].foldl (fun b r => if tot b < tot r then r else b) 0
  if tot best = 0 then none else some best

/-- Write one entry to the fault history, a ring of 32 (R435). -/
def Mach.history (m : Mach) (src action wc : Nat) : Mach :=
  let e := [src + action * 2 ^ 8 + wc * 2 ^ 16 + m.rd FLT_SRC_ACT_THRESH [src] * 2 ^ 36, m.dtime, m.epoch, 0]
  let l := (m.flt.hist ++ [e]).drop (m.flt.hist.length - 31)
  ({ m with flt := { m.flt with hist := l } }).wr FLT_HIST_CNT_HELD [] l.length

/-- A source becomes LASTING: its action runs once.  `inst` is the instance of the count that completed the threshold. -/
def Mach.faultAction (m : Mach) (src wc : Nat) (inst : Option Nat) : Mach :=
  let a := m.rd FLT_SRC_ACT_ACTION [src]
  let m := if a = faCount then m else m.history src a wc
  let m := if a < faEvent then m else m.raise 11 0x0001 src [wc] [a]
  let full := m.dev == .full
  if a = faDegrade then
    if !full || (needsInst src && inst.isNone) then m else m.at_ (m.stitch + 1) (.fault src (inst.getD 0) a)
  else if a = faSpare then
    if !full then m
    else match topRank (windowReal (m.fbuckets src)) with
      | some r => m.migRequest (src - 20) r 1
      | none => m
  else if a = faTakeover then
    if full && m.role == rolePrimary then { m with pair := { m.pair with takeReq := true } } else m
  else if a = faSelvedge then
    if m.dev == .selvedge then m else m.at_ (m.stitch + 1) (.fault src 0 a)
  else m

/-- The instance of the count that completes the threshold; an injected one stands for the latest real count. -/
def countCompleting (thresh : Nat) : List FBucket → List FltCount → Option Nat
  | l, [] => (windowReal l).head?.map Prod.fst
  | l, c :: cs =>
    let l' := enterCount l c
    if thresh ≤ windowCount l' then
      (if c.inst = injected then (windowReal l').head?.map Prod.fst else some c.inst)
    else countCompleting thresh l' cs

/-- One source in the fault-window slot (R432, R433). -/
def Mach.faultSlot (m : Mach) (src : Nat) : Mach :=
  let cs := m.flt.due.filter fun c => c.src == src
  if !m.on FLT_SRC_CFG_EN [src] then m
  else
    let l0 := m.fbuckets src
    let l := cs.foldl enterCount l0
    let m := m.setBuckets src l
    let m := m.add FLT_SRC_TOTAL_TOTAL [src] (cs.foldl (fun a c => a + c.n) 0)
    let wc := windowCount l
    let th := m.rd FLT_SRC_ACT_THRESH [src]
    let m := m.wr FLT_SRC_STAT_WCOUNT [src] wc
    if !m.flasting src then
      if th ≤ wc then (m.setLasting src true).faultAction src wc (countCompleting th l0 cs) else m
    else if !m.on FLT_SRC_CFG_LATCH [src] && decide (wc < th) then
      (m.setLasting src false).raise 11 0x0002 src [wc] []
    else m

/-- FAULT_WINDOW_SLOT: counts enter, every source is classed, and an injection learns its window count. -/
def Mach.faultWindow (m : Mach) : Mach :=
  let due := m.flt.due
  let m := each allSrc (fun m src => m.faultSlot src) m
  let m := { m with flt := { m.flt with due := [] } }
  each ((due.filter fun c => c.inst == injected).map FltCount.src) (fun m src =>
    m.finish 0xE2 src DONE (m.rd FLT_SRC_STAT_WCOUNT [src])) m
def doFaultWindowSlot (s : State) : State := s.upd fun m => m.inSlot 4 Mach.faultWindow
def execFaultWindowSlot (s : State) : Host.Outcome State Fault Refusal := .next (doFaultWindowSlot s)

/-! ### Errors of SRAM (R154, R437) -/

/-- A queue's fetch has failed: it stalls (R334). -/
def Mach.queueStall (m : Mach) (q : Nat) : Mach := m.wrs [(HIF_Q_STAT_STALLED, [q], 1), (HIF_Q_STAT_BUS_ERR, [q], 1)]

/-- Invert the high half of the word that holds a CHECK. -/
def badCheck (w : List Nat) (i : Nat) : List Nat := w.set i (w.getD i 0 ^^^ (mask 32 * 2 ^ 32))

/-- The CHECK of a record's measurement lines stands in word 7 of its first line. -/
def Mach.sramUser (m : Mach) : SramUser → Mach
  | .acc t l => m.accPoison t l
  | .prk i =>
    { m with cap := { m.cap with prk := tins m.cap.prk i (badCheck (tget (List.replicate 8 0) m.cap.prk i) 7) } }
  | .meas l =>
    { m with acc := { m.acc with lines := tins m.acc.lines l (badCheck (m.measLine l) 7) } }
  | .queue q => m.queueStall q
  | .other => m

/-- An error met in SRAM by a scrub step or a read. -/
def Mach.sramErr (m : Mach) (e : SramEcc) : Mach :=
  match e.ring, e.corrected with
  | some ch, true => (m.inc CAP_RING_ECC_CORR [ch.val]).fault 8 ch.val
  | some ch, false => ((m.inc CAP_RING_ECC_UNC [ch.val]).fault 9 ch.val).raise 2 0x0033 ch.val
  | none, true => (m.inc FLT_SRAM_ERR_CE []).fault 10
  | none, false => (((m.inc FLT_SRAM_ERR_UE []).fault 11).raise 11 0x0006 0 [e.offset]).sramUser e.user

/-! ### Commands (Tables 15.8 and 15.9) -/

def ciFltConfig : CmdInfo where
  op := 0xE0
  masks := [mask 31 + mask 19 * 2 ^ 32]
  tgt := below 64
  svc := anySvc
def ownFltConfig (h : HostCmd) (_ : State) : Option Nat :=
  let w := h.f 1 0 28
  let act := h.f 1 48 3
  firstOf [(w % 8 != 0 || decide (w < 8) || decide (268435448 < w) || h.f 1 32 16 == 0 || act == 7 ||
    (act == faSpare && (decide (h.tgt < 20) || decide (35 < h.tgt))) || (act == faDegrade && !hasDegrade h.tgt), BAD_FIELD)]
def applyFltConfig (h : HostCmd) (m : Mach) : Mach :=
  let k := h.tgt
  let m := m.wrs [(FLT_SRC_CFG_WLEN, [k], h.f 1 0 28), (FLT_SRC_CFG_WUNIT, [k], h.f 1 28 1),
    (FLT_SRC_CFG_LATCH, [k], h.f 1 29 1), (FLT_SRC_CFG_EN, [k], h.f 1 30 1), (FLT_SRC_ACT_THRESH, [k], h.f 1 32 16),
    (FLT_SRC_ACT_ACTION, [k], h.f 1 48 3), (FLT_SRC_STAT_WCOUNT, [k], 0)]
  (m.setBuckets k emptyBuckets).setLasting k false
def doFltConfig (h : HostCmd) (s : State) : State := runCmd ciFltConfig ownFltConfig (lift (later 0xE0)) h s
def execFltConfig (h : HostCmd) (s : State) : Host.Outcome State Fault Refusal := .next (doFltConfig h s)

def ciFltClear : CmdInfo where
  op := 0xE1
  masks := []
  tgt t := decide (t < 64) || t == 0xFFFF
  svc := anySvc
def effFltClear (h : HostCmd) (_ : Nat) (s : State) : Mach :=
  let l := if h.tgt = 0xFFFF then allSrc else [h.tgt]
  let m := each l (fun m k => ((m.setBuckets k emptyBuckets).setLasting k false).wr FLT_SRC_STAT_WCOUNT [k] 0) s.m
  let m := { m with flt := { m.flt with degraded := m.flt.degraded.filter fun x => !l.contains x } }
  m.done h l.length
def doFltClear (h : HostCmd) (s : State) : State := runCmd ciFltClear (fun _ _ => none) (lift effFltClear) h s
def execFltClear (h : HostCmd) (s : State) : Host.Outcome State Fault Refusal := .next (doFltClear h s)

def ciFltInject : CmdInfo where
  op := 0xE2
  masks := [mask 16]
  tgt := below 64
  svc := anySvc
def ownFltInject (h : HostCmd) (_ : State) : Option Nat := firstOf [(h.f 1 0 16 == 0, BAD_FIELD)]
/-- The counts enter like real ones; the command completes with the window count after they have (R450). -/
def effFltInject (h : HostCmd) (_ : Nat) (s : State) : Mach :=
  (s.m.faultN h.tgt (h.f 1 0 16) injected).wait 0xE2 h 0
def doFltInject (h : HostCmd) (s : State) : State := runCmd ciFltInject ownFltInject (lift effFltInject) h s
def execFltInject (h : HostCmd) (s : State) : Host.Outcome State Fault Refusal := .next (doFltInject h s)

def ciFltHistory : CmdInfo where
  op := 0xE3
  masks := [mask 64]
  tgt := tgt0
  svc := anySvc
def ownFltHistory (h : HostCmd) (_ : State) : Option Nat := firstOf [(!aligned64 (h.word 1), BAD_FIELD)]
/-- FLT_HISTORY's data is a diagnostic read: Table 15.5 does not name it (DESIGN CHOICE, assumption 148). -/
def effFltHistory (h : HostCmd) (_ : Nat) (s : State) : Mach :=
  let l := s.m.flt.hist
  let ws := (List.range 32).flatMap fun i => l.getD i [0, 0, 0, 0]
  (s.m.hostWords (h.word 1) ws 5 h.owner).done h l.length
def doFltHistory (h : HostCmd) (s : State) : State := runCmd ciFltHistory ownFltHistory (lift effFltHistory) h s
def execFltHistory (h : HostCmd) (s : State) : Host.Outcome State Fault Refusal := .next (doFltHistory h s)

def ciMaintCfg : CmdInfo where
  op := 0xE4
  masks := [mask 21]
  tgt := tgt0
  svc := anySvc
def ownMaintCfg (h : HostCmd) (_ : State) : Option Nat := firstOf [(decide (20 < h.f 1 16 5) || h.f 1 0 16 == 0, BAD_FIELD)]
def applyMaintCfg (h : HostCmd) (m : Mach) : Mach :=
  m.wrs [(FLT_MAINT_CFG_DEFER_LIMIT, [], h.f 1 0 16), (FLT_MAINT_CFG_SS_LOG2, [], h.f 1 16 5)]
def doMaintCfg (h : HostCmd) (s : State) : State := runCmd ciMaintCfg ownMaintCfg (lift (later 0xE4)) h s
def execMaintCfg (h : HostCmd) (s : State) : Host.Outcome State Fault Refusal := .next (doMaintCfg h s)

def ciCcSelftest : CmdInfo where
  op := 0xE5
  masks := []
  tgt := below 4
  svc := anySvc
/-- The step itself starts in a maintenance slot (R444). -/
def effCcSelftest (h : HostCmd) (_ : Nat) (s : State) : Mach := (s.m.maint actCcTest h.tgt [] (some h)).1
def doCcSelftest (h : HostCmd) (s : State) : State := runCmd ciCcSelftest (fun _ _ => none) (lift effCcSelftest) h s
def execCcSelftest (h : HostCmd) (s : State) : Host.Outcome State Fault Refusal := .next (doCcSelftest h s)

def ciSramScrub : CmdInfo where
  op := 0xE6
  masks := []
  tgt := tgt0
  svc := anySvc
def ownSramScrub (_ : HostCmd) (s : State) : Option Nat := firstOf [(s.m.flt.scrub.isSome, BUSY)]
def effSramScrub (h : HostCmd) (_ : Nat) (s : State) : Mach :=
  if s.m.runs actSramScrub 0 then
    -- a periodic step stands for the request of the pass's first step
    ({ s.m with flt := { s.m.flt with scrub := some ⟨0, s.m.dtime, true, false⟩ } }).wait 0xE6 h 0
  else
    let (m, go) := s.m.maint actSramScrub 0 [] (some h)
    if go then
      let m := { m with flt := { m.flt with
        scrub := some ⟨0, m.dtime, true, false⟩,
        running := m.flt.running.map fun (r : MReq) => if r.act = actSramScrub then { r with cmd := none } else r } }
      m.wait 0xE6 h 0
    else m
def doSramScrub (h : HostCmd) (s : State) : State := runCmd ciSramScrub ownSramScrub (lift effSramScrub) h s
def execSramScrub (h : HostCmd) (s : State) : Host.Outcome State Fault Refusal := .next (doSramScrub h s)

/-- A pass that a degrade effect asks for. -/
def Mach.sramPass (m : Mach) : Mach :=
  if m.flt.scrub.isSome then m
  else
    let m := { m with flt := { m.flt with scrub := some ⟨0, m.dtime, false, false⟩ } }
    if m.runs actSramScrub 0 then m else (m.maint actSramScrub 0 [] none).1

/-- Steps of one pass over the SRAM. -/
def scrubSteps : Nat := 24576

/-- A step of SRAM scrubbing ends; the last of a pass reports the pass time. -/
def Mach.sramStepEnd (m : Mach) : Mach :=
  match m.flt.running.find? fun r => r.act == actSramScrub && r.args == [1] with
  | none => m
  | some r =>
    let m := if r.was && r.cmd.isNone then m.maintEnd actSramScrub 0 0
      else { m with flt := { m.flt with running := m.flt.running.filter fun x => x.act != actSramScrub } }.maintRegs
    match m.flt.scrub with
    | none => { m with flt := { m.flt with scrubAt := (m.flt.scrubAt + 1) % scrubSteps } }
    | some p =>
      if p.next + 1 < scrubSteps then { m with flt := { m.flt with scrub := some { p with next := p.next + 1 } } }
      else
        let us := (m.dtime - p.since) / usDt
        let m := { m with flt := { m.flt with scrub := none } }
        if p.was then m.raise 11 0x0005 actSramScrub [us] [0, 0] else m.finish 0xE6 0 DONE us

def ciMaintCancel : CmdInfo where
  op := 0xE7
  masks := [mask 16]
  tgt := below 12
  svc := anySvc
def ownMaintCancel (h : HostCmd) (s : State) : Option Nat := firstOf [(!s.m.waiting h.tgt (h.f 1 0 16), WRONG_STATE)]
/-- With the step of a fast scrub pass the rest of the pass of that channel goes (assumption 62). -/
def effMaintCancel (h : HostCmd) (_ : Nat) (s : State) : Mach :=
  let a := h.tgt
  let i := h.f 1 0 16
  let m := { s.m with flt := { s.m.flt with deferred := s.m.flt.deferred.filter fun r => !(r.act == a && r.inst == i) } }.maintRegs
  let m := m.raise 11 0x0005 a [0] [i, 1]
  let m := if a = actBgCal then each (tileCh i) (fun m n => m.inc TIL_EST_CNT_SKIPS [n]) m
    else if a = actScrub then { m with mem := { m.mem with fast := tdel m.mem.fast i } }.fastShow
    else m
  m.done h a
def doMaintCancel (h : HostCmd) (s : State) : State := runCmd ciMaintCancel ownMaintCancel (lift effMaintCancel) h s
def execMaintCancel (h : HostCmd) (s : State) : Host.Outcome State Fault Refusal := .next (doMaintCancel h s)

end Sys2Proof.Machine
end

