-- ==== Sys2Proof/Machine/Pair.lean ====
section
/-! DEFINITION. Redundant pairs and the Twist link (R401–R430): roles, mirror frames, the secondary, takeover, training,
the twin check, and the commands 0xA0–0xA6. -/
namespace Sys2Proof.Machine
open Sys2Proof

def Mach.modPair (m : Mach) (f : Pair → Pair) : Mach := { m with pair := f m.pair }

/-- A new role; every change of role sets the alert (R418). -/
def Mach.setRole (m : Mach) (r : Nat) : Mach :=
  if m.role = r then m
  else
    let m := m.wr TWL_STAT_ROLE [] r
    if r = roleForming then m else m.alert HIF_ALERT_STAT_PAIR_TAKEOVER

def Mach.linkDown (m : Mach) : Mach := m.wrs [(TWL_STAT_LINK_UP, [], 0), (TWL_STAT_LANES, [], 0)]

/-- This device mirrors or follows over a link that is up. -/
def Mach.linked (m : Mach) : Bool := (m.role == rolePrimary || m.role == roleSecondary) && m.on TWL_STAT_LINK_UP
def Mach.retraining (m : Mach) : Bool := m.on TWL_STAT_RETRAIN

/-! ### Divergence (R415, R416) -/

/-- A divergence on either device: event, alert and fault count. -/
def Mach.divergence (m : Mach) (s t : Nat) : Mach :=
  ((m.raise 10 0x0003 0 [t / 256] [s]).alert HIF_ALERT_STAT_PAIR_DIVERGE).fault 47

/-- A divergence that the secondary finds, for its next frame. -/
def Mach.diverge (m : Mach) (F : Fld) (s t : Nat) : Mach :=
  ((m.inc F []).modPair fun p => { p with divs := p.divs ++ [FrDiv.mk s t] }).divergence s t

/-- An entry is that of a set's trigger at T. -/
def isEntryOf (s t : Nat) (w : List Nat) : Bool :=
  w.getD 1 0 == t / 256 % 2 ^ 64 && bits (w.getD 2 0) 0 8 == t % 256 && bits (w.getD 2 0) 24 4 == s

/-- The primary marks the record of a trigger that the secondary reports (R416). -/
def Mach.markDiverge (m : Mach) (s t : Nat) : Mach :=
  let f := fun (w : List Nat) => if isEntryOf s t w then flagEntry fDiverge w else w
  let prk := m.cap.prk.map fun (p : Nat × List Nat) => (p.1, f p.2)
  let outq := m.cap.outq.map fun (o : RecOut) => { o with words := f o.words }
  let m := { m with cap := { m.cap with prk := prk, outq := outq } }
  m.modPset s fun p => { p with recd := p.recd.map fun (r : OpenRec) =>
    if r.t = t then { r with flags := r.flags ||| fDiverge } else r }

/-- |T − T'| is within DIV_TOL. -/
def Mach.withinTol (m : Mach) (a b : Nat) : Bool :=
  decide (((a : Int) - b).natAbs * 1000 ≤ m.rd TWL_CFG_DIV_TOL * 2 ^ 18)

/-- Mark the first element that meets a condition; the truth value says that there was one. -/
def markFirst (c : OwnTrig → Bool) : List OwnTrig → List OwnTrig × Bool
  | [] => ([], false)
  | x :: t => if c x then ({ x with matched := true } :: t, true) else let (t', b) := markFirst c t; (x :: t', b)

/-! ### The secondary's slots (R411, R413) -/

/-- One trigger of frame `k`. -/
def Mach.frTrig (m : Mach) (k : Nat) (tr : FrTrig) : Mach :=
  let (own, ok) := markFirst (fun o => !o.matched && o.set == tr.set && decide (k ≤ o.stitch + 1) &&
    decide (o.stitch ≤ k + 1) && m.withinTol o.t tr.t) m.pair.own
  let m := m.modPair fun p => { p with own := own }
  let m := if ok then m else m.diverge TWL_DIV_PRI_ONLY tr.set tr.t
  m.openRecord tr.set tr (flagIf (!ok) fDiverge)

/-- Open a record for an own trigger, with MIRROR_DIVERGE (R413, R419). -/
def Mach.ownOpen (m : Mach) (o : OwnTrig) : Mach :=
  if m.setState o.set = siArmed then m.openRecord o.set (m.trigOf o.set o.t) fDiverge else m

/-- Own decisions stand in for the frames of some stitches. -/
def Mach.standIn (m : Mach) (ks : List Nat) : Mach :=
  let l := sortBy (fun (a b : OwnTrig) => decide (a.t ≤ b.t)) (m.pair.own.filter fun o => ks.contains o.stitch)
  each l Mach.ownOpen m

/-- Own triggers whose stitch has left the window after frame `k` diverge when no frame matched them. -/
def Mach.ownLeave (m : Mach) (k : Nat) : Mach :=
  let out := m.pair.own.filter fun o => decide (o.stitch + 1 ≤ k)
  let m := m.modPair fun p => { p with own := p.own.filter fun o => !decide (o.stitch + 1 ≤ k) }
  each (out.filter fun o => !o.matched) (fun m o => m.diverge TWL_DIV_SEC_ONLY o.set o.t) m

/-- A generator record of the primary (R421): 0 trip, 1 stop, 2 jump, 3 advance. -/
def Mach.frGen (m : Mach) (x : FrGen) : Mach :=
  let g := x.gen
  let v := m.gst g
  if !m.gruns g || v.ramp.isSome then m
  else match x.kind with
    | 0 =>
      let m0 := if m.gsampleAt g m.cycles ≤ x.sample then x.sample else v.n
      let len := max 1 (divRound (m.rd GEN_GUARD_RAMP_RAMP_US [g] * m.rd TBS_SLICE_FREQ_SLICE_KHZ) 1000)
      let m := m.setGst g { v with ramp := some (m0, len), next := none, jump := none, adv := none,
                                   stopEnd := none, parkAt := none }
      m.wrs [(GEN_STAT_RAMPING, [g], 1), (GEN_STAT_TRIP_GUARD, [g], x.arg), (GEN_STAT_JUMP_PENDING, [g], 0)]
    | 1 => m.setGst g { v with parkAt := some (max v.n x.sample) }
    | 2 =>
      if v.jump.isSome then
        let e := m.seqWord g x.arg
        (m.jumpDone g v.n x.arg).enterEntry g v.n x.arg e (m.segWords g (seqSeg e))
      else m
    | _ =>
      if m.rd GEN_ADV [g] = x.sample then m
      else match v.play with
        | some p =>
          if seqLast p.e then m.genDone g v.n p.idx 2
          else
            let i := if seqJump p.e then seqTarget p.e else (p.idx + 1) % 4096
            let e := m.seqWord g i
            (m.advDone g v.n).enterEntry g v.n i e (m.segWords g (seqSeg e))
        | none => m

/-- The frame that this stitch's slots apply, and the missed stitches whose own decisions come before it: those of a run
that this frame ends, or during a retrain the one two stitches back. -/
def Mach.frameNow (m : Mach) : Option MirrorFrame × List Nat :=
  let k := m.stitch - 2
  match m.pair.inbox.find? fun f => f.stitch == k with
  | some f => (some f, m.pair.missed.filter fun x => decide (x < k))
  | none => (none, if m.retraining then m.pair.missed.filter fun x => decide (x ≤ k) else [])

/-- The qualification slot of a secondary: stand-ins, then the frame's triggers and generator records. -/
def Mach.pairQual (m : Mach) : Mach :=
  let (f, ks) := m.frameNow
  let m := m.standIn ks
  match f with
  | none => m
  | some f =>
    let m := each f.trigs (fun m tr => m.frTrig f.stitch tr) m
    (each f.gens (fun m x => m.frGen x) m).ownLeave f.stitch

/-- A record that only its frame closes: take its samples and write its full rows. -/
def Mach.takeOnly (m : Mach) (s : Nat) : Mach :=
  match (m.pset s).recd with
  | none => m
  | some r =>
    let r := m.takeRec s r
    let done := (((r.trig - r.pre) % 2048) + r.got) / 2048
    let m := m.writeRows s r r.rows done
    m.modPset s fun p => { p with recd := some { r with rows := max r.rows done, flags := r.flags ||| m.recBlkFlags s r } }

/-- A close of the primary: the record ends with the POST that the frame states. -/
def Mach.frClose (m : Mach) (c : FrClose) : Mach :=
  match (m.pset c.set).recd with
  | none => m
  | some r =>
    if r.seg ≠ c.seg then m
    else
      let a := m.takeRec c.set { r with post := c.post, cut := none }
      let last := m.outStitch (m.lead c.set) (a.trig - a.pre + a.got - 1)
      let cut := match c.cause with | 1 => some (Cut.arrived (m.stitch * 256)) | 2 => some (Cut.stitch last) | _ => none
      m.closeRec c.set { a with post := r.post, cut := cut } (c.cause == 3)

/-- A set enters ARMED at the primary's instant; an own would-be trigger after it was an accepted one. -/
def Mach.frArm (m : Mach) (a : FrArm) : Mach :=
  let m := if m.rd TRG_SET_STAT_SEQ [a.set] = 0 then m.startProgram a.set true else m
  let m := m.enter a.set siArmed
  let later := sortBy (fun (x y : OwnTrig) => decide (x.t ≤ y.t)) (m.pair.cand.filter fun c => c.set == a.set && decide (a.t ≤ c.t))
  let m := m.modPset a.set fun p => { p with rearm := false, prog := { p.prog with armedFrom := if later.isEmpty then some a.t else none } }
  match later with
  | c :: _ => m.modPair fun p => { p with own := p.own ++ [c], cand := p.cand.filter fun x => x != c }
  | [] => m

/-- One set of a secondary when its own decisions stand in. -/
def Mach.bookOwn (m : Mach) (s : Nat) : Mach :=
  let m := m.bookRecord s
  if (m.pset s).rearm then m.tryArm s else m

/-- The takeover's replay of own triggers from the first missed stitch on (R419). -/
def Mach.replay (m : Mach) : Mach :=
  let f := m.pair.firstMiss
  let l := sortBy (fun (a b : OwnTrig) => decide (a.t ≤ b.t)) (m.pair.own.filter fun o => decide (f ≤ o.stitch))
  (each l Mach.ownOpen m).modPair fun p => { p with own := [], cand := [], missed := [] }

/-- The pair's part of the bookkeeping slot: the frame's closes and arms, or the replay of a takeover that begins. -/
def Mach.pairBook (m : Mach) : Mach :=
  let m := if m.pair.takeover = some m.stitch then m.replay else m
  let (f, ks) := m.frameNow
  let m := if ks.isEmpty || !m.follows then m else each allSets (fun m s => m.bookOwn s) m
  let m := m.modPair fun p => { p with
    missed := p.missed.filter fun x => !ks.contains x
    cand := p.cand.filter fun c => decide (m.stitch ≤ c.stitch + 8) }
  match f with
  | none => m
  | some f =>
    let m := each f.closes (fun m c => m.frClose c) m
    let m := each f.arms (fun m a => m.frArm a) m
    m.modPair fun p => { p with inbox := p.inbox.filter fun x => decide (f.stitch < x.stitch) }

/-- At cycle 128 of the stitch after detection, the secondary that takes over is PRIMARY (R419). -/
def Mach.takeoverEnd (m : Mach) : Mach :=
  match m.pair.takeover with
  | some d =>
    if d < m.stitch then
      let f := m.pair.firstMiss
      let m := (m.modPair fun p => { p with takeover := none, expect := none }).wr TWL_PSEQ_PSEQ [] (m.pair.expect.getD (m.rd TWL_PSEQ_PSEQ))
      (m.setRole rolePrimary).raise 10 0x0004 0 [d, f] []
    else m
  | none => m

/-! ### Frames (R409, R410) -/

/-- The frame of the present stitch. -/
def Mach.frameOf (m : Mach) (digest : Nat) (hs : SealSt) : MirrorFrame :=
  let p := m.pair
  let base : MirrorFrame := {
    stitch := m.stitch, dtime := m.latchDt m.stitch, epoch := (m.latch m.stitch).epoch, role := m.role,
    strap := m.on TWL_STAT_STRAP_PRI, devState := m.rd HIF_DEV_STATE, splls := m.rd TBS_STATUS_SPLL_ST,
    mplls := m.rd TBS_STATUS_MPLL_ST, tplls := m.rd TBS_STATUS_TPLL_ST, lasting := popcount 64 (m.rd FLT_LASTING),
    hoopState := hs.code, digest := digest, twin := p.twinOwn }
  if m.role = rolePrimary then
    { base with takeover := p.takeReq, retrain := p.retrainAt.getD 0, trigs := p.trigs, closes := p.closes, arms := p.arms,
                gens := p.gens, cmds := ((p.fwd.filter fun c => decide (c.sent < 2)).take 24).map fun c => ⟨c.pseq, c.due, c.op, c.h⟩,
                swap := p.swapAt.getD 0, twinReq := p.twinReq }
  else { base with divs := p.divs.take 16 }

/-- MIRROR_FRAME_SLOT: the frame is assembled and sent; a retrain sends none. -/
def Mach.frameSlot (m : Mach) (digest : Nat) (hs : SealSt) : Mach :=
  let send := (m.linked && !m.retraining) || m.pair.lastFrame
  let m := if m.pair.takeReq && m.linked && m.pair.swapAt.isNone && m.role == rolePrimary then
      m.modPair fun p => { p with swapAt := some (m.stitch + 8) } else m
  let m := if send then
      let fr := m.frameOf digest hs
      let ids := fr.cmds.map FrCmd.pseq
      (m.emit (.frame fr)).modPair fun p => { p with
        fwd := (p.fwd.map fun (c : Fwd) => if ids.contains c.pseq then { c with sent := c.sent + 1 } else c).filter
          fun (c : Fwd) => decide (c.sent < 2)
        takeReq := false
        divs := p.divs.drop 16
        twinOwn := if m.role = rolePrimary ∧ p.twinReq.isNone then none else p.twinOwn }
    else if m.linked then m else m.modPair fun p => { p with fwd := [], takeReq := false, divs := [] }
  let m := if m.pair.lastFrame then m.linkDown.modPair fun p => { p with lastFrame := false } else m
  m.modPair fun p => { p with trigs := [], closes := [], arms := [], gens := [] }

def doMirrorFrameSlot (s : State) : State := s.upd fun m => m.inSlot 3 fun m => m.frameSlot (m.devDigest true) s.hoopSeal.st
def execMirrorFrameSlot (s : State) : Host.Outcome State Fault Refusal := .next (doMirrorFrameSlot s)

/-- A gap in PSEQ: the secondary becomes PASSIVE until it is rejoined (R414). -/
def Mach.desync (m : Mach) (expected : Nat) : Mach :=
  let m := ((m.setRole rolePassive).wr TWL_STAT_DESYNC [] 1).linkDown
  m.raise 10 0x000A 0 [] [expected]

/-- One forwarded command of a frame: new ones wait for their stitch of application. -/
def Mach.frCmd (m : Mach) (c : FrCmd) : Mach :=
  if m.role ≠ roleSecondary then m
  else
    let e := m.pair.expect.getD c.pseq
    let ahead := (c.pseq + 65536 - e) % 65536
    if ahead = 0 then (m.modPair fun p => { p with expect := some ((e + 1) % 65536) }).at_ c.due (.cmd c.op c.h)
    else if 32768 ≤ ahead then m
    else m.desync e

/-! ### Twin check (R427) -/
def twinStep : Nat := 64
def prkEntries : Nat := 131072

/-- Words of an entry that the digest covers. -/
def twinBytes (w : List Nat) : List (BitVec 8) :=
  [0, 1, 3, 4, 6].flatMap (fun i => toBytes 8 (w.getD i 0)) ++ toBytes 4 (w.getD 2 0 % 2 ^ 31)

/-- Begin a check over a range. -/
def Mach.twinBegin (m : Mach) (lo hi : Nat) : Mach :=
  m.modPair fun p => { p with twinLo := lo, twinHi := hi, twinAt := 0, twinCount := 0, twinWords := [], twinOn := true,
                              twinOwn := none }

/-- The primary has both results. -/
def Mach.twinCompare (m : Mach) : Mach :=
  match m.role == rolePrimary, m.pair.twinReq, m.pair.twinOwn, m.pair.twinPartner with
  | true, some _, some a, some b =>
    let same := a == b
    let m := m.raise 10 0x0008 0 [a.1, b.1] [(!same).toNat]
    let m := if same then m else m.fault 47
    let m := m.modPair fun p => { p with twinReq := none, twinPartner := none }
    if m.pair.twinWas then
      (m.modPair fun p => { p with twinWas := false }).raise 11 0x0005 actTwin [a.2] [0, 0]
    else m.finish 0xA4 0 DONE a.2
  | _, _, _, _ => m

/-- A step of 64 entries ends; the last gives the digest. -/
def Mach.twinStepEnd (m : Mach) : Mach :=
  match m.flt.running.find? fun r => r.act == actTwin && r.args == [1] with
  | none => m
  | some r =>
    let m := if r.was && r.cmd.isNone then m.maintEnd actTwin 0 0
      else { m with flt := { m.flt with running := m.flt.running.filter fun x => x.act != actTwin } }.maintRegs
    let p := m.pair
    if !p.twinOn then m
    else
      let es := (List.range twinStep).filterMap fun i =>
        match tfind m.cap.prk (p.twinAt + i) with
        | some w =>
          let t := w.getD 1 0
          if p.twinLo ≤ t ∧ t < p.twinHi ∧ !bit (w.getD 2 0) 42 then some w else none
        | none => none
      let words := p.twinWords ++ (es.flatMap twinBytes).map fun (b : BitVec 8) => b.toNat
      let n := p.twinCount + es.length
      if p.twinAt + twinStep < prkEntries then
        m.modPair fun p => { p with twinAt := p.twinAt + twinStep, twinWords := words, twinCount := n }
      else
        let d := digest64 (words.map (BitVec.ofNat 8))
        let m := (m.wr TWL_TWIN [] d).modPair fun p => { p with twinOn := false, twinWords := [], twinOwn := some (d, n) }
        m.twinCompare

/-- What a frame says of a twin check. -/
def Mach.frTwin (m : Mach) (f : MirrorFrame) : Mach :=
  let m := match f.twin with
    | some d => (m.wr TWL_TWIN_PARTNER [] d.1).modPair fun p => { p with twinPartner := some d }
    | none => m
  if m.role = roleSecondary then
    match f.twinReq with
    | some r => if m.pair.twinOn || m.pair.twinOwn.isSome then m else m.twinBegin r.1 r.2
    | none => m.modPair fun p => { p with twinOwn := none }
  else m.twinCompare

/-! ### Reception -/

/-- The partner's DTIME against the own one (R428). -/
def Mach.frTime (m : Mach) (f : MirrorFrame) : Mach :=
  let d := sext 64 (enc 64 ((f.dtime : Int) - (m.latchDt f.stitch : Nat)))
  let ps := roundHalfEven (d * 1000) 1024
  let m := m.wr TWL_DT_OFS_OFS [] (enc 32 (clampI (-2147483648) 2147483647 ps))
  if 2048 < d.natAbs then (m.raise 10 0x0009 0 [enc 64 ps]).fault 48 else m

/-- The partner's Hoop (R428). -/
def Mach.frHoop (m : Mach) (f : MirrorFrame) : Mach :=
  let was := m.rd TWL_STAT_PARTNER_HOOP
  let m := m.wr TWL_STAT_PARTNER_HOOP [] f.hoopState
  if f.hoopState = 2 ∧ was ≠ 2 then m.raise 10 0x000C 0 [] [f.hoopState] else m

/-- The pair ends on this device: it keeps its sets (Table 14.5). -/
def Mach.dissolve (m : Mach) : Mach :=
  if m.role = roleUnpaired then m
  else
    let last := m.linked
    let m := m.setRole roleUnpaired
    let m := if last then m else m.linkDown
    let m := m.wrs [(TWL_STAT_PARTNER_ALIVE, [], 0), (TWL_STAT_RETRAIN, [], 0), (TWL_STAT_DESYNC, [], 0), (TWL_MISS_CONSEC, [], 0)]
    let m := (m.wr HIF_ALERT_STAT_PAIR_LINK [] 0).alertEval
    { m with pair := { lastFrame := last, laneN := m.pair.laneN } }

/-- MIRROR_FRAME_RECEIVED: a valid frame of stitch k by the end of stitch k + 1. -/
def Mach.frameRx (m : Mach) (f : MirrorFrame) : Mach :=
  if !m.linked || m.retraining || decide (f.stitch < m.pair.rxNext) || decide (m.stitch < f.stitch) ||
      decide (f.stitch + 1 < m.stitch) then m
  else
    let m := (m.modPair fun p => { p with rxNext := f.stitch + 1, run := 0 }).wr TWL_MISS_CONSEC [] 0
    let m := (m.frTime f).frHoop f
    let m := if f.swap ≠ 0 ∧ m.role = roleSecondary ∧ m.stitch < f.swap then m.modPair fun p => { p with swapAt := some f.swap } else m
    let m := if f.retrain ≠ 0 ∧ m.role = roleSecondary ∧ m.stitch < f.retrain then
        m.modPair fun p => { p with retrainAt := some f.retrain } else m
    let m := each f.divs (fun m d => (m.markDiverge d.set d.t).divergence d.set d.t) m
    let m := m.frTwin f
    let m := if m.role = roleSecondary then m.modPair fun p => { p with inbox := p.inbox ++ [f] } else m
    let m := each f.cmds (fun m c => m.frCmd c) m
    if f.role = roleUnpaired then m.at_ (m.stitch + 1) (.other 1 []) else m
def doMirrorFrameReceived (f : MirrorFrame) (s : State) : State := s.upd fun m => m.frameRx f
def execMirrorFrameReceived (frame : MirrorFrame) (s : State) : Host.Outcome State Fault Refusal :=
  .next (doMirrorFrameReceived frame s)

/-- FRAME_MISSED: the frame of stitch k has not arrived by cycle 255 of stitch k + 1; a retrain counts none. -/
def Mach.frameMissed (m : Mach) : Mach :=
  let k := m.pair.rxNext
  if !m.linked || !(decide (k + 1 < m.stitch) || (k + 1 == m.stitch && decide (255 ≤ m.tb.cyc))) then m
  else
    let m := m.modPair fun p => { p with rxNext := k + 1 }
    let m := if m.role = roleSecondary then m.modPair fun p => { p with missed := p.missed ++ [k] } else m
    if m.retraining then m
    else
      let n := m.pair.run + 1
      let m := m.modPair fun p => { p with run := n, firstMiss := if n = 1 then k else p.firstMiss }
      let m := (m.wr TWL_MISS_CONSEC [] (min n 3)).inc TWL_MISS_TOTAL []
      (m.fault 45).raise 10 0x0002 0 [k] [n]
def doFrameMissed (s : State) : State := s.upd Mach.frameMissed
def execFrameMissed (s : State) : Host.Outcome State Fault Refusal := .next (doFrameMissed s)

/-! ### Boundaries (R417, R418, R424) -/

/-- ALIVE_LINE_CHECK: toggle the own line in full service; the partner is not alive after three boundaries without an
edge. -/
def Mach.aliveCheck (m : Mach) : Mach :=
  if !m.formed then m
  else
    let q := m.pair.quiet + 1
    let l := 96 + 2 * m.rd TWL_CFG_ALIVE_LINE + (if m.on TWL_STAT_STRAP_PRI then 0 else 1)
    let m := m.modPair fun p => { p with quiet := q }
    let m := m.wb TWL_STAT_PARTNER_ALIVE [] (decide (q < 3))
    if m.dev = .full then
      let lv := !m.pair.aliveLevel
      ((m.modPair fun p => { p with aliveLevel := lv }).wb TRG_IO_PIN_STATE [l] lv).emit (.pin (.line l) lv.toNat m.cycles)
    else m

/-- The link of a formed pair is down with the partner alive: roles go by the straps (Table 14.4). -/
def Mach.linkLoss (m : Mach) : Mach :=
  let next := if m.on TWL_STAT_STRAP_PRI then rolePrimary else rolePassive
  let m := ((m.setRole next).linkDown).raise 10 0x0005 0 [] [next]
  m.alert HIF_ALERT_STAT_PAIR_LINK

/-- Three consecutive frames are missed: the detection stitch (R418). -/
def Mach.detect (m : Mach) : Mach :=
  if !m.linked || decide (m.pair.run < 3) then m
  else
    let alive := m.on TWL_STAT_PARTNER_ALIVE
    let sec := m.role == roleSecondary
    let m := m.modPair fun p => { p with run := 0, swapAt := none, retrainAt := none }
    if alive then (m.linkLoss).modPair fun p => { p with missed := [], own := [], cand := [] }
    else if sec then m.linkDown.modPair fun p => { p with takeover := some m.stitch }
    else ((m.setRole roleSolo).linkDown).raise 10 0x0006 0 [m.stitch] []

/-- Roles exchange at their stitch (R424); the new primary's numbers follow on. -/
def Mach.swapRoles (m : Mach) : Mach :=
  match m.pair.swapAt with
  | some k =>
    if m.stitch < k then m
    else
      let m := m.modPair fun p => { p with swapAt := none }
      if !m.linked then m
      else
        let m := if m.role = rolePrimary then
            (m.modPair fun p => { p with expect := some (m.rd TWL_PSEQ_PSEQ) }).setRole roleSecondary
          else
            ((m.wr TWL_PSEQ_PSEQ [] (m.pair.expect.getD (m.rd TWL_PSEQ_PSEQ))).modPair fun p =>
              { p with expect := none, own := [], cand := [] }).setRole rolePrimary
        m.raise 10 0x000B 0 [k] []
  | none => m

/-- A retrain begins at its announced stitch (R425). -/
def Mach.retrainStart (m : Mach) : Mach :=
  match m.pair.retrainAt with
  | some k => if m.stitch = k ∧ m.linked then (m.modPair fun p => { p with training := 3 }).wr TWL_STAT_RETRAIN [] 1 else m
  | none => m

/-- Both devices enter their roles at one boundary (R406, R426). -/
def Mach.enterRoles (m : Mach) : Mach :=
  match m.pair.formAt with
  | none => m
  | some k =>
    if m.stitch < k then m
    else
      let how := m.pair.training
      let pri := if how = 1 then m.on TWL_STAT_STRAP_PRI else how == 2
      let role := if pri then rolePrimary else roleSecondary
      let m := m.setRole role
      let m := m.wrs [(TWL_STAT_DESYNC, [], 0), (TWL_MISS_CONSEC, [], 0), (TWL_STAT_PARTNER_ALIVE, [], 1)]
      let m := (m.wr HIF_ALERT_STAT_PAIR_LINK [] 0).alertEval
      let arms := m.pair.armsDue
      let m := m.modPair fun p => { p with
        training := 0, formAt := none, rxNext := m.stitch, run := 0, missed := [], inbox := [], own := [], cand := [],
        quiet := 0, takeover := none, swapAt := none, retrainAt := none, armsDue := [], trigs := [], closes := [], arms := [],
        gens := [], divs := [], fwd := [] }
      if how = 1 then (m.raise 10 0x0001 0 [m.stitch] [role]).finish 0xA0 0 DONE m.stitch
      else
        let m := each arms (fun m a => m.frArm a) m
        (m.raise 10 0x0007 0 [m.stitch] []).finish 0xA3 0 DONE m.stitch

/-- All of the pair's work at a boundary. -/
def Mach.pairBoundary (m : Mach) : Mach := m.aliveCheck.detect.swapRoles.enterRoles.retrainStart

/-! ### Training (R403–R407, R426) -/

/-- Fields that forwarded commands set, with the areas and the pricking ranges (R407). -/
def mirroredFlds : List Fld :=
  [TIL_CH_CFG_ENABLE, TIL_CH_CFG_BWL, TIL_CH_CFG_DEC_LOG2, TIL_CH_CFG_EST_EN, TIL_CH_CFG_OVR_EVT, TIL_QUAD_CFG_FACTOR,
   TBS_SLICE_FREQ_SLICE_KHZ, TRG_UNIT_CFG_EN, TRG_UNIT_CFG_TYPE, TRG_UNIT_CFG_POL, TRG_UNIT_CFG_COND, TRG_UNIT_LEVEL_LEVEL_A,
   TRG_UNIT_LEVEL_LEVEL_B, TRG_UNIT_HYST_HYST, TRG_UNIT_T1_T, TRG_UNIT_T2_T] ++
  [TRG_SET_CFG_MODE, TRG_SET_CFG_HO_MODE, TRG_SET_CFG_A_QUAL, TRG_SET_CFG_B_QUAL, TRG_SET_CFG_PAT_OP, TRG_SET_A01_SID_LOW,
   TRG_SET_A01_SID_HIGH, TRG_SET_A23_SID_LOW, TRG_SET_A23_SID_HIGH, TRG_SET_B01_SID_LOW, TRG_SET_B01_SID_HIGH,
   TRG_SET_B23_SID_LOW, TRG_SET_B23_SID_HIGH, TRG_SET_RSTN_RESET_SID, TRG_SET_RSTN_N, TRG_SET_DMIN, TRG_SET_DMAX, TRG_SET_HO,
   TRG_SET_OUT_WIDTH, TRG_SET_OUT_EN, TRG_PAT_SID, TRG_PAT_COND] ++
  [TRG_IO_DIR, TRG_IO_INV, TRG_IO_KIND, TRG_IO_INDEX, TRG_IO_LEVEL, TRG_QSEG_MASK, TRG_TMR_PER_PERIOD, TRG_TMR_CTL_EN,
   CAP_SET_CFG_MODE, CAP_SET_CFG_FORMAT, CAP_SET_CFG_REARM, CAP_SET_CFG_AUTO_REARM, CAP_SET_CFG_PRE_FILL_WAIT,
   CAP_SET_CFG_LIST, CAP_SET_CFG_DELIVER, CAP_SET_MEMB, CAP_SET_PRE_PRE, CAP_SET_POST, CAP_SET_BIND_AREA, CAP_SET_BIND_RRING,
   CAP_SET_PRK_BASE_VALUE, CAP_SET_PRK_CNT_VALUE, CAP_SET_LIST_N_VALUE, CAP_SET_DUTY_DUTY, CAP_SET_COAL_COAL_COUNT,
   CAP_SET_COAL_COAL_TIME] ++
  [LOG_STR_CFG_KIND, LOG_STR_CFG_FORMAT, LOG_STR_CFG_RING, LOG_STR_CFG_BOUND, LOG_STR_RATIO_RATIO, LOG_MG_CFG_MCLK_DIV,
   LOG_MG_CFG_EN, LOG_MG_CFG_EDGE, LOG_MG_CFG_MANCH, LOG_MG_DELAY_DELAY, LOG_MD_CFG_SINC, LOG_MD_CFG_OSR, LOG_MD_CFG_CMP_ORD,
   LOG_MD_CFG_CMP_OSR, LOG_MD_CFG_CMP_MODE, LOG_MD_CFG_STUCK, LOG_MD_CMP_HI, LOG_MD_CMP_LO, LOG_MD_HYST_HYST,
   LOG_RING_CFG_BLOCK, LOG_RING_CFG_AREA, LOG_RING_CFG_FLUSH, LOG_RING_COAL_COAL_COUNT, LOG_RING_COAL_COAL_TIME,
   LOG_RING_HIGH_VALUE, LOG_RING_SLOTS_VALUE, LOG_RING_RSV_RESERVE] ++
  [ACC_SET_CFG_KIND, ACC_SET_CFG_RES, ACC_SET_CFG_LOC, ACC_SET_CFG_CONTINUE, ACC_SET_CFG_KEEP_DATA, ACC_SET_CFG_HIT,
   ACC_SET_CFG_TB_LOG2, ACC_SET_CFG_AB_LOG2, ACC_SET_BIND_AREA, ACC_SET_BIND_BANK_FIRST, ACC_SET_BIND_BANK_CNT, ACC_SET_TARGET,
   ACC_MEAS_BASE_MEAS_BASE, ACC_MEAS_LINES_MEAS_LINES, ACC_MEAS_MIR, ACC_MSLOT_CFG_EN, ACC_MSLOT_CFG_TYPE, ACC_MSLOT_CFG_POL,
   ACC_MSLOT_CFG_REF_SRC, ACC_MSLOT_CFG_EDGE_FROM, ACC_MSLOT_CFG_PEER, ACC_MSLOT_CFG_HYST, ACC_MSLOT_PCT_PCT_LO,
   ACC_MSLOT_PCT_PCT_MID, ACC_MSLOT_PCT_PCT_HI, ACC_MSLOT_ABS_ABS_LO, ACC_MSLOT_ABS_ABS_HI, ACC_MSLOT_MID_ABS_MID,
   ACC_MSLOT_GOFS_GATE_OFS, ACC_MSLOT_GLEN_GATE_LEN] ++
  [GEN_CFG_PARK, GEN_CFG_UNDERRUN_POLICY, GEN_CFG_GUARD_EN, GEN_CFG_TRIG_SID, GEN_MK_MK_WIDTH, GEN_SKEW_FRAC, GEN_SKEW_INT,
   GEN_STG_AREA_AREA, GEN_STG_AREA_BOUND, GEN_STG_WMARK_BYTES, GEN_STG_RESUME_BYTES, GEN_GUARD_SID, GEN_GUARD_TRIP_LEVEL,
   GEN_GUARD_EN, GEN_GUARD_RAMP_RAMP_US, GEN_SR_GEN_MASK, GEN_SR_REF, MEM_AREA_CFG_TYPE, MEM_AREA_BASE_VALUE,
   MEM_AREA_SIZE_VALUE]

/-- All index lists of a field. -/
def allIx : List (Nat × Nat) → List (List Nat)
  | [] => [[]]
  | (_, n) :: ds => (List.range n).flatMap fun i => (allIx ds).map (i :: ·)

/-- Places of fields that a transfer would change. -/
def Mach.differs (m : Mach) (p : Partner) (l : List (Fld × List Nat)) : Bool :=
  l.any fun f => m.rd f.1 f.2 != tget (f.1.rst f.2) p.regs (f.1.key f.2)

/-- What streams and sets take from their configuration. -/
def strFlds (i : Nat) : List (Fld × List Nat) :=
  [(LOG_STR_CFG_KIND, [i]), (LOG_STR_CFG_FORMAT, [i]), (LOG_STR_CFG_RING, [i]), (LOG_STR_CFG_BOUND, [i]),
   (LOG_STR_RATIO_RATIO, [i])] ++
  (if i < 64 then [(TIL_CH_CFG_ENABLE, [i]), (TIL_CH_CFG_BWL, [i]), (TIL_CH_CFG_DEC_LOG2, [i]), (TIL_QUAD_CFG_FACTOR, [i / 4])]
   else
     let g := (i - 64) / 16
     [(LOG_MG_CFG_MCLK_DIV, [g]), (LOG_MG_CFG_EN, [g]), (LOG_MD_CFG_SINC, [i - 64]), (LOG_MD_CFG_OSR, [i - 64])])
def ringFlds (r : Nat) : List (Fld × List Nat) := [(LOG_RING_CFG_BLOCK, [r]), (LOG_RING_CFG_AREA, [r])]
def accFlds (t : Nat) : List (Fld × List Nat) :=
  [CAP_SET_MEMB, CAP_SET_PRE_PRE, CAP_SET_POST, ACC_SET_CFG_KIND, ACC_SET_CFG_RES, ACC_SET_CFG_LOC, ACC_SET_CFG_CONTINUE,
   ACC_SET_CFG_KEEP_DATA, ACC_SET_CFG_HIT, ACC_SET_CFG_TB_LOG2, ACC_SET_CFG_AB_LOG2, ACC_SET_BIND_AREA,
   ACC_SET_BIND_BANK_FIRST, ACC_SET_BIND_BANK_CNT, ACC_SET_TARGET].map fun F => (F, [t])
def areaFlds (a : Nat) : List (Fld × List Nat) :=
  [(MEM_AREA_CFG_TYPE, [a]), (MEM_AREA_BASE_VALUE, [a]), (MEM_AREA_SIZE_VALUE, [a])]

/-- A channel follows its new configuration: it settles from the next stitch, or its slices power down. -/
def Mach.chanFollow (m : Mach) (n : Nat) (changed factor : Bool) : Mach :=
  if m.unused n then m.chanOff n chUnused
  else if !changed then m
  else if m.on TIL_CH_CFG_ENABLE [n] then (m.restartRing n (m.stitch + 1)).settle n (m.stitch + 1) (if factor then 64 else 16)
  else m.chanOff n chOff

/-- The state transfer replaces this device's configuration (R407), and what follows from it is as if the commands that set
it had been applied. -/
def Mach.takeConfig (m : Mach) (p : Partner) : Mach :=
  let m := each (allStr.filter fun i => m.lruns i && m.differs p (strFlds i ++ ringFlds (m.lringOf i)))
    (fun m i => m.logEnd i gcStop) m
  let rings := (List.range 128).filter fun r => m.differs p (ringFlds r)
  let accs := allSets.filter fun t => m.differs p (accFlds t)
  let areas := (List.range 256).filter fun a => m.differs p (areaFlds a)
  let groups := (List.range 16).filter fun g => m.differs p [(LOG_MG_CFG_MCLK_DIV, [g]), (LOG_MG_CFG_EN, [g])]
  let quads := (List.range 16).filter fun q => m.differs p [(TIL_QUAD_CFG_FACTOR, [q])]
  let chans := allCh.filter fun n => quads.contains (n / 4) ||
    m.differs p [(TIL_CH_CFG_ENABLE, [n]), (TIL_CH_CFG_BWL, [n]), (TIL_CH_CFG_DEC_LOG2, [n])]
  let m := each mirroredFlds (fun m F => each (allIx F.dims) (fun m ix => m.wr F ix (tget (F.rst ix) p.regs (F.key ix))) m) m
  let m := { m with gen := { m.gen with segs := p.segs, seqs := p.seqs } }
  let m := each quads (fun m q => each ((List.range 16).map (16 * q + ·)) (fun m s => (m.setTrims s {}).setFrozen s false) m) m
  let m := each areas (fun m a => m.wrs [(MEM_AREA_CFG_INVALID, [a], 0), (MEM_AREA_PCNT_VALUE, [a], 0)]) m
  let m := each rings (fun m r => (m.setLring r {}).spoolFill r) m
  let m := each accs (fun m t => m.accInvalid t) m
  let m := each groups (fun m g =>
    let m := { m.cmpsOff g with log := { m.log with origin := tins m.log.origin g m.stitch } }
    ((each (List.range 16) (fun m j => m.modModin (16 * g + j) ModIn.fresh) m).setEdge g 0).mclkFollow g) m
  let m := each (List.range 128) (fun m u => m.setUnit u {}) m
  let m := { m with trg := { m.trg with timers := p.timers.map fun t => (t.1.val, t.2) } }
  let m := each ((List.range 112).filter m.ioOut) (fun m l => m.drive l (m.ioKind l == 0 && m.on TRG_IO_LEVEL [l]) m.cycles) m
  each allCh (fun m n => m.chanFollow n (chans.contains n) (quads.contains (n / 4))) m

/-- MEM_CFG as a register reads. -/
def Mach.memWord (m : Mach) : Nat :=
  [MEM_CFG_RATE, MEM_CFG_DENSITY, MEM_CFG_RANKS, MEM_CFG_SPARE_EN, MEM_CFG_REF_MODE, MEM_CFG_RFM_EN].foldl
    (fun a F => a + m.rd F <<< F.lsb) 0

/-- What R405 asks of this device beside the equalities. -/
def Mach.formable (m : Mach) : Bool :=
  m.dev == .full && !m.anyActive && !allGen.any fun g => m.gstate g == gArmed || m.gruns g

/-- The equalities of R405. -/
def Mach.partnerFits (m : Mach) (p : Partner) : Bool :=
  p.ready && p.khz == m.rd TBS_SLICE_FREQ_SLICE_KHZ && p.memCfg == m.memWord && p.strap != m.on TWL_STAT_STRAP_PRI

/-- The measured delays of the lines in TB_MASK and of SYNC. -/
def Mach.takeDelays (m : Mach) (mask_ : Nat) (p : Partner) : Mach :=
  each (List.range 17) (fun m l =>
    if l = 16 || bit mask_ l then
      m.wrs [(TWL_DLY_DELAY, [l], (p.dly.getD l 0).toNat), (TWL_DLY_VALID, [l], 1)]
    else m.wrs [(TWL_DLY_DELAY, [l], 0), (TWL_DLY_VALID, [l], 0)]) m

/-- The secondary takes over the primary's DTIME and stitch number: histories, filters and streams restart with the next
stitch, and what waits for a stitch moves with the number (R406). -/
def Mach.alignTo (m : Mach) (sl : SealSt) (p : Partner) : Mach :=
  let d := sext 64 (enc 64 ((p.dtime.toNat : Int) - (m.dtime : Nat)))
  let ds : Int := (p.stitch : Int) - (m.stitch : Nat)
  let mv := fun (k : Nat) => ((k : Int) + ds).toNat
  let m := m.logGapAll allStr gcSpll m.stitch
  let m := if d = 0 then m else m.nextEpoch
  let dt := p.dtime.toNat * 2 ^ 40 + p.dtSub.toNat
  let inc := m.cycInc
  let m := { m with tb := { m.tb with
    dt := dt, stitch := p.stitch, cyc := p.cyc.val, slot := slotFrom p.cyc.val, epochs := [], syncs := m.tb.syncs.map mv
    latches := [⟨p.stitch, ((dt : Int) - (p.cyc.val * inc : Nat)).toNat, m.epoch, inc⟩] } }
  let changes := m.hif.changes.map fun (c : Nat × Change) => (mv c.1, c.2)
  let timers := m.trg.timers.map fun (t : Nat × Nat) => (t.1, ((t.2 : Int) + ds * 256).toNat)
  let m := { m with hif := { m.hif with changes := changes },
                    trg := { m.trg with timers := timers, cross := [], events := [], pulses := [] } }
  let k := p.stitch + 1
  let m := each allCh (fun m n =>
    if m.chIsOn n then (((m.modChan n fun c => { c.dry with firstValid := k }).restartRing n k).restartWatch n k)
    else if m.chState n = chSettling then m.settle n k 16 (m.chan n).why else m) m
  let m := m.logGoodAll allStr gcSpll k
  if d = 0 then m
  else (m.raise 1 0x0019 0 [enc 64 d] [m.epoch]).auditTime sl 0x19 (enc 64 d) m.epoch

/-- A partner that a primary rejoins disarms its sets and parks its generators (R426). -/
def Mach.standDown (m : Mach) : Mach :=
  let m := each allSets (fun m s =>
    let m := m.cancelArm s
    if m.active s then m.modPset s fun p => { p with stopAt := some (m.stitch, true) } else m) m
  each allGen (fun m g =>
    if m.gstate g = gArmed ∨ m.gruns g then (m.cancelStart g).gleave g gStopped 0 (m.gst g).n else m) m

/-- Both directions are aligned. -/
def Mach.trained (m : Mach) : Mach := m.wrs [(TWL_STAT_LANES, [], 15), (TWL_STAT_LINK_UP, [], 1)]

/-- Formation or rejoin goes on after training: delays, alignment and transfer on the secondary, then the roles. -/
def Mach.pairOn (m : Mach) (sl : SealSt) (mask_ : Nat) (secondary : Bool) (p : Partner) : Mach :=
  let m := m.takeDelays mask_ p
  let m := if secondary then (m.alignTo sl p).takeConfig p else m
  m.modPair fun q => { q with
    formAt := some (max p.form (m.stitch + 1)), expect := if secondary then some p.pseq.toNat else none, armsDue := p.armed }

/-- TWL_TRAINING_DONE. -/
def Mach.trainDone (m : Mach) (sl : SealSt) (p : Partner) : Mach :=
  match m.pair.training with
  | 1 =>
    let mask_ := match m.waitsOf 0xA0 0 with | w :: _ => w.h.f 1 0 16 | [] => 0
    if m.pair.formAt.isSome then m
    else if m.formable && m.partnerFits p && decide (p.frameDelay ≤ 250000) then m.trained.pairOn sl mask_ (!m.on TWL_STAT_STRAP_PRI) p
    else
      ((m.modPair fun q => { q with training := 0 }).setRole roleUnpaired).finish 0xA0 0 WRONG_STATE 0
  | 2 =>
    let mask_ := match m.waitsOf 0xA3 0 with | w :: _ => w.h.f 1 0 16 | [] => 0
    if m.pair.formAt.isSome then m
    else if m.partnerFits p then m.trained.pairOn sl mask_ false p
    else (m.modPair fun q => { q with training := 0 }).finish 0xA3 0 WRONG_STATE 0
  | 3 =>
    let k := m.pair.retrainAt.getD m.stitch
    let us := (m.dtime + 2 ^ 64 - m.latchDt k) % 2 ^ 64 / usDt
    let m := (m.modPair fun q => { q with training := 0, retrainAt := none, rxNext := max q.rxNext m.stitch, run := 0 }).trained
    (m.wr TWL_STAT_RETRAIN [] 0).maintEnd actRetrain 0 us
  | 0 =>
    if p.rejoin && (m.role == rolePassive || m.role == roleUnpaired) && m.partnerFits { p with ready := m.dev == .full } then
      ((m.modPair fun q => { q with training := 4 }).standDown.trained).pairOn sl (mask 16) true p
    else m
  | _ => m
def doTwlTrainingDone (p : Partner) (s : State) : State := s.upd fun m => m.trainDone s.hoopSeal.st p
def execTwlTrainingDone (p : Partner) (s : State) : Host.Outcome State Fault Refusal := .next (doTwlTrainingDone p s)

/-- TWL_TRAINING_TIMEOUT; a failed retrain is a link loss at the next boundary (R425). -/
def Mach.trainTimeout (m : Mach) : Mach :=
  if m.pair.formAt.isSome then m
  else match m.pair.training with
  | 1 => (((m.modPair fun q => { q with training := 0 }).setRole roleUnpaired).linkDown).finish 0xA0 0 PAIR_LINK_DOWN 0
  | 2 => (m.modPair fun q => { q with training := 0 }).finish 0xA3 0 PAIR_LINK_DOWN 0
  | 3 =>
    let m := (m.modPair fun q => { q with training := 0, retrainAt := none, run := 3 }).wr TWL_STAT_RETRAIN [] 0
    m.maintEndSt actRetrain 0 PAIR_LINK_DOWN 0
  | _ => m
def doTwlTrainingTimeout (s : State) : State := s.upd Mach.trainTimeout
def execTwlTrainingTimeout (s : State) : Host.Outcome State Fault Refusal := .next (doTwlTrainingTimeout s)

/-- TWL_INVALID_SYNC_HEADER: counted per lane, and per 256 in source 46. -/
def Mach.syncErr (m : Mach) (l : Nat) : Mach :=
  let n := tget 0 m.pair.laneN l + 1
  let m := (m.inc TWL_LANE_ERR_SYNC_ERR [l]).modPair fun p => { p with laneN := tput 0 p.laneN l (n % 256) }
  if n = 256 then m.fault 46 l else m
def doTwlInvalidSyncHeader (l : Nat) (s : State) : State := s.upd fun m => m.syncErr l
def execTwlInvalidSyncHeader (lane : Fin 4) (s : State) : Host.Outcome State Fault Refusal :=
  .next (doTwlInvalidSyncHeader lane.val s)

/-! ### Commands (Table 14.5) -/

def ciPairForm : CmdInfo where
  op := 0xA0
  masks := [mask 16]
  tgt := tgt0
def ownPairForm (_ : HostCmd) (s : State) : Option Nat :=
  let m := s.m
  firstOf [(m.role != roleUnpaired || !m.formable, WRONG_STATE)]
def effPairForm (h : HostCmd) (_ : Nat) (s : State) : Mach :=
  ((s.m.setRole roleForming).modPair fun p => { p with training := 1 }).wait 0xA0 h 0
def doPairForm (h : HostCmd) (s : State) : State := runCmd ciPairForm ownPairForm (lift effPairForm) h s
def execPairForm (h : HostCmd) (s : State) : Host.Outcome State Fault Refusal := .next (doPairForm h s)

def ciPairDissolve : CmdInfo where
  op := 0xA1
  masks := []
  tgt := tgt0
def applyPairDissolve (_ : HostCmd) (m : Mach) : Mach := m.dissolve
def doPairDissolve (h : HostCmd) (s : State) : State := runCmd ciPairDissolve (fun _ _ => none) (lift (later 0xA1)) h s
def execPairDissolve (h : HostCmd) (s : State) : Host.Outcome State Fault Refusal := .next (doPairDissolve h s)

/-- Not the primary of a pair, by its role; a PASSIVE device answers for its link instead (R424). -/
def Mach.notPrimary (m : Mach) : Bool := m.role == roleUnpaired || m.role == roleForming || m.role == roleSecondary
def Mach.noLink (m : Mach) : Bool := m.role == rolePassive || m.role == roleSolo || !m.on TWL_STAT_LINK_UP

def ciPairRoleSwap : CmdInfo where
  op := 0xA2
  masks := [mask 64]
  tgt := tgt0
def ownPairRoleSwap (h : HostCmd) (s : State) : Option Nat :=
  firstOf [(s.m.notPrimary, PAIR_NOT_PRIMARY), (s.m.noLink, PAIR_LINK_DOWN), (decide (h.word 1 < s.m.stitch + 8), BAD_FIELD)]
def effPairRoleSwap (h : HostCmd) (_ : Nat) (s : State) : Mach :=
  (s.m.modPair fun p => { p with swapAt := some (h.word 1) }).done h (h.word 1)
def doPairRoleSwap (h : HostCmd) (s : State) : State := runCmd ciPairRoleSwap ownPairRoleSwap (lift effPairRoleSwap) h s
def execPairRoleSwap (h : HostCmd) (s : State) : Host.Outcome State Fault Refusal := .next (doPairRoleSwap h s)

def ciPairRejoin : CmdInfo where
  op := 0xA3
  masks := [mask 16]
  tgt := tgt0
def ownPairRejoin (_ : HostCmd) (s : State) : Option Nat :=
  firstOf [(s.m.role != rolePrimary && s.m.role != roleSolo, PAIR_NOT_PRIMARY),
    (s.m.role == rolePrimary && s.m.on TWL_STAT_LINK_UP, WRONG_STATE)]
def effPairRejoin (h : HostCmd) (_ : Nat) (s : State) : Mach := (s.m.modPair fun p => { p with training := 2 }).wait 0xA3 h 0
def doPairRejoin (h : HostCmd) (s : State) : State := runCmd ciPairRejoin ownPairRejoin (lift effPairRejoin) h s
def execPairRejoin (h : HostCmd) (s : State) : Host.Outcome State Fault Refusal := .next (doPairRejoin h s)

def ciPairTwinCheck : CmdInfo where
  op := 0xA4
  masks := [mask 64, mask 64]
  tgt := tgt0
def ownPairTwinCheck (_ : HostCmd) (s : State) : Option Nat :=
  firstOf [(s.m.notPrimary, PAIR_NOT_PRIMARY), (s.m.noLink, PAIR_LINK_DOWN), (s.m.pair.twinReq.isSome, BUSY)]
/-- A check on the primary, for a command or for TWIN_PERIOD. -/
def Mach.twinAsk (m : Mach) (lo hi : Nat) (cmd : Option HostCmd) : Mach :=
  let (m, go) := m.maint actTwin 0 [] cmd
  let m := (m.twinBegin lo hi).modPair fun p => { p with twinReq := some (lo, hi), twinPartner := none, twinWas := !go }
  if go then
    let m := { m with flt := { m.flt with
      running := m.flt.running.map fun (r : MReq) => if r.act = actTwin then { r with cmd := none } else r } }
    match cmd with | some h => m.wait 0xA4 h 0 | none => m
  else m
def effPairTwinCheck (h : HostCmd) (_ : Nat) (s : State) : Mach := s.m.twinAsk (h.word 1) (h.word 2) (some h)
def doPairTwinCheck (h : HostCmd) (s : State) : State := runCmd ciPairTwinCheck ownPairTwinCheck (lift effPairTwinCheck) h s
def execPairTwinCheck (h : HostCmd) (s : State) : Host.Outcome State Fault Refusal := .next (doPairTwinCheck h s)

def ciPairRetrain : CmdInfo where
  op := 0xA5
  masks := []
  tgt := tgt0
def ownPairRetrain (_ : HostCmd) (s : State) : Option Nat :=
  firstOf [(s.m.notPrimary, PAIR_NOT_PRIMARY), (s.m.noLink, PAIR_LINK_DOWN)]
/-- The primary announces the start eight stitches ahead. -/
def Mach.retrainAnnounce (m : Mach) : Mach := m.modPair fun p => { p with retrainAt := some (m.stitch + 8) }
def effPairRetrain (h : HostCmd) (_ : Nat) (s : State) : Mach :=
  let (m, go) := s.m.maint actRetrain 0 [] (some h)
  if go then m.retrainAnnounce else m
def doPairRetrain (h : HostCmd) (s : State) : State := runCmd ciPairRetrain ownPairRetrain (lift effPairRetrain) h s
def execPairRetrain (h : HostCmd) (s : State) : Host.Outcome State Fault Refusal := .next (doPairRetrain h s)

/-- A retrain that a degrade effect asks for, on a primary only. -/
def Mach.retrainAsk (m : Mach) : Mach :=
  if m.role = rolePrimary ∧ m.on TWL_STAT_LINK_UP ∧ !m.runs actRetrain 0 then
    let (m, go) := m.maint actRetrain 0 [] none
    if go then m.retrainAnnounce else m
  else m

def ciPairConfig : CmdInfo where
  op := 0xA6
  masks := [mask 12 + mask 16 * 2 ^ 16]
  tgt := tgt0
def ownPairConfig (h : HostCmd) (s : State) : Option Nat :=
  firstOf [(s.m.formed && (h.f 1 0 3 != s.m.rd TWL_CFG_ALIVE_LINE || h.f 1 3 1 != s.m.rd TWL_CFG_SEC_MUTE), BUSY)]
def applyPairConfig (h : HostCmd) (m : Mach) : Mach :=
  m.wrs [(TWL_CFG_ALIVE_LINE, [], h.f 1 0 3), (TWL_CFG_SEC_MUTE, [], h.f 1 3 1), (TWL_CFG_TWIN_PERIOD, [], h.f 1 4 8),
    (TWL_CFG_DIV_TOL, [], h.f 1 16 16)]
def doPairConfig (h : HostCmd) (s : State) : State := runCmd ciPairConfig ownPairConfig (lift (later 0xA6)) h s
def execPairConfig (h : HostCmd) (s : State) : Host.Outcome State Fault Refusal := .next (doPairConfig h s)

end Sys2Proof.Machine
end

