-- ==== Sys2Proof/Machine/Access.lean ====
section
/-! DEFINITION. Register access (R7–R9, R325–R327, R386, R396, R490, R500): which register an offset names, what a read
returns and clears, what a write does, doorbells, and the MSI-X tables. -/
namespace Sys2Proof.Machine
open Sys2Proof

/-! ### Finding a register -/

/-- Every register of PF0 BAR0, and the doorbells. -/
def allRegs : List Reg := regsAAll ++ regsBAll ++ regsCAll ++ regsDAll

/-- The first register of a list that holds an offset, with its indices. -/
def regIn : List Reg → Nat → Option (Reg × List Nat)
  | [], _ => none
  | r :: t, a =>
    match (if r.base ≤ a then dimIndex r.dims (a - r.base) else none) with
    | some ix => some (r, ix)
    | none => regIn t a

/-- The register at an offset of BAR0; HIF_EVT_ROUTE and HOOP_RGN have no index 0. -/
def regAt (a : Nat) : Option (Reg × List Nat) :=
  if a = 0x100 ∨ a = 0xF00040 ∨ a = 0xF00044 ∨ 0x1000000 ≤ a then none else regIn allRegs a

/-! ### Values -/

/-- The value of a field: live values that no stored field holds, or the field. -/
def State.fldVal (s : State) (F : Fld) (ix : List Nat) : Nat :=
  let m := s.m
  if F.base = 0x400020 then m.dtime
  else if F.base = 0x400030 then m.stitch
  else if F.base = 0x600800 then m.fill (ix.headD 0)
  else if F.base = 0 ∧ F.lsb = 16 then s.hoopSeal.gf.toNat
  else if F.base = 0xF00000 ∧ F.lsb = 4 then s.hoopSeal.gf.toNat
  else if F.base = 0xF00004 then m.devDigest true
  else if F.base = 0xF00040 then m.rgnDigest true (ix.headD 0)
  else if F.base = 0x100800 ∧ F.lsb = 16 then m.dmaHead (ix.headD 0)
  else if F.base = 0xD00420 ∧ F.lsb = 16 then m.maintAges.rd F ix
  else m.rd F ix

/-- The 32 bits of a register at its own offset. -/
def State.regVal (s : State) (r : Reg) (ix : List Nat) : Nat :=
  r.flds.foldl (fun v F => v + (s.fldVal F ix % 2 ^ (32 - F.lsb)) <<< F.lsb) 0

/-- Put a value into the shadow of the _LO register at an offset (R8). -/
def Mach.setShadow (m : Mach) (a v : Nat) : Mach :=
  { m with regs := tput 0 m.regs ((a + 4) * 32) (v % 2 ^ 32) }

/-- What reading one field does besides (Table 0.3). -/
def State.readFld (s : State) (a : Nat) (ix : List Nat) (m : Mach) (F : Fld) : Mach :=
  match F.acc with
  | .rc => m.wr F ix 0
  | .rl => m.setShadow a (s.fldVal F ix / 2 ^ 32)
  | _ => m

/-! ### The table window (R45, R47, R50) -/
def tabIndex (m : Mach) : Nat := m.rd TIL_TAB_ADDR_INDEX
def tabSrc (m : Mach) : Nat := m.rd TIL_TAB_ADDR_SRC

/-- The entry that TIL_TAB_ADDR selects. -/
def Mach.winEntry (m : Mach) : Coef :=
  let i := tabIndex m
  match tabSrc m with
  | 0 => tget {} m.smp.table i
  | 1 => tget {} m.smp.staging i
  | 2 => (m.slice (i / 32)).trim
  | _ => m.coefOf (i / 32)

/-- After an access to DATA2 the index steps on with AUTOINC. -/
def Mach.tabStep (m : Mach) : Mach :=
  if m.on TIL_TAB_ADDR_AUTOINC then m.wr TIL_TAB_ADDR_INDEX [] (tabIndex m + 1) else m

/-- Dword `j` of an entry: OFFSET and GAIN, DELAY and BW_M, BW_P and CHECK. -/
def coefWord (c : Coef) (j : Nat) : Nat :=
  match j with
  | 0 => enc 16 c.off + enc 16 c.gain <<< 16
  | 1 => enc 16 c.dly + enc 16 c.bm <<< 16
  | 2 => enc 16 c.bp + coefCheck c <<< 16
  | _ => 0

/-- Write TIL_TAB_DATA0, DATA1 or DATA2 (R50): with SRC 1, DATA2 stores the staged entry
by DATA0 and DATA1 as last written, which read back nothing (DESIGN CHOICE, assumption 128). -/
def Mach.tabWrite (m : Mach) (j v : Nat) : Mach :=
  let m := if tabSrc m ≠ 1 then m
    else match j with
      | 0 => { m with smp := { m.smp with stage0 := v } }
      | 1 => { m with smp := { m.smp with stage1 := v } }
      | _ =>
        let w0 := m.smp.stage0
        let w1 := m.smp.stage1
        let c : Coef := ⟨sext 16 (bits w0 0 16), sext 16 (bits w0 16 16), sext 16 (bits w1 0 16), sext 16 (bits w1 16 16),
          sext 16 (bits v 0 16)⟩
        { m with smp := { m.smp with staging := tput {} m.smp.staging (tabIndex m) c } }
  if j = 2 then m.tabStep else m

/-! ### The verification window (R396, Table 13.4, R459) -/

/-- The Hoop store did not load: the device is in Selvedge after stage S2 failed. -/
def Mach.noHoop (m : Mach) : Bool := m.on BOOT_CAUSE_SELVEDGE && m.rd BOOT_CAUSE_CAUSE == 2

/-- Words of a region as the window shows them. -/
def Mach.winRgn (m : Mach) (r : Nat) : List Nat := m.rgnWords true r ++ (if r = 5 then m.hkCalWords else [])

/-- Sizes of flash regions 1 and 2, which depend on the fitted parts (R489); the spec names no size. -/
def flashSize (r : Nat) : Nat := (Config.freeFn 3 [(r : Int)]).toNat % 2 ^ 32

/-- Identify words 0 to 5 (Table 11.13). -/
def State.identWords (s : State) : List Nat :=
  let m := s.m
  [0x6420 + s.hoopSeal.gf.toNat <<< 16 + m.rd HIF_ID_REVISION <<< 20, m.hif.fw + m.rd HOOP_FW_VER_VERSION <<< 32,
   m.devDigest true, m.serial, flashSize 1 + flashSize 2 <<< 32, m.rd HIF_LINK_SPEED + m.rd HIF_LINK_WIDTH <<< 4]

/-- Half `h` of a 64-bit word. -/
def half (w h : Nat) : Nat := w >>> (32 * h) % 2 ^ 32

/-- A dword of the window beyond its registers. -/
def State.winDword (s : State) (o : Nat) : Nat :=
  let m := s.m
  let d := o / 4
  if o < 0x1000 then 0
  else if o < 0x1028 then half (s.identWords.getD ((o - 0x1000) / 8) 0) (d % 2)
  else if o < 0x10000 then 0
  else if o < 0x1F000 then (m.winRgn ([1, 3, 4, 5, 6].getD ((o - 0x10000) / 4096) 0)).getD (d % 1024) 0
  else if o < 0x20000 then (m.rgnWords true 2).getD (d % 1024) 0
  else if o < 0x40000 then coefWord (tget {} (m.tableNow true) ((o - 0x20000) / 16)) (d % 4)
  else if o < 0x80000 then half ((m.hoop.log.getD ((o - 0x40000) / 32) []).getD (d % 8 / 2) 0) (d % 2)
  else 0

/-! ### Reads -/

/-- Read the register at an offset of BAR0: its value, and the state after.  After a HOOP_IMAGE failure HOOP_STAT still shows the
fused variant, since every source of it agrees (R4, R459). -/
def State.readBar0 (s : State) (a : Nat) : Nat × Mach :=
  let m := s.m
  if 0xF00000 ≤ a ∧ a < 0x1000000 ∧ m.noHoop then (if a = 0xF00000 then 2 + s.hoopSeal.gf.toNat <<< 4 + 6 <<< 20 else 0, m)
  else if 0xF00100 ≤ a ∧ a < 0x1000000 then (s.winDword (a - 0xF00000), m)
  else if a = 0x20400C then (coefWord m.winEntry 0, m)
  else if a = 0x204010 then (coefWord m.winEntry 1, m)
  else if a = 0x204014 then (coefWord m.winEntry 2, m.tabStep)
  else match regAt a with
    | none => (0, m)
    | some (r, ix) =>
      let v := s.regVal r ix
      let m := r.flds.foldl (s.readFld a ix) m
      let m := if a = 0xA00004 then m.modHk 0 fun c => { c with unread := false }
        else if a = 0xA00204 then m.modHk 1 fun c => { c with unread := false } else m
      (v, m)

/-- A dword of an MSI-X table: vectors are masked until unmasked (assumption 6). -/
def msixDflt (o : Nat) : Nat := if o % 16 = 12 then 1 else 0
def msixDword (t : List (Nat × Nat)) (o : Nat) : Nat := tget (msixDflt o) t o
/-- A dword of a pending-bit array. -/
def pendDword (p : List Nat) (i : Nat) : Nat := orAll ((p.filter fun v => v / 32 == i).map fun v => 2 ^ (v % 32))

/-- PF0, or PF1, answers a register access: its link is up, and PF0 is in D0. -/
def Mach.answers (m : Mach) : Space → Bool
  | .pf1Bar0 | .pf1Bar2 => m.hif.linkUp
  | _ => m.hostUp

/-- Read a dword of a space. -/
def State.readAt (s : State) (sp : Space) (off : Nat) : Nat × Mach :=
  let a := off / 4 * 4
  let m := s.m
  match sp with
  | .pf0Bar0 => s.readBar0 a
  | .pf0Bar2 => (if a % 64 = 0 ∧ a < 0x8000 then m.qHost (a / 64) + m.qDev (a / 64) <<< 16 else 0, m)
  | .pf0Bar4 =>
    (if a < 0x2000 then msixDword m.hif.msixTab a
     else if a < 0x2040 then pendDword m.hif.msixPend ((a - 0x2000) / 4) else 0, m)
  | .pf1Bar0 => if a < 0x100000 then s.readBar0 (0xF00000 + a) else (0, m)
  | .pf1Bar2 =>
    (if a < 0x80 then msixDword m.hif.msixTab1 a else if a = 0x800 then pendDword m.hif.msixPend1 0 else 0, m)

/-- A read, with its answer. -/
def State.mmioRead (s : State) (sp : Space) (off : Nat) : State :=
  if s.m.answers sp then
    let (v, m) := s.readAt sp off
    { s with m := m.emit (.reg (off / 4 * 4) v) }
  else s

/-- SHADOW_LATCH_READ: the read of a _LO register. -/
def doShadowLatchRead (sp : Space) (off : Nat) (s : State) : State := s.mmioRead sp off
def execShadowLatchRead (sp : Space) (off : BitVec 32) (s : State) : Host.Outcome State Fault Refusal :=
  .next (doShadowLatchRead sp off.toNat s)

/-- READ_CLEAR: the read of a register with RC fields. -/
def doReadClear (sp : Space) (off : Nat) (s : State) : State := s.mmioRead sp off
def execReadClear (sp : Space) (off : BitVec 32) (s : State) : Host.Outcome State Fault Refusal :=
  .next (doReadClear sp off.toNat s)

/-- SMBUS_READ (R490): an ordinary register read of the offsets it covers; others read 0. -/
def doSmbusRead (off : Nat) (s : State) : State :=
  if (0xA00000 ≤ off ∧ off < 0xA10000) ∨ (0xD00000 ≤ off ∧ off < 0x1000000) then
    let (v, m) := s.readBar0 (off / 4 * 4)
    { s with m := m.emit (.smbus v) }
  else { s with m := s.m.emit (.smbus 0) }
def execSmbusRead (off : BitVec 32) (s : State) : Host.Outcome State Fault Refusal := .next (doSmbusRead off.toNat s)

/-! ### Writes -/

/-- A write that is ignored and counted (HIF_ACC_ERR). -/
def Mach.accErr (m : Mach) : Mach := m.inc HIF_ACC_ERR_COUNT []

/-- Start a queue at head and tail 0, with the sequence number 0 and PHASE 1. -/
def Mach.qStart (m : Mach) (q lg irq nosnoop base count time : Nat) : Mach :=
  let m := m.wrs [(HIF_Q_CFG_CREATED, [q], 1), (HIF_Q_CFG_LOG2SIZE, [q], lg), (HIF_Q_CFG_IRQ_EN, [q], irq),
    (HIF_Q_CFG_NOSNOOP_OK, [q], nosnoop), (HIF_Q_BASE, [q], base), (HIF_Q_PTR_DEV_PTR, [q], 0),
    (HIF_Q_PTR_HOST_PTR, [q], 0), (HIF_Q_STAT_STALLED, [q], 0), (HIF_Q_STAT_BUS_ERR, [q], 0),
    (HIF_Q_STAT_SIZE_MISMATCH, [q], 0), (HIF_Q_STAT_FULL, [q], 0), (HIF_Q_STAT_PHASE, [q], 1),
    (HIF_Q_STAT_FAULT, [q], 0), (HIF_Q_COAL_COAL_COUNT, [q], count), (HIF_Q_COAL_COAL_TIME, [q], time)]
  m.setQst q { lost := (m.qst q).lost }

/-- HIF_CTL is written (R500): 0 to 1 latches the admin queues or is ignored. -/
def Mach.adminEn (m : Mach) (on : Bool) : Mach :=
  if !on then m.wr HIF_CTL_ADMIN_EN [] 0
  else if m.on HIF_CTL_ADMIN_EN then m
  else
    let sq := m.rd HIF_ADM_SIZE_SQ_LOG2
    let cq := m.rd HIF_ADM_SIZE_CQ_LOG2
    if sq = 0 ∨ 12 < sq ∨ cq = 0 ∨ 12 < cq then m.accErr
    else
      let b := fun lo hi => (lo + hi <<< 32) / 4096 * 4096
      let sb := b (m.rd HIF_ADM_SQ_LO_BASE) (m.rd HIF_ADM_SQ_HI_BASE)
      let cb := b (m.rd HIF_ADM_CQ_LO_BASE) (m.rd HIF_ADM_CQ_HI_BASE)
      let m := ((m.qStart 0 sq 0 0 sb 1 0).qStart 1 cq 1 0 cb 1 0).wr HIF_CTL_ADMIN_EN [] 1
      { m with hif := { m.hif with admSq := sb, admCq := cb } }
/-- ADMIN_EN_WRITE. -/
def doAdminEnWrite (val : Nat) (s : State) : State := s.upd fun m => if m.hostUp then m.adminEn (bit val 0) else m
def execAdminEnWrite (val : BitVec 32) (s : State) : Host.Outcome State Fault Refusal := .next (doAdminEnWrite val.toNat s)

/-- TBS_CFG holds no invalid value, and a grid spacing of 0 leaves the grid unchanged. -/
def rwhBad (a v : Nat) : Bool := a == 0x400000 && tbsCfgBad v
def rwhVoid (a v : Nat) : Bool :=
  (a == 0x203004 || a == 0x203044 || a == 0x203084 || a == 0x2030C4) && bits v 16 16 == 0

/-- A write to a register with RWH fields (R385, R386): refused and logged unless the Hoop is OPEN in full service; a
valid value takes effect at the next boundary and marks its region DIRTY. -/
def State.rwhWrite (s : State) (a v : Nat) : Mach :=
  let m := s.m
  if !s.isOpen || m.dev != .full then m.refuseWrite s.hoopSeal.st a (rgnOf a)
  else if rwhBad a v then m.accErr
  else if rwhVoid a v then m
  else (m.at_ (m.stitch + 1) (.rwh a v)).setDirty (rgnOf a) true

/-- An accepted RWH write takes effect; a new SRC or REF_FREQ qualifies afresh, as after TB_SOURCE. -/
def Mach.applyRwh (m : Mach) (a v : Nat) : Mach :=
  match regAt a with
  | none => m
  | some (r, ix) =>
    let src := m.rd TBS_CFG_SRC
    let f := m.rd TBS_REF_FREQ_REF_FREQ
    let m := r.flds.foldl (fun m F => m.wr F ix (bits v F.lsb F.width)) m
    if src = m.rd TBS_CFG_SRC ∧ f = m.rd TBS_REF_FREQ_REF_FREQ then m else m.requalify
/-- RWH_WRITE: a write to a sealed register of BAR0. -/
def doRwhWrite (addr val : Nat) (s : State) : State :=
  let a := addr / 4 * 4
  if !s.m.hostUp then s
  else match regAt a with
    | some (r, _) => if r.flds.any fun F => F.acc == .rwh then { s with m := s.rwhWrite a val } else s
    | none => s
def execRwhWrite (addr val : BitVec 32) (s : State) : Host.Outcome State Fault Refusal :=
  .next (doRwhWrite addr.toNat val.toNat s)

/-- TAB_STAGE_WRITE: a write of TIL_TAB_DATA2. -/
def doTabStageWrite (val : Nat) (s : State) : State := s.upd fun m => if m.hostUp then m.tabWrite 2 val else m
def execTabStageWrite (val : BitVec 32) (s : State) : Host.Outcome State Fault Refusal := .next (doTabStageWrite val.toNat s)

/-- What a write does to one field (Table 0.3). -/
def writeFld (v : Nat) (ix : List Nat) (m : Mach) (F : Fld) : Mach :=
  let x := bits v F.lsb F.width
  match F.acc with
  | .rw | .wo => m.wr F ix x
  | .w1c => m.wr F ix (m.rd F ix - (m.rd F ix &&& x))
  | .w1s => m.wr F ix (m.rd F ix ||| x)
  | _ => m

/-- Interface delays may be written only while memory is not in use (R305). -/
def Mach.dlyLocked (m : Mach) : Bool := [memVerifying, memAvailable, memRetention].contains (m.rd MEM_STAT_STATE)

/-- Write the register at an offset of BAR0. -/
def State.writeBar0 (s : State) (a v : Nat) : State :=
  let m := s.m
  if a = 0xC then { s with m := m.adminEn (bit v 0) }
  else if a = 0x20400C then { s with m := m.tabWrite 0 v }
  else if a = 0x204010 then { s with m := m.tabWrite 1 v }
  else if a = 0x204014 then { s with m := m.tabWrite 2 v }
  else if 0xB08000 ≤ a ∧ a < 0xB0C000 ∧ m.dlyLocked then s
  else match regAt a with
    | none => s
    | some (r, ix) =>
      let k := ix.headD 0
      if r.flds.any fun F => F.acc == .rwh then { s with m := s.rwhWrite a v }
      else if r.base = 0x100004 then
        { s with m := if bit v 0 then (if m.on DMA_CH_CTL_PAUSE [k] then m else m.dmaPause k)
                      else if m.on DMA_CH_CTL_PAUSE [k] then m.dmaResume k else m }
      else if r.base = 0x100800 then { s with m := m.dmaDoorbell k v }
      else { s with m := (r.flds.foldl (writeFld v ix) m).alertEval }

/-! ### Doorbells (R331, R332) -/

/-- A queue that the driver writes entries into. -/
def driverQ (q : Nat) : Bool := (decide (q < 128) && q % 2 == 0) || (decide (384 ≤ q) && decide (q < 392))

/-- A doorbell value that moves the driver's pointer. -/
def Mach.dbValid (m : Mach) (q v : Nat) : Bool :=
  m.qCreated q &&
    (if driverQ q then dbForward (m.qSize q) (m.qDev q) (m.qHost q) v
     else decide (v < m.qSize q) && decide (m.qUsed q (m.qHost q) v ≤ m.qUsed q (m.qHost q) (m.qDev q)))

/-- DOORBELL_WRITE: a valid value moves the pointer and ends a stall; an invalid one is counted. -/
def Mach.doorbell (m : Mach) (q v : Nat) : Mach :=
  if m.dbValid q v then
    let stale := m.rd HIF_Q_STAT_FAULT [q] = QUEUE_STALE
    let m := m.wrs [(HIF_Q_PTR_HOST_PTR, [q], v), (HIF_Q_STAT_STALLED, [q], 0), (HIF_Q_STAT_BUS_ERR, [q], 0)]
    let m := if stale then m.wr HIF_Q_STAT_FAULT [q] 0 else m
    if driverQ q then m else m.wb HIF_Q_STAT_FULL [q] (m.qFull q)
  else m.dbBad.wr HIF_DB_ERR_QID [] q
def doDoorbellWrite (q v : Nat) (s : State) : State := s.upd fun m => if m.hostUp then m.doorbell q (v % 65536) else m
def execDoorbellWrite (q : Fin 512) (v : BitVec 32) (s : State) : Host.Outcome State Fault Refusal :=
  .next (doDoorbellWrite q.val v.toNat s)

/-! ### MSI-X tables -/

/-- Merge the enabled bytes of a dword. -/
def mergeBytes (old v be : Nat) : Nat :=
  (List.range 4).foldl (fun x i => x + bits (if bit be i then v else old) (8 * i) 8 <<< (8 * i)) 0

/-- Vectors pending and unmasked leave. -/
def Mach.msixFlush (m : Mach) : Mach :=
  let l := m.hif.msixPend.filter fun v => !m.msixMasked v
  let m := { m with hif := { m.hif with msixPend := m.hif.msixPend.filter fun v => m.msixMasked v } }
  each l (fun m v => m.msix v) m
def Mach.msixFlush1 (m : Mach) : Mach :=
  let l := m.hif.msixPend1.filter fun v => !m.msixMasked1 v
  let m := { m with hif := { m.hif with msixPend1 := m.hif.msixPend1.filter fun v => m.msixMasked1 v } }
  each l (fun m v => m.msix1 v) m

/-- Write a dword of a space. -/
def State.mmioWrite (s : State) (sp : Space) (off v be : Nat) : State :=
  let a := off / 4 * 4
  let m := s.m
  if !m.answers sp then s
  else match sp with
  | .pf0Bar0 => if be = 15 then s.writeBar0 a v else { s with m := m.accErr }
  | .pf0Bar2 =>
    if a % 64 = 0 ∧ a < 0x8000 ∧ be % 4 = 3 then { s with m := m.doorbell (a / 64) (v % 65536) } else s
  | .pf0Bar4 =>
    if a < 0x2000 then
      let t := tput (msixDflt a) m.hif.msixTab a (mergeBytes (msixDword m.hif.msixTab a) v be)
      { s with m := { m with hif := { m.hif with msixTab := t } }.msixFlush }
    else s
  | .pf1Bar0 => s
  | .pf1Bar2 =>
    if a < 0x80 then
      let t := tput (msixDflt a) m.hif.msixTab1 a (mergeBytes (msixDword m.hif.msixTab1 a) v be)
      { s with m := { m with hif := { m.hif with msixTab1 := t } }.msixFlush1 }
    else s

/-- REGISTER_WRITE. -/
def doRegisterWrite (sp : Space) (off v be : Nat) (s : State) : State := s.mmioWrite sp off v be
def execRegisterWrite (sp : Space) (off val : BitVec 32) (be : BitVec 4) (s : State) : Host.Outcome State Fault Refusal :=
  .next (doRegisterWrite sp off.toNat val.toNat be.toNat s)

end Sys2Proof.Machine
end

