-- ==== Sys2Proof/Machine/Host.lean ====
section
/-! DEFINITION. The link and its loss (R322, R324, R334, R373), delivery of held entries and messages (R348, R349), and the
admin commands (R347, R354, R355). -/
namespace Sys2Proof.Machine
open Sys2Proof

/-! ### Delivery -/

/-- Write the oldest held event whose queue has room (R348). -/
def Mach.evDeliver (m : Mach) : Mach :=
  match m.hif.evbuf.find? fun e => m.qReady (m.evQueue e.cls) with
  | none => m
  | some e => { m with hif := { m.hif with evbuf := m.hif.evbuf.erase e } }.evWrite (m.evQueue e.cls) e
/-- EVENT_DELIVERY. -/
def doEventDelivery (s : State) : State := s.upd Mach.evDeliver
def execEventDelivery (s : State) : Host.Outcome State Fault Refusal := .next (doEventDelivery s)

/-- MSIX_COAL_TIMEOUT: the oldest unsignalled entry of a queue is COAL_TIME old (R158, R349). -/
def Mach.coalTimeout (m : Mach) (q : Nat) : Mach :=
  let st := m.qst q
  let t := (m.coal q).2
  if st.unsig ≠ 0 ∧ t ≠ 0 ∧ st.unsigAt + t * usDt ≤ m.dtime then m.signal q else m
def doMsixCoalTimeout (q : Nat) (s : State) : State := s.upd fun m => m.coalTimeout q
def execMsixCoalTimeout (q : Fin 512) (s : State) : Host.Outcome State Fault Refusal := .next (doMsixCoalTimeout q.val s)

/-- Host memory can be reached again: held entries and messages leave (R324). -/
def Mach.hostBack (m : Mach) : Mach :=
  if !m.hostUp then m
  else
    let held := m.hif.held
    let due := m.hif.msixDue
    let m := { m with hif := { m.hif with held := [], msixDue := [] } }
    let m := each held (fun m c => m.putCpl c) m
    let m := each due (fun m v => m.msix v) m
    each m.hif.evbuf (fun m _ => m.evDeliver) m

/-! ### Link and power state -/

/-- PF0_POWER_STATE: PF0 enters D3hot or returns to D0. -/
def Mach.powerState (m : Mach) (d3 : Bool) : Mach :=
  if m.hif.linkUp then { m with hif := { m.hif with d3hot := d3 } }.hostBack else m
def doPf0PowerState (d3 : Bool) (s : State) : State := s.upd fun m => m.powerState d3
def execPf0PowerState (d3 : Bool) (s : State) : Host.Outcome State Fault Refusal := .next (doPf0PowerState d3 s)

/-- PCIE_LINK_DOWN: the link goes down, which counts in source 44 (Table 15.1). -/
def Mach.linkLost (m : Mach) : Mach :=
  if m.hif.linkUp then ({ m with hif := { m.hif with linkUp := false } }.wr HIF_LINK_L1 [] 0).fault 44 else m
def doPcieLinkDown (s : State) : State := s.upd Mach.linkLost
def execPcieLinkDown (s : State) : Host.Outcome State Fault Refusal := .next (doPcieLinkDown s)

/-- PCIE_LINK_UP: the link has trained at Gen3, 4 or 5 and x4, x8 or x16, within the limit of the device state (R322). -/
def Mach.pcieUp (m : Mach) (speed width : Nat) : Mach :=
  if m.hif.linkUp || m.hif.inReset then m
  else
    let lim := m.dev == .selvedge
    let m := m.wrs [(HIF_LINK_SPEED, [], if lim then 3 else 3 + speed), (HIF_LINK_WIDTH, [], if lim then 4 else 4 * 2 ^ width)]
    { m with hif := { m.hif with linkUp := true, d3hot := false } }.hostBack
def doPcieLinkUp (speed width : Nat) (s : State) : State := s.upd fun m => m.pcieUp speed width
def execPcieLinkUp (speed width : Fin 3) (s : State) : Host.Outcome State Fault Refusal :=
  .next (doPcieLinkUp speed.val width.val s)

/-- A request of the device to host memory has failed: the queue stalls (R334), or DMA halts (R373). -/
def Mach.busFail (m : Mach) (req : BusReq) (cause addr : Nat) : Mach :=
  match req with
  | .queue q => if m.qCreated q.val && driverQ q.val then m.queueStall q.val else m
  | .dmaData ch => m.dmaHalt cause (ch.map Fin.val) false addr
  | .dmaDesc k => (m.modDch k.val fun c => { c with stalled := true }).dmaHalt dhFetch (some k.val) false addr

/-- PCIE_COMPLETION_ERROR: a completion with UR or CA status, or a poisoned TLP. -/
def doPcieCompletionError (req : BusReq) (poisoned : Bool) (addr : Nat) (s : State) : State :=
  s.upd fun m =>
    let m := m.busFail req (if poisoned then dhPoison else dhCompletion) addr
    if poisoned then m.fault 44 else m
def execPcieCompletionError (req : BusReq) (poisoned : Bool) (addr : BitVec 64) (s : State) :
    Host.Outcome State Fault Refusal := .next (doPcieCompletionError req poisoned addr.toNat s)

/-- PCIE_COMPLETION_TIMEOUT. -/
def doPcieCompletionTimeout (req : BusReq) (addr : Nat) (s : State) : State :=
  s.upd fun m => (m.busFail req dhTimeout addr).fault 44
def execPcieCompletionTimeout (req : BusReq) (addr : BitVec 64) (s : State) : Host.Outcome State Fault Refusal :=
  .next (doPcieCompletionTimeout req addr.toNat s)

/-- PCIE_CORRECTABLE_ERROR: PF0 reports a correctable error (source 43). -/
def doPcieCorrectableError (s : State) : State := s.upd fun m => m.fault 43
def execPcieCorrectableError (s : State) : Host.Outcome State Fault Refusal := .next (doPcieCorrectableError s)

/-! ### Admin commands (Tables 11.11 and 11.12) -/

def ciIdentify : CmdInfo where
  op := 0x00
  masks := [mask 64]
  tgt := tgt0
  svc := anySvc
def ownIdentify (h : HostCmd) (_ : State) : Option Nat := firstOf [(!aligned64 (h.word 1), BAD_FIELD)]
/-- Identify data (Table 11.13). -/
def State.identData (s : State) : List Nat := s.identWords ++ List.replicate (512 - s.identWords.length) 0
/-- Its data is a diagnostic read on PCIe transmit: Table 15.5 does not name it (DESIGN CHOICE, assumption 148). -/
def effIdentify (h : HostCmd) (_ : Nat) (s : State) : Mach := (s.m.hostWords (h.word 1) s.identData 5 h.owner).done h 4096
def doIdentify (h : HostCmd) (s : State) : State := runCmd ciIdentify ownIdentify (lift effIdentify) h s
def execIdentify (h : HostCmd) (s : State) : Host.Outcome State Fault Refusal := .next (doIdentify h s)

/-- Queues that QUEUE_CREATE and QUEUE_DELETE may name: a pair by its submission queue, and 128 to 407. -/
def queueTgt (t : Nat) : Bool :=
  (decide (2 ≤ t) && decide (t < 128) && t % 2 == 0) || (decide (128 ≤ t) && decide (t < 408))
/-- Greatest LOG2SIZE of a queue (Table 11.4). -/
def maxLog2 (q : Nat) : Nat := if driverQ q then 12 else 16

def ciQueueCreate : CmdInfo where
  op := 0x01
  masks := [mask 5 + 3 * 2 ^ 8 + mask 32 * 2 ^ 16, mask 64, mask 64]
  tgt := queueTgt
  svc := anySvc
def ownQueueCreate (h : HostCmd) (s : State) : Option Nat :=
  let q := h.tgt
  let lg := h.f 1 0 5
  firstOf [(s.m.qCreated q, WRONG_STATE),
    (lg == 0 || decide (maxLog2 q < lg) || h.f 2 0 12 != 0 || (decide (q < 128) && h.f 3 0 12 != 0) ||
      (h.b 1 9 && queueType q != 7), BAD_FIELD)]
/-- COAL_COUNT and COAL_TIME count for completion, event and stimulus queues; a log ring takes its slot size. -/
def effQueueCreate (h : HostCmd) (_ : Nat) (s : State) : Mach :=
  let q := h.tgt
  let lg := h.f 1 0 5
  let irq := h.f 1 8 1
  let cnt := h.f 1 16 16
  let tm := h.f 1 32 16
  let m := s.m
  let m := if q < 128 then (m.qStart q lg 0 0 (h.word 2) 1 0).qStart (q + 1) lg irq 0 (h.word 3) cnt tm
    else if q < 384 then m.qStart q lg irq 0 (h.word 2) 1 0
    else m.qStart q lg irq (h.f 1 9 1) (h.word 2) cnt tm
  let m := if 256 ≤ q ∧ q < 384 then m.wr HIF_Q_CFG_SLOT [q] (m.rd LOG_RING_CFG_BLOCK [q - 256]) else m
  m.done h q
def doQueueCreate (h : HostCmd) (s : State) : State := runCmd ciQueueCreate ownQueueCreate (lift effQueueCreate) h s
def execQueueCreate (h : HostCmd) (s : State) : Host.Outcome State Fault Refusal := .next (doQueueCreate h s)

/-- Commands of a submission queue that were fetched and have not completed (R341). -/
def Mach.outstanding (m : Mach) (q : Nat) : Nat :=
  (m.hif.waits.filter fun w => w.h.q.val == q).length + (m.hif.held.filter fun c => c.q == q).length +
  (m.flt.running.filter fun r => !r.was && match r.cmd with | some h => h.q.val == q | none => false).length +
  (([0, 1].flatMap fun c => [(m.hkst c).next, match (m.hkst c).urg with | some u => u.2 | none => none,
      match (m.hkst c).cur with | some (.urg _ cmd) => cmd | _ => none]).filter fun o =>
    match o with | some h => h.q.val == q | none => false).length

/-- R355: why a queue cannot be deleted now. -/
def Mach.queueBusy (m : Mach) (q : Nat) : Bool :=
  if q < 128 then m.outstanding q != 0
  else if q < 256 then allSets.any fun t => m.rd CAP_SET_BIND_RRING [t] == q && m.active t
  else if q < 384 then allStr.any fun i => m.on LOG_STR_CFG_RUN [i] && m.lringOf i == q - 256
  else if q < 392 then m.gstate (q - 384) == gArmed || m.gruns (q - 384)
  else false

/-- A queue's fields return to their reset values. -/
def Mach.qClear (m : Mach) (q : Nat) : Mach :=
  let m := m.wrs [(HIF_Q_CFG_CREATED, [q], 0), (HIF_Q_CFG_LOG2SIZE, [q], 0), (HIF_Q_CFG_IRQ_EN, [q], 0),
    (HIF_Q_CFG_NOSNOOP_OK, [q], 0), (HIF_Q_CFG_SLOT, [q], 0), (HIF_Q_BASE, [q], 0), (HIF_Q_PTR_DEV_PTR, [q], 0),
    (HIF_Q_PTR_HOST_PTR, [q], 0), (HIF_Q_STAT_STALLED, [q], 0), (HIF_Q_STAT_BUS_ERR, [q], 0),
    (HIF_Q_STAT_SIZE_MISMATCH, [q], 0), (HIF_Q_STAT_FULL, [q], 0), (HIF_Q_STAT_PHASE, [q], 1),
    (HIF_Q_STAT_FAULT, [q], 0), (HIF_Q_COAL_COAL_COUNT, [q], 1), (HIF_Q_COAL_COAL_TIME, [q], 0)]
  m.setQst q { lost := (m.qst q).lost }

def ciQueueDelete : CmdInfo where
  op := 0x02
  masks := []
  tgt := queueTgt
  svc := anySvc
def ownQueueDelete (h : HostCmd) (s : State) : Option Nat :=
  firstOf [(s.m.qCreated h.tgt && s.m.queueBusy h.tgt, BUSY)]
def effQueueDelete (h : HostCmd) (_ : Nat) (s : State) : Mach :=
  let q := h.tgt
  let m := s.m
  if !m.qCreated q then m.done h q
  else (if q < 128 then (m.qClear q).qClear (q + 1) else m.qClear q).done h q
def doQueueDelete (h : HostCmd) (s : State) : State := runCmd ciQueueDelete ownQueueDelete (lift effQueueDelete) h s
def execQueueDelete (h : HostCmd) (s : State) : Host.Outcome State Fault Refusal := .next (doQueueDelete h s)

def ciEventRoute : CmdInfo where
  op := 0x03
  masks := [mask 16]
  tgt := below 16
  svc := anySvc
def ownEventRoute (h : HostCmd) (_ : State) : Option Nat := firstOf [(h.b 1 0 || h.f 1 13 3 != 0, BAD_FIELD)]
def effEventRoute (h : HostCmd) (_ : Nat) (s : State) : Mach :=
  let l := bitList 13 (h.f 1 0 13)
  (each l (fun m k => m.wr HIF_EVT_ROUTE_QID [k] (392 + h.tgt)) s.m).done h l.length
def doEventRoute (h : HostCmd) (s : State) : State := runCmd ciEventRoute ownEventRoute (lift effEventRoute) h s
def execEventRoute (h : HostCmd) (s : State) : Host.Outcome State Fault Refusal := .next (doEventRoute h s)

/-- Reset classes in the coding of BOOT_CAUSE.CLASS. -/
def rcPor : Nat := 0
def rcPin : Nat := 1
def rcWdog : Nat := 2
def rcPerst : Nat := 3
def rcFlr : Nat := 4
def rcSoft : Nat := 5

def ciSoftReset : CmdInfo where
  op := 0x05
  masks := []
  tgt := tgt0
  svc := anySvc
/-- The reset starts 10 µs after the completion. -/
def effSoftReset (h : HostCmd) (_ : Nat) (s : State) : Mach :=
  { s.m with hif := { s.m.hif with resetDue := some rcSoft } }.done h 0
def doSoftReset (h : HostCmd) (s : State) : State := runCmd ciSoftReset (fun _ _ => none) (lift effSoftReset) h s
def execSoftReset (h : HostCmd) (s : State) : Host.Outcome State Fault Refusal := .next (doSoftReset h s)

/-- Place of a byte of flash region 1 or 2. -/
def flashKey (r o : Nat) : Nat := r * 2 ^ 32 + o

def ciFlashWrite : CmdInfo where
  op := 0x06
  masks := [mask 64, mask 64]
  tgt t := t == 1 || t == 2
  svc := anySvc
def ownFlashWrite (h : HostCmd) (_ : State) : Option Nat :=
  let o := h.f 1 0 32
  let n := h.f 1 32 32
  firstOf [(o % 256 != 0 || n % 256 != 0 || decide (flashSize h.tgt < o + n) || !aligned64 (h.word 2), BAD_FIELD)]
def effFlashWrite (h : HostCmd) (_ : Nat) (s : State) : Mach :=
  let o := h.f 1 0 32
  let n := h.f 1 32 32
  let put := fun (st : Nat × List (Nat × Nat)) (b : BitVec 8) => (st.1 + 1, tput 0 st.2 st.1 b.toNat)
  let fl := ((h.bytes n).foldl put (flashKey h.tgt o, s.m.hif.flash)).2
  let m := s.m.hostRead (h.word 2) n
  { m with hif := { m.hif with flash := fl } }.done h n
def doFlashWrite (h : HostCmd) (s : State) : State := runCmd ciFlashWrite ownFlashWrite (lift effFlashWrite) h s
def execFlashWrite (h : HostCmd) (s : State) : Host.Outcome State Fault Refusal := .next (doFlashWrite h s)

/-- The image of region 1 as operands of a property of its bytes. -/
def Mach.image1 (m : Mach) : List Int :=
  (m.hif.flash.filter fun p => decide (flashKey 1 0 ≤ p.1) && decide (p.1 < flashKey 2 0)).flatMap fun p => [(p.1 : Int), (p.2 : Int)]
/-- It passes its check: a property the spec leaves to the vendor's key. -/
def Mach.imageOk (m : Mach) : Bool := Config.freeFn 5 m.image1 % 2 == 1
/-- The version it carries, in a form the spec does not give. -/
def Mach.imageVer1 (m : Mach) : Nat := (Config.freeFn 6 m.image1).toNat % 2 ^ 32

def ciFlashActivate : CmdInfo where
  op := 0x07
  masks := []
  tgt t := t == 1
  svc := anySvc
def ownFlashActivate (_ : HostCmd) (s : State) : Option Nat := firstOf [(!s.m.imageOk, WRONG_STATE)]
def effFlashActivate (h : HostCmd) (_ : Nat) (s : State) : Mach :=
  { s.m with hif := { s.m.hif with fwNext := some s.m.imageVer1 } }.done h 0
def doFlashActivate (h : HostCmd) (s : State) : State := runCmd ciFlashActivate ownFlashActivate (lift effFlashActivate) h s
def execFlashActivate (h : HostCmd) (s : State) : Host.Outcome State Fault Refusal := .next (doFlashActivate h s)

def ciNop : CmdInfo where
  op := 0x08
  masks := []
  tgt := tgt0
  svc := anySvc
def effNop (h : HostCmd) (_ : Nat) (s : State) : Mach := s.m.done h s.m.stitch
def doNop (h : HostCmd) (s : State) : State := runCmd ciNop (fun _ _ => none) (lift effNop) h s
def execNop (h : HostCmd) (s : State) : Host.Outcome State Fault Refusal := .next (doNop h s)

end Sys2Proof.Machine
end

