-- ==== Sys2Proof/Machine/Loss.lean ====
section
/-! DEFINITION. Loss of the loops SPLL, MPLL and CPLL, their relocks, and the verification of memory that follows
(R91–R94, R307, R313, R318). -/
namespace Sys2Proof.Machine
open Sys2Proof

/-- The boot ROM runs no more than CPLL in Selvedge (R461); elsewhere the loops run from boot stage S3 on. -/
def Mach.loopsOn (m : Mach) : Bool := m.tb.running && m.dev != .selvedge

/-! ### SPLL (R91, Table 3.4) -/

/-- Output samples of stitches up to `d` that no raw sample gave hold undefined values. -/
def Mach.fillLost (m : Mach) (n d : Nat) : Mach :=
  let c := m.chan n
  let e := m.firstOut n (d + 1)
  let k := e - c.histNext
  let (f, m) := m.free (16 * k)
  let vals := (List.range k).map fun i => sext 16 (bits f (16 * i) 16)
  m.setChan n { c with hist := vals.reverse ++ c.hist, histNext := c.histNext + k }

/-- What units made of samples of stitches `d − 1` and `d` is discarded: crossings, candidates (R124) and changes of state
(R107). -/
def Mach.dropUnitEvents (m : Mach) (d : Nat) : Mach :=
  { m with trg := { m.trg with
      cross := m.trg.cross.filter fun x => decide (m.outStitch (x.u / 2) x.idx + 1 < d)
      events := m.trg.events.filter fun e => !(decide (e.sid < 128) && decide (d ≤ e.from_ + 1))
      pchg := m.trg.pchg.filter fun e => !(decide (e.sid < 128) && decide (d ≤ e.from_ + 1)) } }

/-- No sample of stitch `k` or later folds (R201). -/
def Mach.foldsCut (m : Mach) (k : Nat) : Mach :=
  { m with cap := { m.cap with closed := m.cap.closed.map fun (c : Closed) =>
      { c with foldEnd := min c.foldEnd (m.firstOut (m.lead c.set) k) } } }

/-- SPLL_LOST.  On the fallback clock already, only the loop's state changes. -/
def Mach.spllLost (m : Mach) : Mach :=
  if !m.loopsOn || !m.spllLocked then m
  else
    let d := m.stitch
    let m := ((m.wr TBS_STATUS_SPLL_ST [] pllLost).pin .lockS 0).inc TBS_LOSS_CNT_SPLL_LOSS []
    let m := (m.fault 0).raise 1 0x0001 0 [d] []
    if m.fallback then { m with tb := { m.tb with backDue := false } }
    else
      let m := m.logGapAll allStr gcSpll (d - 1)
      let on := allCh.filter m.flows
      let m := each on (fun m n => m.fillLost n d) m
      let m := ((m.markStitch (d - 1) fClkLost).markStitch d fClkLost).flagRecent (d - 1) d fClkLost
      let m := (each on (fun m n => m.stopUnits n (d - 1)) (m.dropUnitEvents d)).foldsCut (d - 1)
      let m := each allCh (fun m n => m.modChan n fun c => { c with estBad := true }) m
      let m := (m.genPark 3).toFallback
      { m with tb := { m.tb with lost := some (d, m.tb.cyc), backDue := false } }
def doSpllLost (s : State) : State := s.upd Mach.spllLost
def execSpllLost (s : State) : Host.Outcome State Fault Refusal := .next (doSpllLost s)

/-- In the bookkeeping slot after the stitch of a loss, open records are cut with that stitch and every set disarms. -/
def Mach.lossSlot (m : Mach) : Mach :=
  match m.tb.lost with
  | some (d, _) =>
    if d < m.stitch then
      let m := each allSets (fun m s => m.modPset s fun p => { p with recd := p.recd.map fun (r : OpenRec) => { r with cut := some (.stitch d) } }) m
      let m := each allSets (fun m s => m.lossDisarm 0 s) m
      { m with tb := { m.tb with lost := none } }
    else m
  | none => m

/-! ### MPLL (R92, R318) -/

/-- Samples of a record that lie before a line of its slot, by its entry (R151, Table 5.4). -/
def heldBefore (w : List Nat) (line : Nat) : Nat :=
  let s16 := bit (w.getD 2 0) 30
  let a := 64 * line - bits (w.getD 0 0) 0 40
  let b := if s16 then 4096 else 3072
  2048 * (a / (bits (w.getD 2 0) 48 7 * b)) + (if s16 then a % b / 2 else a % b * 2 / 3) - bits (w.getD 6 0) 48 11

/-- Samples of a record that memory holds from its start on, once its queued writes are lost (assumption 144). -/
def Mach.heldOf (m : Mach) (id : Nat) (w : List Nat) (got : Nat) : Nat :=
  m.mem.queue.foldl (fun a q => match q.src with
    | .capture _ => if q.tag = id then min a (heldBefore w q.line) else a
    | _ => a) got

/-- An entry whose record turns out to hold no more than `held` samples (R146). -/
def cutEntry (held : Nat) (w : List Nat) : List Nat :=
  let pre := w.getD 4 0 % 2 ^ 24
  flagEntry (fClkLost ||| fTruncated) (w.set 4 (pre + (held - pre) * 2 ^ 24))

/-- An open record closes at an MPLL loss with the samples that memory holds. -/
def Mach.mpllOpen (m : Mach) (s : Nat) (r : OpenRec) : Mach :=
  let r := m.takeRec s r
  let got := if m.keepData s then m.heldOf r.id (m.prkEntry s r 0 0) (min r.got (2048 * r.rows - (r.trig - r.pre) % 2048))
    else r.got
  m.closeRec s { r with got := got, flags := r.flags ||| fTruncated } true

/-- A closed record with queued writes is cut to what memory holds. -/
def Mach.mpllClosed (m : Mach) (x : RecentRec) : Mach :=
  let held := m.heldOf x.id x.words (x.words.getD 4 0 % 2 ^ 24 + x.words.getD 4 0 / 2 ^ 24)
  m.editClosed x.id x.prk (cutEntry held) fun c => { c with
    flags := c.flags ||| (fClkLost ||| fTruncated), truncated := true, rec_ := { c.rec_ with got := min c.rec_.got held } }

/-- Records with a block not yet in memory close with CLK_LOST and TRUNCATED; one that folds into memory closes too, as its fold
stops (R92, R146, R216). -/
def Mach.mpllRecords (m : Mach) : Mach :=
  let late := m.cap.recent.filter fun x => m.unwritten x.id
  let m := each allSets (fun m s =>
    match (m.pset s).recd with
    | some r => if r.basted || !(m.keepData s || (m.mode s == 2 && m.accDram s)) then m else m.mpllOpen s r
    | none => m) m
  each late (fun m x => m.mpllClosed x) m

/-- Writes of records that have not reached memory are lost. -/
def Mach.dropWrites (m : Mach) : Mach :=
  { m with mem := { m.mem with queue := m.mem.queue.filter fun q =>
    match q.src with | .capture _ => false | _ => true } }

/-- The loop's own side of an MPLL loss: its count, fault source and event. -/
def Mach.mpllReport (m : Mach) : Mach :=
  ((m.inc TBS_LOSS_CNT_MPLL_LOSS []).fault 1).raise 1 0x0005 0

def allMc : List Nat := List.range 16

def Mach.setLate (m : Mach) (late ret : Bool) : Mach := { m with mem := { m.mem with lateSr := late, retLost := ret } }

/-- MPLL_LOST; `late` says that a rank entered self-refresh after a refresh beyond its postponement limit fell due.  A loss
in Retention is reported at its exit (R470). -/
def Mach.mpllLost (m : Mach) (late : Bool) : Mach :=
  if !m.loopsOn || m.rd TBS_STATUS_MPLL_ST != pllLocked then m
  else
    let m := (m.wr TBS_STATUS_MPLL_ST [] pllLost).pin .lockM 0
    let m := each allMc (fun m mc => m.wr MEM_MC_STAT_SR [mc] 1) m
    let m := m.setLate late (m.dev == .retention)
    if m.dev = .retention then m
    else
      let m := (m.wr TBS_STATUS_MEM_UNAVAIL [] 1).mpllReport
      let m := if m.rd MEM_STAT_STATE = memUninit then m else m.wr MEM_STAT_STATE [] memUnavailable
      let m := each allSets (fun m s => m.lossDisarm 1 s) m
      ((m.mpllRecords.accMpllLost.logMpllLost.genPark 4).dmaMemPause).dropWrites
def doMpllLost (late : Bool) (s : State) : State := s.upd fun m => m.mpllLost late
def execMpllLost (late : Bool) (s : State) : Host.Outcome State Fault Refusal := .next (doMpllLost late s)

/-- A loop's spread setting takes effect at its lock; one that the memory rate forbids is not applied (R74). -/
def Mach.spreadOn (m : Mach) : Mach :=
  let mode := m.rd TBS_SPREAD_MPLL_MODE
  m.wb TBS_SPREAD_MPLL_ACTIVE [] (mode != 0 && !m.centreBad mode)

/-- A new memory rate forbids the stored centre spread of MPLL: it is not applied any more (R74). -/
def Mach.spreadDropped (m : Mach) : Mach := (m.wr TBS_SPREAD_MPLL_ACTIVE [] 0).raise 1 0x0018 0 [] [1]

/-- MPLL_LOCKED: the ranks leave self-refresh with their backlogs made up, and verification starts; memory that is not
initialised yet has none. -/
def Mach.mpllLock (m : Mach) (band : Nat) : Mach :=
  if !m.loopsOn || m.rd TBS_STATUS_MPLL_ST == pllLocked || (m.dev == .retention && m.rd PWR_RET_STAT_PHASE != 3) then m
  else
    let m := ((m.wr TBS_STATUS_MPLL_ST [] pllLocked).wr TBS_PLL_BAND_MPLL_BAND [] band).pin .lockM 1
    let m := m.spreadOn.raise 1 0x0006 0 [] [band]
    let m := { m with mem := { m.mem with backlog := [] } }
    let m := each allMc (fun m mc => (m.wr MEM_MC_STAT_SR [mc] 0).wr MEM_MC_STAT_BACKLOG [mc] 0) m
    let st := m.rd MEM_STAT_STATE
    if st = memUnavailable ∨ st = memRetention then m.wr MEM_STAT_STATE [] memVerifying
    else m.wr TBS_STATUS_MEM_UNAVAIL [] 0
def doMpllLocked (band : Nat) (s : State) : State := s.upd fun m => m.mpllLock band
def execMpllLocked (band : Fin 64) (s : State) : Host.Outcome State Fault Refusal := .next (doMpllLocked band.val s)

/-- Memory serves again after a loss: accumulations, streams, DMA channels and sets go on (R92). -/
def Mach.memBack (m : Mach) (invalid : Bool) : Mach :=
  let m := (m.wr TBS_STATUS_MEM_UNAVAIL [] 0).accReinit invalid
  let m := (m.logReinit invalid).dmaMemBack
  each allSets (fun m s => m.comeBack s) m

/-- Areas whose contents are lost; a migration leaves its rank to the spare (R313, R316). -/
def Mach.areasLost (m : Mach) (cause : Nat) : Mach := each allMc (fun m mc => m.migFinish mc) (m.invalidateAll cause)

def mapList (maps : List (Fin 16 × BitVec 32)) : List (Nat × Nat) := maps.foldl (fun t p => tins t p.1.val p.2.toNat) []

/-- The verification after an MPLL relock ends (R92); `pass` holds the channels that pass. -/
def Mach.memReinit (m : Mach) (pass : Nat) (maps : List (Nat × Nat)) : Mach :=
  if m.rd MEM_STAT_STATE != memVerifying || !m.on TBS_STATUS_MEM_UNAVAIL || m.dev == .retention then m
  else
    let inv := m.mem.lateSr
    let m := m.verifyResult 0xFFFF pass maps
    let m := if inv then m.areasLost 0 else m
    let m := m.raise 1 0x0007 0 [] [inv.toNat]
    let m := m.finish 0x98 0 DONE (passing 0xFFFF pass)
    if m.memOk then m.memBack inv else m

/-! ### CPLL (R93) -/

/-- CPLL_LOST: the system domains run from XTAL. -/
def Mach.cpllLost (m : Mach) : Mach :=
  if m.rd TBS_STATUS_CPLL_ST != pllLocked then m
  else
    let m := m.wrs [(TBS_STATUS_CPLL_ST, [], pllLost), (TBS_STATUS_SYS_FALLBACK, [], 1)]
    ((m.inc TBS_LOSS_CNT_CPLL_LOSS []).fault 2).raise 1 0x0003 0
def doCpllLost (s : State) : State := s.upd Mach.cpllLost
def execCpllLost (s : State) : Host.Outcome State Fault Refusal := .next (doCpllLost s)

/-- CPLL_LOCKED after a loss: the domains move back. -/
def Mach.cpllLock (m : Mach) (band : Nat) : Mach :=
  if m.rd TBS_STATUS_CPLL_ST != pllLost then m
  else
    let m := m.wrs [(TBS_STATUS_CPLL_ST, [], pllLocked), (TBS_STATUS_SYS_FALLBACK, [], 0), (TBS_PLL_BAND_CPLL_BAND, [], band)]
    let m := m.wb TBS_SPREAD_CPLL_ACTIVE [] (m.rd TBS_SPREAD_CPLL_MODE != 0)
    m.raise 1 0x0004 0 [] [band]
def doCpllLocked (band : Nat) (s : State) : State := s.upd fun m => m.cpllLock band
def execCpllLocked (band : Fin 64) (s : State) : Host.Outcome State Fault Refusal := .next (doCpllLocked band.val s)

end Sys2Proof.Machine
end

