-- ==== Sys2Proof/Machine/Reset.lean ====
section
/-! DEFINITION. Reset classes and the entry to Selvedge (R323, R354, R435, R455, R461–R465, R491, R502): what each loads,
keeps and loses. -/
namespace Sys2Proof.Machine
open Sys2Proof

/-! ### Register fields -/

/-- The field that a key of the register file names. -/
def fldOf (k : Nat) : Option Fld := (regIn allRegs (k / 32)).bind fun p => p.1.flds.find? fun F => F.lsb == k % 32

/-- Load the reset values of the fields that meet a condition. -/
def Mach.loadRegs (m : Mach) (p : Fld → Bool) : Mach :=
  { m with regs := m.regs.filter fun e => match fldOf e.1 with | some F => !p F | none => true }

/-- Fields whose reset value comes from the Hoop store or the flash mirror, which hold what the field holds. -/
def storedFlds : List Fld :=
  [HOOP_STAT_STATE, HOOP_STAT_FUSE_LOW, HOOP_STAT_FUSE_EXHAUSTED, HOOP_STAT_BROKEN_CAUSE, HOOP_MEC_MEC, HOOP_LOG_USED_LOST,
   HOOP_LOG_BASE_BASE, HOOP_FUSE_FUSE_USED, HOOP_FUSE_EPOCH, HOOP_FW_VER_VERSION, HOOP_STATE_T, HOOP_STATE_EP_EPOCH,
   BOOT_FAIL_COUNT]

/-- The bit of a reset class, coded as in BOOT_CAUSE.CLASS, in a field's Reset by set. -/
def classBit : Nat → Nat
  | 0 => 1 | 1 => 2 | 2 => 32 | 3 => 4 | 4 => 8 | _ => 16

/-- Load every field whose Reset by column names a class (R463). -/
def Mach.loadClass (m : Mach) (c : Nat) : Mach :=
  m.loadRegs fun F => F.by_ &&& classBit c != 0 && !(storedFlds.map fun G => G.key []).contains (F.key [])

/-- BOOT_CAUSE of a start or of Selvedge. -/
def Mach.bootCause (m : Mach) (cause data : Nat) (selvedge : Bool) : Mach :=
  m.wrs [(BOOT_CAUSE_CAUSE, [], cause), (BOOT_CAUSE_DATA, [], data), (BOOT_CAUSE_SELVEDGE, [], selvedge.toNat)]

/-! ### Housekeeping, sets -/

/-- Housekeeping starts again with its default sequences; a supply watch goes on. -/
def Mach.hkRestart (m : Mach) : Mach :=
  let w := m.hkst 1
  let keep : HkSt := { watch := w.watch, watchAt := w.watchAt, watchN := w.watchN, least := w.least }
  let m := { m with hk := { m.hk with c := if w.watch then [(1, keep)] else [] } }
  if m.tb.running then (m.hkStart 0).hkStart 1 else m

/-- A set stops as with ABORT now: its open record closes with what has arrived. -/
def Mach.abortNow (m : Mach) (s : Nat) : Mach :=
  let m := (m.armLost s).modPset s fun p => { p with armAt := none, stopAt := none, rearm := false }
  match (m.pset s).recd with
  | some r =>
    let m := (m.stopProgram s).modPset s fun p => { p with ending := some siIdle }
    m.closeRec s (m.takeRec s r) false
  | none => if m.active s then m.leave s siIdle else m.dropCharge s

/-! ### POR and PIN -/

/-- Clocks of modulator groups stop. -/
def Mach.mclkOff (m : Mach) : Mach :=
  each (List.range 16) (fun m g => if m.on LOG_MG_STAT_RUNNING [g] then (m.wr LOG_MG_STAT_RUNNING [g] 0).pin (.mclk g) 0 else m) m

/-- Running pulses and the clocks of modulator groups end. -/
def Mach.pulsesOff (m : Mach) : Mach := (m.endPulses Pulse.started fun _ => m.cycles).mclkOff

/-- Outputs in reset. -/
def Mach.pinsOff (m : Mach) : Mach :=
  let m := ((((m.pulsesOff.pin .lockS 0).pin .lockM 0).ppsLow.pin .refout 0).pin .syncout 0).pin .memResetN 0
  if m.hif.alert then m.pin .alertN 1 else m

/-- Refusals counted and not yet logged get their entries (R385). -/
def Mach.refusedAll (m : Mach) (sl : SealSt) : Mach :=
  let l := m.hoop.refused.filter fun x => x.n != 0
  let m := { m with hoop := { m.hoop with refused := [] } }
  l.foldl (fun m x => m.refusedEntry sl x.at_ x.offset x.region x.n) m

/-- What POR and PIN keep (Table 16.6): content of flash, of the Hoop store and of fuses, and under PIN the always-on
domain.  The start begins at S0 unless the device is held in reset. -/
def Mach.restart (m : Mach) (c : Nat) : Mach :=
  let por := c == rcPor
  let held := m.boot.pinLow || m.boot.xtalOut
  let h := m.hoop
  let keep := h.log.take (h.log.length - h.unflushed)
  { regs := (m.loadClass c).regs
    smp := { ccExpect := m.smp.ccExpect }
    hif := { serial := m.hif.serial, flash := m.hif.flash, fw := m.hif.fw, fwNext := m.hif.fwNext, inReset := held }
    flt := { hist := if por then [] else m.flt.hist }
    hk := { expect := m.hk.expect, dividers := m.hk.dividers }
    hoop := { log := if por then keep else h.log
              unflushed := if por then 0 else h.unflushed
              lostPower := if por then h.lostPower + h.unflushed else h.lostPower
              stored := h.stored, table := h.table, image := h.image, imageVer := h.imageVer
              latched := if por then [] else h.latched }
    boot := { next := if held then none else some 0, mode := m.boot.mode, pinLow := m.boot.pinLow, xtalOut := m.boot.xtalOut
              warn := if por then [] else m.boot.warn.map fun p => (p.1, (0, (m.epoch + 1) % 65536)) }
    out := m.out, tx := { taken := m.out.length, sent := m.tx.sent }, freeCtr := m.freeCtr }

def noDram : Dram := ⟨[], []⟩

/-- Reset class POR or PIN, with the boot cause of the start that follows.  EPOCH increments, since the start loads DTIME
with 0 (R76). -/
def State.fullReset (s : State) (c cause data : Nat) : State :=
  let m := if c = rcPor then s.m else s.m.refusedAll s.hoopSeal.st
  let m := m.pinsOff.restart c
  let m := (m.wr TBS_EPOCH_EPOCH [] (m.epoch + 1)).wr BOOT_CAUSE_CLASS [] c
  { s with dram := noDram, m := m.bootCause cause data false }

/-! ### WDOG and the function restarts -/

/-- Accepted writes of sealed content take effect whatever resets the rest. -/
def isRwh : Nat × Change → Bool
  | (_, .rwh _ _) => true
  | _ => false

/-- The host interface after a restart: queues, events and commands are gone. -/
def Mach.hifRestart (m : Mach) (link d3 pf1 : Bool) : Mach :=
  let h := m.hif
  { m with hif := {
      changes := h.changes.filter isRwh, linkUp := h.linkUp && link, d3hot := h.d3hot && d3
      msixTab1 := if pf1 then [] else h.msixTab1, msixPend1 := if pf1 then [] else h.msixPend1
      alert := h.alert, inReset := h.inReset, serial := h.serial, flash := h.flash, fw := h.fw, fwNext := h.fwNext } }

/-- Configuration and data of acquisition, log, accumulation, generators, DMA and pair are gone; `trims` says whether the
slices keep their trims. -/
def Mach.acqRestart (m : Mach) (trims : Bool) : Mach :=
  { m with
    smp := { slices := if trims then m.smp.slices else [], table := m.smp.table, staging := m.smp.staging
             tableDue := m.smp.tableDue, fgDue := m.smp.fgDue, ccExpect := m.smp.ccExpect }
    trg := {}, cap := { ids := m.cap.ids }, acc := {}, log := {}, gen := {}, dma := {}, pair := {} }

/-- Running and deferred activities of memory go on without their commands; calibration goes on during stage S6. -/
def Mach.maintRestart (m : Mach) : Mach :=
  let keep := fun (r : MReq) => (actScrub ≤ r.act && r.act ≤ actCatchUp) || (r.act == actFgCal && m.boot.next == some 6)
  let f := fun (r : MReq) => { r with cmd := none, was := false }
  { m with flt := { hist := m.flt.hist, running := (m.flt.running.filter keep).map f,
                    deferred := (m.flt.deferred.filter keep).map f } }.maintRegs

/-- WDOG (R464, R502): nothing but Hoop, time base, link and always-on domain is kept, and the start begins at S4, or at the
stage that ran when S4 had not been reached.  Selvedge runs no supervised firmware. -/
def State.wdog (s : State) : State :=
  let m := s.m.pulsesOff
  if m.hif.inReset || m.dev == .selvedge then s
  else
    let ret := m.dev == .retention
    let khz := m.tb.oldKhz.getD (m.rd TBS_SLICE_FREQ_SLICE_KHZ)
    let stage := min 4 (m.boot.next.getD 4)
    let m := ((m.inc BOOT_WDOG_EXPIRIES []).loadClass rcWdog).wr BOOT_CAUSE_CLASS [] rcWdog
    let m := ((m.bootCause 10 0 false).hifRestart true true true).acqRestart false
    let m := { m with mem := {}, flt := { hist := m.flt.hist }, boot := { m.boot with next := some stage, cal := 0, waitMem := false } }
    let m := if ret then m.wr TBS_STATUS_MPLL_ST [] pllSearching else m.wr TBS_STATUS_MEM_UNAVAIL [] 0
    let m := if khz = 1250000 then m
      else { m with tb := { m.tb with oldKhz := some khz } }.at_ (m.stitch + 1) (.other 3 [1250000])
    { s with dram := noDram, m := m.hkRestart.refout.pin .memResetN 0 }.strapLatched

/-- Segments of memory that Retention keeps: every byte of an area lies in one (R319). -/
def Mach.areaKept (m : Mach) (a : Nat) : Bool :=
  let seg := m.rowsPerBank / 8 * 2 ^ 21
  let lo := m.areaBase a
  let hi := lo + m.areaSize a
  let r := lo / 2 ^ 38
  let k0 := (lo % 2 ^ 38) / seg
  let k1 := (hi - 1 - r * 2 ^ 38) / seg
  (List.range (k1 + 1 - k0)).all fun i => bit (m.rd MEM_PASR_MASK) (8 * r + k0 + i)

/-- Areas outside kept segments lose their contents with Retention, and every area when memory is not kept at all; the
count is of areas that become INVALID. -/
def Mach.retAreas (m : Mach) (all : Bool) : Mach × Nat :=
  let l := (List.range 256).filter fun a => m.areaType a != 0 && !m.areaInvalid a && (all || !m.areaKept a)
  let m := each l (fun m a => m.invalidate 1 a) m
  let m := each (List.range 128) (fun m r =>
    if l.contains (m.rd LOG_RING_CFG_AREA [r]) then (m.setLring r { m.lring r with blocks := [], next := 0 }).spoolFill r else m) m
  (m, l.length)

/-- A function restart that ends Retention: MPLL is searched for, and verification follows its lock as after a loss. -/
def Mach.retCut (m : Mach) (phase : Nat) : Mach :=
  if phase < 2 then m
  else
    let m := (m.retAreas false).1.wr TBS_STATUS_MEM_UNAVAIL [] 1
    let m := m.setLate (m.mem.retLost && m.mem.lateSr) false
    if m.rd TBS_STATUS_MPLL_ST = pllLocked then m
    else m.wrs [(TBS_STATUS_MPLL_ST, [], pllSearching), (MEM_STAT_STATE, [], memUnavailable)]

/-- PERST, FLR and SOFT (R463): sets stop as with ABORT, streams end with cause STATE, generators park, DMA halts, and the class's
fields load.  A start
that runs goes on, and Selvedge stays; otherwise the device is in full service with STAGE 7. -/
def State.funcRestart (s : State) (c : Nat) : State :=
  let m := s.m.pulsesOff
  if m.hif.inReset then s
  else
    let st := m.rd HIF_DEV_STATE
    let stage := m.rd HIF_DEV_STAGE
    let phase := m.rd PWR_RET_STAT_PHASE
    let m := (each allStr (fun m i => m.logEnd i gcState) (each allSets (fun m t => m.abortNow t) m)).genPark 0
    let m := (((m.loadClass c).wr BOOT_CAUSE_CLASS [] c).hifRestart (c != rcPerst) false (c != rcFlr)).acqRestart true
    let m := if st = 3 then m.retCut phase else m
    let m := if st = 2 ∨ m.boot.next.isSome then m.wrs [(HIF_DEV_STATE, [], st), (HIF_DEV_STAGE, [], stage)]
      else m.wr HIF_DEV_STAGE [] 7
    let s := { s with m := m.maintRestart.hkRestart }
    if st = 3 then { s with m := s.m.refout }.strapLatched else s

/-- A reset of any class. -/
def State.reset' (s : State) (c cause data : Nat) : State :=
  if c = rcPor ∨ c = rcPin then s.fullReset c cause data
  else if c = rcWdog then s.wdog
  else s.funcRestart c

/-! ### Selvedge -/

/-- The stitch counter and DTIME start at 0. -/
def Mach.startTime (m : Mach) : Mach :=
  { m with tb := { running := true, latches := [⟨0, 0, m.epoch, m.cycInc⟩] } }

/-- A start ends in Selvedge: the boot ROM runs on CPLL, and DTIME from XTAL (R461). -/
def Mach.bootSelvedge (m : Mach) (cause : Nat) : Mach :=
  let m := m.wrs [(HIF_DEV_STATE, [], 2), (TBS_STATUS_CPLL_ST, [], pllLocked), (TBS_STATUS_ACQ_FALLBACK, [], 1)]
  let m := { m.bootCause cause 0 true with boot := { m.boot with next := none } }
  if m.tb.running then m else m.startTime.hkRestart

/-- Fields that the Selvedge-entry column of Table 16.6 resets, by block (Table 11.3). -/
def selvedgeLoads (F : Fld) : Bool :=
  let soft := F.by_ &&& 16 != 0
  let wd := F.by_ &&& 32 != 0
  match F.base / 2 ^ 20 with
  | 0 => soft && F.base != 8 && F.base != 0x18 && F.base != 0x1C
  | 2 | 3 | 0xB => soft || wd
  | 1 | 5 | 6 | 7 | 8 | 9 | 0xA | 0xC | 256 => soft
  | _ => F.base == 0xE00190 && soft

/-- The fault action SELVEDGE (R435, R462): sets, streams and generators end, SPLL and MPLL stop, memory goes out of
service. -/
def State.selvedge (s : State) (src : Nat) : State :=
  if s.m.dev = .selvedge ∨ s.m.hif.inReset then s
  else
    let m := each allSets (fun m t => m.abortNow t) s.m
    let m := (each allStr (fun m i => m.logEnd i gcState) m).genPark 0
    let m := if m.fallback then m else m.toFallback
    let m := ((m.pin .lockS 0).pin .lockM 0).pin .memResetN 0
    let m := m.loadRegs selvedgeLoads
    let m := m.wrs [(TBS_STATUS_SPLL_ST, [], pllSearching), (TBS_STATUS_MPLL_ST, [], pllSearching), (TBS_STATUS_TPLL_ST, [], tpFree),
      (TBS_STATUS_MEM_UNAVAIL, [], 0), (HIF_DEV_STATE, [], 2), (HIF_LINK_L1, [], 0)]
    let m := ((m.bootCause 7 src true).hifRestart false false true).acqRestart false
    let m := { m with mem := {}, boot := { m.boot with next := none, waitMem := false },
                      flt := { m.flt with running := [], deferred := [], scrub := none },
                      tb := { m.tb with lost := none, planned := false, newKhz := none, backDue := false, offset := 0, measured := none } }
    { s with dram := noDram, m := m.maintRegs.hkRestart }.strapLatched

/-! ### The rows -/

/-- POWER_ON_RESET: power-up. -/
def doPowerOnReset (s : State) : State := s.fullReset rcPor 0 0
def execPowerOnReset (s : State) : Host.Outcome State Fault Refusal := .next (doPowerOnReset s)

def State.setHold (s : State) (pin xtal : Bool) : State :=
  s.upd fun m => { m with boot := { m.boot with pinLow := pin, xtalOut := xtal } }

/-- Leave reset when nothing holds the device in it. -/
def Mach.release (m : Mach) : Mach :=
  if m.boot.pinLow || m.boot.xtalOut || !m.hif.inReset then m
  else { m with hif := { m.hif with inReset := false }, boot := { m.boot with next := some 0 } }

/-- RESET_N_PIN: the pin has been low for 1 µs; the device stays in reset until it rises. -/
def doResetNPin (s : State) : State := (s.setHold true s.m.boot.xtalOut).fullReset rcPin 0 0
def execResetNPin (s : State) : Host.Outcome State Fault Refusal := .next (doResetNPin s)

def doResetNRelease (s : State) : State := (s.setHold false s.m.boot.xtalOut).upd Mach.release
def execResetNRelease (s : State) : Host.Outcome State Fault Refusal := .next (doResetNRelease s)

/-- XTAL_FAIL (R95): every loop is lost and the device holds in reset. -/
def doXtalFail (s : State) : State := (s.setHold s.m.boot.pinLow true).fullReset rcPin 8 0
def execXtalFail (s : State) : Host.Outcome State Fault Refusal := .next (doXtalFail s)

/-- XTAL_RETURN: the device starts with boot cause XTAL_LOST. -/
def doXtalReturn (s : State) : State :=
  if s.m.boot.xtalOut then (s.setHold s.m.boot.pinLow false).upd fun m => (m.bootCause 8 0 false).release else s
def execXtalReturn (s : State) : Host.Outcome State Fault Refusal := .next (doXtalReturn s)

def doPerst (s : State) : State := s.reset' rcPerst 0 0
def execPerst (s : State) : Host.Outcome State Fault Refusal := .next (doPerst s)

def doFlrPf0 (s : State) : State := s.reset' rcFlr 0 0
def execFlrPf0 (s : State) : Host.Outcome State Fault Refusal := .next (doFlrPf0 s)

/-- FLR_PF1 touches PF1's configuration space and MSI-X table only (R323). -/
def doFlrPf1 (s : State) : State := s.upd fun m => { m with hif := { m.hif with msixTab1 := [], msixPend1 := [] } }
def execFlrPf1 (s : State) : Host.Outcome State Fault Refusal := .next (doFlrPf1 s)

def doWatchdogExpiry (s : State) : State := s.reset' rcWdog 10 0
def execWatchdogExpiry (s : State) : Host.Outcome State Fault Refusal := .next (doWatchdogExpiry s)

/-- RESET_AFTER_COMPLETION: the reset that SOFT_RESET or the exit from Selvedge has scheduled (R354, R461). -/
def doResetAfterCompletion (s : State) : State :=
  match s.m.hif.resetDue with
  | some c => s.reset' c 0 0
  | none => s
def execResetAfterCompletion (s : State) : Host.Outcome State Fault Refusal := .next (doResetAfterCompletion s)

def doJtagTestExit (s : State) : State := s.fullReset rcPin 0 0
def execJtagTestExit (s : State) : Host.Outcome State Fault Refusal := .next (doJtagTestExit s)

end Sys2Proof.Machine
end

