-- ==== Sys2Proof/Machine/Boot.lean ====
section
/-! DEFINITION. Starts, the supplies and Retention (R304–R307, R395, R453–R470). -/
namespace Sys2Proof.Machine
open Sys2Proof

/-! ### Stages (R457–R460) -/

/-- A stage is complete. -/
def Mach.stageDone (m : Mach) (n : Nat) : Mach :=
  let m := { m with boot := { m.boot with next := if n = 7 then none else some (n + 1) } }
  (m.wr HIF_DEV_STAGE [] n).raise 12 0x0001 0 [] [n]

/-- S0: the start-failure counter and the straps. -/
def Mach.bootS0 (m : Mach) (r : BootResult) : Mach :=
  let mode := r.bootmode.val
  let n := m.rd BOOT_FAIL_COUNT
  let m := { m with boot := { m.boot with mode := mode } }
  let m := (m.inc BOOT_FAIL_STARTS []).wb TWL_STAT_STRAP_PRI [] r.strapPri
  let m := if mode = 2 then m else m.inc BOOT_FAIL_COUNT []
  if mode ≠ 2 ∧ 3 ≤ n then m.bootSelvedge 5
  else if mode = 1 ∨ mode = 3 then m.bootSelvedge 6
  else m.stageDone 0

/-- S1: the image of flash region 1 runs. -/
def Mach.bootS1 (m : Mach) (ok : Bool) : Mach :=
  if ok then { m with hif := { m.hif with fw := m.hif.fwNext.getD m.hif.fw, fwNext := none } }.stageDone 1
  else m.bootSelvedge 1

/-- The stored content becomes the live content. -/
def Mach.hoopLoad (m : Mach) : Mach :=
  let m := each [1, 2, 3, 4, 5, 6] (fun m r => m.revertRgn r) m
  let m := { m with smp := { m.smp with table := m.hoop.table, staging := m.hoop.table, tableDue := none, fgDue := [] } }
  let m := m.wr HOOP_FW_VER_VERSION [] m.hoop.imageVer
  m.logRegs

/-- S2 (R394, R395): the Hoop store is loaded; latched strap edges, the copy, the epoch and the strap act on the seal; a
START entry follows. -/
def State.bootS2 (s : State) (r : BootResult) : State :=
  if r.copy.val = 2 then s.upd fun m => m.bootSelvedge 2
  else
    let older := r.copy.val == 1
    let s := s.upd Mach.hoopLoad
    let s := s.upd fun m => (m.wb HIF_ALERT_STAT_HOOP_BROKEN [] (s.hoopSeal.st == .broken)).alertEval
    let s :=
      if s.hoopSeal.gf then s
      else
        let s := s.strapLatched
        let s := { s with m := s.m.wb HOOP_STAT_STRAP [] r.strapHigh }
        let s := if older then s.sealTo .broken 6 3 s.m.dtime false else s
        let s := if r.rollback then s.sealTo .broken 7 3 s.m.dtime false else s
        match s.hoopSeal.st, r.strapHigh with
        | .sealed, false => s.sealTo .broken 5 3 s.m.dtime false
        | .opened, true => s.strapSeal 3 s.m.dtime
        | _, _ => s
    s.upd fun m =>
      let a := m.rd BOOT_CAUSE_CAUSE + 256 * older.toNat + m.hoop.lostPower * 2 ^ 32
      let m := { m with hoop := { m.hoop with lostPower := 0 } }
      (m.audit s.hoopSeal.st auStart 3 0 a (m.devDigest true)).stageDone 2

/-- S3: the loops lock; time and housekeeping start. -/
def Mach.bootS3 (m : Mach) (r : BootResult) : Mach :=
  let m := m.wrs [(TBS_STATUS_SPLL_ST, [], pllLocked), (TBS_STATUS_CPLL_ST, [], pllLocked), (TBS_STATUS_MPLL_ST, [], pllLocked),
    (TBS_PLL_BAND_SPLL_BAND, [], r.bandS.val), (TBS_PLL_BAND_CPLL_BAND, [], r.bandC.val),
    (TBS_PLL_BAND_MPLL_BAND, [], r.bandM.val)]
  let m := ((m.pin .lockS 1).pin .lockM 1).startTime
  let m := (m.wb TBS_SPREAD_CPLL_ACTIVE [] (m.rd TBS_SPREAD_CPLL_MODE != 0)).spreadOn
  (m.requalify.refout.hkStart 0).hkStart 1 |>.stageDone 3

/-- S4: coarse calibration of T0, and Basting. -/
def Mach.bootS4 (m : Mach) (r : BootResult) : Mach :=
  let m := each (r.meas.zipIdx.take 64) (fun m p =>
    m.setTrims p.2 (Coef.ofList (((p.1).zip (m.slice p.2).interp.list).map fun q => q.1 - q.2))) m
  (m.wrs [(HIF_DEV_STATE, [], 1), (BOOT_TIME_BASTING_MS, [], min r.ms 65535)]).stageDone 4

/-- Memory fields that S5 loads from the configuration flash. -/
def flashFlds : List Fld :=
  [MEM_CFG_RATE, MEM_CFG_DENSITY, MEM_CFG_RANKS, MEM_CFG_SPARE_EN, MEM_CFG_RFM_EN, MEM_RH_CFG_THRESH, MEM_ADJ_COND, MEM_ADJ_MASK,
   MEM_DLY_WR_DLY, MEM_DLY_RD_DLY, MEM_DLY_GATE, MEM_CA_DLY_CA, MEM_CA_DLY_CS]

/-- Real-time limit in MB/s by rate code (Table 10.3). -/
def rtLimit (rate : Nat) : Nat := if rate = 2 then 300000 else if rate = 1 then 262500 else 225000

/-- The memory configuration takes effect: limits, a stored spread that the rate forbids (R74), ranks, and adjacency rules that contain their own condition bit are
reported (R293, R294, R304). -/
def Mach.memConfig (m : Mach) (cfg : List (Nat × Nat)) : Mach :=
  let bad := m.centreBad (m.rd TBS_SPREAD_MPLL_MODE)
  let m := each flashFlds (fun m F => each (allIx F.dims) (fun m ix =>
    match cfg.lookup (F.key ix) with | some v => m.wr F ix v | none => m) m) m
  let m := m.wr MEM_RT_LIMIT_LIMIT [] (rtLimit (m.rd MEM_CFG_RATE))
  let m := if !bad && m.centreBad (m.rd TBS_SPREAD_MPLL_MODE) then m.spreadDropped else m
  let m := each allMc (fun m mc => each (List.range 4) (fun m r =>
    m.setRankSt mc r (if m.spareRank = some r then rkSpare else if r < m.ranks then rkService else rkAbsent)) m) m
  each (List.range 4) (fun m i =>
    let c := m.rd MEM_ADJ_COND [i]
    if c ≠ 31 ∧ bit (m.rd MEM_ADJ_MASK [i]) c then m.raise 7 0x0008 0 [] [i] else m) m

/-- Request the foreground calibration of a tile for stage S6. -/
def Mach.bootCalAsk (m : Mach) (t : Nat) : Mach :=
  let (m, go) := m.maint actFgCal t [0] none
  if go then m.fgStart t else m

/-- Memory is verified: S6 starts.  Sets armed on T0 disarm as with ABORT (R458). -/
def Mach.startS6 (m : Mach) : Mach :=
  let m := { m with boot := { m.boot with waitMem := false, cal := 0 } }.stageDone 5
  let m := each (allSets.filter fun s => m.arming s && (m.members s).any fun n => decide (n < 16)) (fun m s => m.abortNow s) m
  m.bootCalAsk 0

/-- S5: memory is initialised and verified; when it fails the device stays in Basting (R306, R459). -/
def Mach.bootS5 (m : Mach) (r : BootResult) : Mach :=
  let m := (m.pin .memResetN 1).memConfig r.cfg
  let m := m.verifyResult 0xFFFF r.pass.toNat (mapList r.maps)
  if m.memOk then m.startS6
  else
    let m := { m with boot := { m.boot with waitMem := true } }
    (m.wr BOOT_CAUSE_CAUSE [] 4).raise 12 0x0006 0 [] [m.rd MEM_STAT_VFAIL]

/-- The next tile of S6, when one has been calibrated. -/
def Mach.bootCal (m : Mach) (t : Nat) : Mach :=
  if m.boot.next = some 6 ∧ m.boot.cal = t then
    let m := { m with boot := { m.boot with cal := t + 1 } }
    if t < 3 then m.bootCalAsk (t + 1) else m
  else m

/-- S7: full service.  Basting sets disarm, and their store is cleared (R458, R460). -/
def Mach.bootS7 (m : Mach) (ms : Nat) : Mach :=
  let m := each allSets (fun m s => m.abortNow s) m
  let m := { m with cap := { m.cap with baste := [], basteFlags := [] } }
  let m := m.wrs [(HIF_DEV_STATE, [], 0), (BOOT_TIME_FULL_MS, [], min ms 65535), (BOOT_FAIL_COUNT, [], 0)]
  (m.stageDone 7).raise 12 0x0002 0 [ms] []

/-- BOOT_STAGE_COMPLETE: the stage that runs ends with what it found.  A stage that waits does not end: for a planned
relock (R502), for MPLL, for memory (R459), or for the tiles of S6. -/
def State.bootStage (s : State) (r : BootResult) : State :=
  if s.m.hif.inReset then s
  else match s.m.boot.next with
    | none => s
    | some 0 => if r.ok then s.upd fun m => m.bootS0 r else doXtalFail s
    | some 1 => s.upd fun m => m.bootS1 r.ok
    | some 2 => s.bootS2 r
    | some 3 => if r.ok then s.upd fun m => m.bootS3 r else s.fullReset rcPin 3 0
    | some 4 => if s.m.tb.planned || s.m.tb.oldKhz.isSome then s else s.upd fun m => m.bootS4 r
    | some 5 => if s.m.boot.waitMem || s.m.rd TBS_STATUS_MPLL_ST != pllLocked then s else s.upd fun m => m.bootS5 r
    | some 6 => if s.m.boot.cal = 4 then s.upd fun m => m.stageDone 6 else s
    | some _ => s.upd fun m => m.bootS7 r.ms
def doBootStageComplete (r : BootResult) (s : State) : State := s.bootStage r
def execBootStageComplete (r : BootResult) (s : State) : Host.Outcome State Fault Refusal := .next (doBootStageComplete r s)

/-- FG_CAL_DONE in stage S6 leads to the next tile (R457). -/
def doFgCalDone (t : Nat) (meas : List (List Int)) (s : State) : State :=
  let ran := s.m.runs actFgCal t
  let s := s.fgDone t meas
  if ran then s.upd fun m => m.bootCal t else s
def execFgCalDone (tile : Fin 4) (meas : List (List Int)) (s : State) : Host.Outcome State Fault Refusal :=
  .next (doFgCalDone tile.val meas s)

/-- MEM_REINIT: a start that waits for memory goes on when the verification after a relock passes (assumption 94). -/
def Mach.memReinitDone (m : Mach) (pass : Nat) (maps : List (Nat × Nat)) : Mach :=
  let m := m.memReinit pass maps
  if m.boot.waitMem && m.memOk then m.startS6 else m
def doMemReinit (pass : Nat) (maps : List (Nat × Nat)) (s : State) : State := s.upd fun m => m.memReinitDone pass maps
def execMemReinit (pass : BitVec 16) (maps : List (Fin 16 × BitVec 32)) (s : State) : Host.Outcome State Fault Refusal :=
  .next (doMemReinit pass.toNat (mapList maps) s)

/-- MEM_VERIFY_DONE (R307, R320): a verification that MEM_VERIFY has asked for ends.  When all sixteen channels pass, every
area is INVALID, and a start that waits for memory goes on. -/
def Mach.memVerifyDone (m : Mach) (pass : Nat) (maps : List (Nat × Nat)) : Mach :=
  if m.rd MEM_STAT_STATE != memVerifying || (m.waitsOf 0x98 0).isEmpty then m
  else
    let asked := m.mem.verifying
    let lost := m.on TBS_STATUS_MEM_UNAVAIL
    let m := (m.verifyResult asked pass maps).finish 0x98 0 DONE (passing asked pass)
    if !m.memOk then m
    else
      let m := m.areasLost 2
      let m := if lost then m.memBack true else m
      if m.boot.waitMem then m.startS6 else m
def doMemVerifyDone (pass : Nat) (maps : List (Nat × Nat)) (s : State) : State := s.upd fun m => m.memVerifyDone pass maps
def execMemVerifyDone (pass : BitVec 16) (maps : List (Fin 16 × BitVec 32)) (s : State) : Host.Outcome State Fault Refusal :=
  .next (doMemVerifyDone pass.toNat (mapList maps) s)

/-! ### Supplies (R455, R456) -/

/-- SUPPLY_WARNING: the crossing lies 2 µs back, and every block since carries SUPPLY_EVENT. -/
def Mach.supplyWarning (m : Mach) (r : Nat) : Mach :=
  if m.hif.inReset || bit (m.rd PWR_RAIL_STAT_WARN) r then m
  else
    let none_ := m.rd PWR_RAIL_STAT_WARN == 0
    let t := m.dtime - 2 * usDt
    let m := m.wr PWR_RAIL_STAT_WARN [] (setBit (m.rd PWR_RAIL_STAT_WARN) r true)
    let m := { m with boot := { m.boot with warn := tins m.boot.warn r (t, m.epoch) } }
    let m := if none_ then m.pin .pwrWarnN 0 else m
    let ks := ((List.range 8).map (m.stitch - ·)).filter fun k => k = m.stitch || decide (t < m.latchDt (k + 1))
    let m := (each ks (fun m k => m.markStitch k fSupply) m).flagRecent (ks.foldl min m.stitch) m.stitch fSupply
    let m := m.logMark (ks.foldl min m.stitch) fSupply
    let m := each allCh (fun m n => m.modChan n fun c => { c with estBad := true }) m
    m.hkUrgentEv 1 (railSrc r) true
def doSupplyWarning (r : Nat) (s : State) : State := s.upd fun m => m.supplyWarning r
def execSupplyWarning (rail : Rail) (s : State) : Host.Outcome State Fault Refusal := .next (doSupplyWarning rail.val s)

/-- A warning is gone. -/
def Mach.warnOff (m : Mach) (r : Nat) : Mach :=
  let m := m.wr PWR_RAIL_STAT_WARN [] (setBit (m.rd PWR_RAIL_STAT_WARN) r false)
  let m := { m with boot := { m.boot with warn := tdel m.boot.warn r } }
  if m.rd PWR_RAIL_STAT_WARN = 0 then m.pin .pwrWarnN 1 else m

/-- SUPPLY_EVENT: a warning clears without a reset; the event is stamped with the crossing. -/
def Mach.supplyEvent (m : Mach) (r : Nat) : Mach :=
  match tfind m.boot.warn r with
  | none => m
  | some (t, ep) =>
    let us := min ((m.dtime - t) / usDt) (2 ^ 28 - 1)
    let low := tget 65535 (m.hkst 1).least r
    let m := (m.warnOff r).watchEnd
    let m := m.wrs [(PWR_LAST_EVT0_RAIL, [], r), (PWR_LAST_EVT0_DUR_US, [], us), (PWR_LAST_EVT1_LOW_CODE, [], low),
      (PWR_LAST_EVT1_EPOCH, [], ep), (PWR_LAST_T, [], t), (PWR_RAIL_STAT_SEEN, [], setBit (m.rd PWR_RAIL_STAT_SEEN) r true)]
    let m := (m.inc PWR_EVT_CNT_EVENTS [r]).markStitch m.stitch fSupply
    (m.raiseAt t 12 0x0003 0 [us] [r, low] ep).fault (53 + r)
def doSupplyEvent (r : Nat) (s : State) : State := s.upd fun m => m.supplyEvent r
def execSupplyEvent (rail : Rail) (s : State) : Host.Outcome State Fault Refusal := .next (doSupplyEvent rail.val s)

/-- SUPPLY_RESET: POR for VDD_AON, class PIN for the other rails; a warning that ends so raises no event. -/
def doSupplyReset (r : Nat) (s : State) : State :=
  let s := s.upd fun m => each m.warned (fun m r => m.warnOff r) (m.inc PWR_EVT_CNT_RESETS [r])
  s.fullReset (if r = 0 then rcPor else rcPin) 9 r
def execSupplyReset (rail : Rail) (s : State) : Host.Outcome State Fault Refusal := .next (doSupplyReset rail.val s)

/-! ### Retention (R466–R470) -/

/-- Retention entry begins at stitch `q`, the present one (Table 16.7): clock outputs go low (Table 17.8), and generator outputs give
code 0 before their DACs power down. -/
def Mach.retBegin (m : Mach) : Mach :=
  let m := m.wrs [(HIF_DEV_STATE, [], 3), (PWR_RET_STAT_PHASE, [], 1), (HKC_CFG_FORCED_LP, [0], 1), (HKC_CFG_FORCED_LP, [1], 1)]
  let m := { m with boot := { m.boot with retStitch := m.stitch } }
  let m := each allCh (fun m n => m.tail n) m
  let m := each allStr (fun m i => m.logEnd i gcState) m
  let m := each allGen (fun m g => m.emit (.dac g [0])) m.ppsLow.refout.mclkAll
  each (allCh.filter fun n => m.chState n == chOn || m.chState n == chSettling) (fun m n =>
    (m.stopUnits n m.stitch).chanOff n chOff) m

/-- Bytes of segments that Retention keeps (R319). -/
def Mach.keptByte (m : Mach) (a : Nat) : Bool :=
  let seg := m.rowsPerBank / 8 * 2 ^ 21
  let r := a / 2 ^ 38
  bit (m.rd MEM_PASR_MASK) (8 * r + a % 2 ^ 38 / seg)

/-- Requests still queued reach memory. -/
def State.drain (s : State) : State :=
  s.m.mem.queue.foldl (fun s r => (s.issue r .ok)) { s with m := { s.m with mem := { s.m.mem with queue := [] } } }

/-- The exit begins: MPLL is searched for, tiles power up, housekeeping returns to its own rate, and an MPLL loss of
Retention is reported (Table 16.9, R470). -/
def Mach.retLeave (m : Mach) : Mach :=
  let m := m.wrs [(PWR_RET_STAT_PHASE, [], 3), (HKC_CFG_FORCED_LP, [0], 0), (HKC_CFG_FORCED_LP, [1], 0), (HIF_LINK_L1, [], 0)]
  let m := { m with boot := { m.boot with exitAt := m.dtime } }
  let m := if m.mem.retLost then (m.setLate m.mem.lateSr false).mpllReport else m.setLate false false
  each m.enabledCh (fun m n => (m.restartRing n (m.stitch + 1)).settle n (m.stitch + 1) 16) m

/-- RET_ENTERED: memory is in self-refresh with its other segments lost, MPLL is stopped, and the ring SRAM is off.  An exit
requested meanwhile begins (R470). -/
def State.retEntered (s : State) : State :=
  if s.m.dev != .retention || s.m.rd PWR_RET_STAT_PHASE != 1 then s
  else
    let s := s.drain
    let m := s.m
    let d : Dram := ⟨s.dram.cells.filter fun c => m.keptByte c.1, s.dram.poison.filter fun l => m.keptByte (64 * l)⟩
    let m := { m with mem := { m.mem with backlog := [] } }
    let m := each allMc (fun m mc => m.wrs [(MEM_MC_STAT_SR, [mc], 1), (MEM_MC_STAT_BACKLOG, [mc], 0)]) m
    let m := if m.rd TBS_STATUS_MPLL_ST = pllLocked then m.pin .lockM 0 else m
    let m := m.wrs [(TBS_STATUS_MPLL_ST, [], pllSearching), (MEM_STAT_STATE, [], memRetention), (PWR_RET_STAT_PHASE, [], 2),
      (HIF_LINK_L1, [], m.hif.linkUp.toNat)]
    let m := each allCh (fun m n => m.modChan n fun c => { c with hist := [], fillFrom := c.histNext }) m
    let q := m.boot.retStitch
    let m := (m.maintEnd actRetention 0 q).raise 12 0x0004 0 [q] []
    { s with dram := d, m := if (m.waitsOf 0x04 0).isEmpty then m else m.retLeave }
def doRetEntered (s : State) : State := s.retEntered
def execRetEntered (s : State) : Host.Outcome State Fault Refusal := .next (doRetEntered s)

/-- RET_EXITED: verification is done and full service returns. -/
def State.retExited (s : State) (pass : Nat) (maps : List (Nat × Nat)) : State :=
  if s.m.dev != .retention || s.m.rd PWR_RET_STAT_PHASE != 3 || s.m.rd TBS_STATUS_MPLL_ST != pllLocked then s
  else
    let m := s.m.verifyResult 0xFFFF pass maps
    let (m, n) := m.retAreas (!m.memOk || m.mem.lateSr)
    let k := m.stitch
    let m := m.wrs [(HIF_DEV_STATE, [], 0), (PWR_RET_STAT_PHASE, [], 0),
      (PWR_RET_STAT_EXIT_US, [], min ((m.dtime - m.boot.exitAt) / usDt) 65535)]
    let m := each allGen (fun m g => m.wrs [(GEN_STAT_STATE, [g], gIdle), (GEN_STAT_CAUSE, [g], 0)]) m.mclkAll.refout
    let m := { m with flt := { m.flt with deferred := m.flt.deferred.map fun (r : MReq) => { r with limFrom := m.dtime } } }
    let m := (m.finish 0x04 0 DONE k).raise 12 0x0005 0 [k] [n]
    { s with m := m }.strapLatched
def doRetExited (pass : Nat) (maps : List (Nat × Nat)) (s : State) : State := s.retExited pass maps
def execRetExited (pass : BitVec 16) (maps : List (Fin 16 × BitVec 32)) (s : State) : Host.Outcome State Fault Refusal :=
  .next (doRetExited pass.toNat (mapList maps) s)

/-! ### DEVICE_STATE (R461, R466, R469) -/

def ciDeviceState : CmdInfo where
  op := 0x04
  masks := [3]
  tgt := tgt0
  svc := anySvc
  again := true

/-- A DMA channel is busy (R375). -/
def Mach.dmaBusy (m : Mach) (k : Nat) : Bool :=
  m.dmaSt k == dsRunning || m.dmaSt k == dsPausing || (m.dmaSt k == dsPaused && (m.dch k).desc.isSome)

/-- What keeps the device from entering Retention (R466). -/
def Mach.retBusy (m : Mach) : Bool :=
  (allSets.any fun s => m.arming s) || (allGen.any fun g => m.gstate g == gArmed || m.gruns g) || (allDma.any fun k => m.dmaBusy k)

def ownDeviceState (h : HostCmd) (s : State) : Option Nat :=
  let m := s.m
  let st := h.f 1 0 2
  firstOf [(decide (2 ≤ st), BAD_FIELD),
    (st == 1 && m.dev == .basting, BASTING_ONLY), (st == 1 && m.dev == .selvedge, SELVEDGE),
    (st == 1 && m.dev == .full && m.role != roleUnpaired, WRONG_STATE),
    (st == 1 && m.dev == .full && (m.retBusy || m.runs actRetention 0), BUSY),
    (st == 0 && m.dev == .retention && !(m.waitsOf 0x04 0).isEmpty, BUSY)]

/-- STATE 1 enters Retention from full service; STATE 0 leaves Retention, once its entry is complete (R470), or Selvedge; elsewhere
the request has no effect. -/
def effDeviceState (h : HostCmd) (_ : Nat) (s : State) : Mach :=
  let m := s.m
  match h.f 1 0 2, m.dev with
  | 1, .full =>
    let (m, go) := m.maint actRetention 0 [] (some h)
    if go then m.at_ (m.stitch + 1) (.other 2 []) else m
  | 0, .retention => (if m.rd PWR_RET_STAT_PHASE = 1 then m else m.retLeave).wait 0x04 h m.dtime
  | 0, .selvedge =>
    let m := m.wr BOOT_FAIL_COUNT [] 0
    { m with hif := { m.hif with resetDue := some rcPin } }.done h m.stitch
  | _, _ => m.done h m.stitch
def doDeviceState (h : HostCmd) (s : State) : State := runCmd ciDeviceState ownDeviceState (lift effDeviceState) h s
def execDeviceState (h : HostCmd) (s : State) : Host.Outcome State Fault Refusal := .next (doDeviceState h s)

end Sys2Proof.Machine
end

