-- ==== Sys2Proof/Machine/Link.lean ====
section
/-! DEFINITION. PCIe transmit (R337, R367, R448, Table 15.5): the order in which the packets that wait for the link leave. -/
namespace Sys2Proof.Machine
open Sys2Proof

/-- Pieces of up to `unit` bytes of a host range; none crosses a 4 KiB boundary of host address (R358). -/
def pieces (addr n unit : Nat) : Nat :=
  let first := min n (4096 - addr % 4096)
  ceilDiv first unit + ceilDiv (n - first) unit

/-- The word of an entry that holds PHASE, by its queue: a completion's is word 1, a pricking entry's word 2 (R337). -/
def phaseAt (q : Nat) : Nat := if q < 128 then 1 else if q < 256 then 2 else 0

/-- What an entry reports, and so may not overtake: a completion its command's data, a DMA event its channel's. -/
def reports (q : Nat) (ws : List Nat) : DataFor :=
  if q < 128 then .cmd (q - 1) (bits (ws.getD 1 0) 0 16)
  else if 392 ≤ q ∧ bits (ws.headD 0) 0 4 = 8 then .dma (bits (ws.headD 0) 32 16)
  else .nobody

/-- Class on PCIe transmit of what leaves by it, how many packets it makes, and what orders them; a packet is its number among
those.  An entry's PHASE word goes in a write of its own (R337); a write carries up to 512 bytes, a read asks for up to 4 096
(R358).  What leaves by a pin, a DAC, the pair link or as the answer to a host's read has none. -/
def Out.packets : Out → Option (Nat × Nat × Pkt)
  | .entry q _ ws =>
    some (1, ceilDiv (8 * phaseAt q) 512 + ceilDiv (8 * (ws.length - 1 - phaseAt q)) 512 + 1,
      { item := 0, part := 0, ring := 1 + q, data := reports q ws })
  | .msix fn v => some (1, 1, { item := 0, part := 0, ring := if fn = 0 then 1 + v else 1000 + v })
  | .host a bs cls _ d => some (cls, pieces a bs.length 512, { item := 0, part := 0, data := d })
  | .read a n cls _ => some (cls, pieces a n 4096, { item := 0, part := 0 })
  | .reg _ _ | .smbus _ | .pin _ _ _ | .dac _ _ | .frame _ => none

/-- Packets of one class among outputs that stand at place `i` and up. -/
def classQueue (cls : Nat) : Nat → List Out → List Pkt
  | _, [] => []
  | i, o :: os =>
    (match o.packets with
      | some (c, n, p) => if c = cls then (List.range n).map fun k => { p with item := i, part := k } else []
      | none => []) ++ classQueue cls (i + 1) os

/-- What has come up since joins its class. -/
def Tx.take (x : Tx) (out : List Out) : Tx :=
  let q := fun c => classQueue c x.taken (out.drop x.taken)
  { x with taken := out.length, c1 := x.c1 ++ q 1, c3 := x.c3 ++ q 3, c5 := x.c5 ++ q 5 }

/-- Data that waits in the lower classes and that some entry reports. -/
def Tx.late (x : Tx) : List DataFor := ((x.c3 ++ x.c5).map Pkt.data).filter (· != .nobody)

/-- The first packet that need not wait, and the others: an entry waits for the data it reports, and what follows it in its ring
waits with it. -/
def firstFree (late : List DataFor) (rings : List Nat) : List Pkt → Option (Pkt × List Pkt)
  | [] => none
  | p :: ps =>
    if late.contains p.data || rings.contains p.ring then
      (firstFree late (p.ring :: rings) ps).map fun r => (r.1, p :: r.2)
    else some (p, ps)

/-- One packet leaves: C1 before C3 before C5, but a C3 packet that has waited behind eight C1 packets in a row goes next
(R448).  A C1 packet whose data still waits lets others go first (R337, R367). -/
def Tx.send (x : Tx) : Tx :=
  match firstFree x.late [] x.c1, x.c3, x.c5 with
  | some (a, c1), [], _ => { x with c1 := c1, run := 0, sent := x.sent ++ [a] }
  | some (a, c1), b :: c3, _ =>
    if x.run < 8 then { x with c1 := c1, run := x.run + 1, sent := x.sent ++ [a] }
    else { x with c3 := c3, run := 0, sent := x.sent ++ [b] }
  | none, b :: c3, _ => { x with c3 := c3, run := 0, sent := x.sent ++ [b] }
  | none, [], c :: c5 => { x with c5 := c5, run := 0, sent := x.sent ++ [c] }
  | none, [], [] => { x with run := 0 }

/-- The link takes what has come up and sends one packet in a core cycle (assumption 148); none goes while the host cannot be
reached. -/
def Mach.transmit (m : Mach) : Mach :=
  let x := m.tx.take m.out
  { m with tx := if m.hostUp then x.send else x }

end Sys2Proof.Machine
end

