-- ==== Sys2Proof/Machine/Slots.lean ====
section
/-! DEFINITION. The stitch (R22–R27): a core cycle, the boundary with the changes due at it, and the slots for
qualification, bookkeeping and maintenance. -/
namespace Sys2Proof.Machine
open Sys2Proof

/-! ### A core cycle (R22) -/

/-- Pulses that no event of their own starts: quad segments and generator markers. -/
def ownStart (p : Pulse) (c : Nat) : Bool := decide (16 ≤ p.set) && !p.started && decide (p.from_ ≤ c)

/-- Output lines at the opening of the present cycle: pulses begin and end, and none begins on the fallback clock (R131); PPSOUT
falls after 1 ms (R90). -/
def Mach.lineCycle (m : Mach) : Mach :=
  let c := m.cycles
  let m := if m.fallback then
      { m with trg := { m.trg with pulses := m.trg.pulses.filter fun p => p.started || decide (c < p.from_) } }
    else m.startPulses fun p => ownStart p c
  let m := m.endPulses (fun p => p.started && decide (p.to_ ≤ c)) Pulse.to_
  if m.tb.ppsLeft == some 0 then m.ppsLow else m

/-- Eight samples of a channel, or as many more as it combines, go to its units and its stream. -/
def Mach.chanCycle (m : Mach) (raw : List (Fin 64 × List (BitVec 12))) (n : Nat) : Mach :=
  let codes := match raw.find? fun p => p.1.val == n with
    | some p => p.2.map BitVec.toInt
    | none => []
  let (m, outs) := m.feed n codes
  (m.unitsFeed n outs).logFeed n outs

/-- One cycle of the running core: lines, samples, credit; then DTIME moves on by the cycle, and the packets that came up since the
last cycle go out (R448). -/
def Mach.coreCycle (m : Mach) (raw : List (Fin 64 × List (BitVec 12))) : Mach :=
  if !m.tb.running || decide (m.cycLimit ≤ m.tb.cyc) then m
  else
    let k := m.tb.stitch
    let c := m.tb.cyc
    let m := m.lineCycle
    let m := (each (allCh.filter m.taking) (fun m n => m.chanCycle raw n) m).creditAll
    { m with tb := { m.tb with stitch := k, cyc := c + 1 } }.advance.transmit

def doCoreCycle (raw : List (Fin 64 × List (BitVec 12))) (s : State) : State := s.upd fun m => m.coreCycle raw
def execCoreCycle (raw : List (Fin 64 × List (BitVec 12))) (s : State) : Host.Outcome State Fault Refusal :=
  .next (doCoreCycle raw s)

/-! ### Changes due at a boundary -/

/-- A forwarded FG_CAL on a secondary. -/
def applyFgCal (h : HostCmd) (m : Mach) : Mach :=
  let (m, go) := m.maint actFgCal h.tgt [h.f 1 0 1] none
  if go then m.fgStart h.tgt else m

/-- What the accepted commands of each opcode do at their stitch of application. -/
def applyTable : List (Nat × (HostCmd → Mach → Mach)) :=
  [(0x10, applyChConfig), (0x11, applyQuadCombine), (0x12, applyFgCal), (0x13, applyCalRelease), (0x14, applyLoopback),
   (0x18, applySetMembers), (0x19, applySetConfig), (0x1A, applySetBind), (0x1B, applySetArm), (0x1C, applySetDisarm),
   (0x1D, applySetRearm), (0x30, applyUnitSet), (0x31, applyProgram), (0x32, applyPattern), (0x33, applyIo),
   (0x34, applyQseg), (0x35, applyTimer), (0x36, applyOut), (0x37, applySoft), (0x50, applyLogRingSet),
   (0x51, applyLogStreamCfg), (0x52, applyLogStart), (0x53, applyLogStop), (0x54, applyLogMgSet), (0x55, applyLogMdSet),
   (0x56, applyLogFlush), (0x60, applyAccConfig), (0x61, applyAccBind), (0x63, applyAccClear), (0x64, applyMeasSlot),
   (0x65, applyMeasBind), (0x67, applyMeasStats)] ++
  [(0x70, applyGenConfig), (0x71, applyGenSegWrite), (0x72, applyGenSeqWrite), (0x73, applyGenArm), (0x74, applyGenStart),
   (0x75, applyGenStop), (0x76, applyGenJump), (0x77, applyGenNcoSet), (0x78, applyGenSkew), (0x79, applyGenGuard),
   (0x7A, applyGenGuardReset), (0x7B, applyGenSrBind), (0x7C, applyGenTrig), (0x80, applyTbSource), (0x81, applyTbRate),
   (0x82, applyTbTod), (0x84, applyTbOutputs), (0x85, applyTbSync), (0x90, applyAreaCreate), (0x91, applyAreaDestroy),
   (0x92, applyAreaClear), (0x93, applyMemScrub), (0x96, applyMemSr), (0x97, applyMemAge), (0xA1, applyPairDissolve),
   (0xA6, applyPairConfig), (0xE0, applyFltConfig), (0xE4, applyMaintCfg)]

/-- The degrade effects of Table 15.1; sources 0 and 1 hold until FLT_CLEAR. -/
def Mach.degrade (m : Mach) (src inst : Nat) : Mach :=
  if src ≤ 1 then { m with flt := { m.flt with degraded := sins m.flt.degraded src } }
  else if src = 4 ∨ src = 5 then
    match m.setOf inst with
    | some t => if m.active t then m.modPset t fun p => { p with stopAt := some (m.stitch, false) } else m
    | none => m
  else if src = 8 ∨ src = 10 then m.sramPass
  else if src = 13 then
    if m.gruns inst && (m.gst inst).ramp.isNone then
      let r := m.gsampleAt inst (m.stitch * 256)
      m.modGst inst fun v => if v.play.isSome then { v with stopEnd := some r } else { v with parkAt := some (r + 64) }
    else m
  else if src = 45 ∨ src = 46 then m.retrainAsk
  else m.fastPass

/-- One change at the boundary of the present stitch. -/
def Mach.applyChange (m : Mach) : Change → Mach
  | .cmd op h => match tfind applyTable op with | some f => f h m | none => m
  | .rwh a v => m.applyRwh a v
  | .take n => m.takeChan n
  | .fault src inst _ => m.degrade src inst
  | .other 0 args => m.estApply (estDecode args.length args)
  | .other 1 _ => m.dissolve
  | .other 2 _ => m.retBegin
  | .other 3 args => m.planRelock (args.headD 1250000)
  | .other 4 args => m.quadDone (args.headD 0) m.stitch
  | .other 5 args => m.combine (args.headD 0) ((args.drop 1).headD 0)
  | .other _ _ => m

/-- The source of a SELVEDGE action. -/
def selvedgeSrc : Change → Option Nat
  | .fault src _ a => if a = faSelvedge then some src else none
  | _ => none

/-- Changes due, in order of acceptance. -/
def Mach.applyDue (m : Mach) : Mach :=
  let due := m.hif.changes.filter fun p => decide (p.1 ≤ m.stitch) && (selvedgeSrc p.2).isNone
  let m := { m with hif := { m.hif with changes := m.hif.changes.filter fun p => !due.contains p } }
  each due (fun m p => m.applyChange p.2) m

/-! ### The boundary (R25) -/

/-- Latch DTIME and EPOCH of the present stitch (R78); an earlier latch of it is replaced. -/
def Mach.latchNow (m : Mach) : Mach :=
  let old := m.tb.latches.filter fun l => decide (l.stitch < m.tb.stitch)
  { m with tb := { m.tb with latches := (⟨m.tb.stitch, m.tb.dt, (m.epoch + m.tb.wrapped.isSome.toNat) % 65536, m.cycInc⟩ :: old).take 131072 } }

/-- Flags that stand over the stitch that opens (R53, R63, R82, R383, R456). -/
def Mach.markStanding (m : Mach) (broken : Bool) : Mach :=
  let f := m.devFlags broken
  each (allCh.filter m.flows) (fun m n => m.markChan n (f ||| m.chanFlags n)) m

/-- UNIT_LOST (R100): a unit that an armed set's program names has its channel leave ON. -/
def Mach.unitLost (m : Mach) : Mach :=
  let now := allCh.filter fun n => m.chIsOn n && !(m.chan n).held
  let gone := m.smp.wasOn.filter fun n => !now.contains n
  let m := { m with smp := { m.smp with wasOn := now } }
  each gone (fun m n => each [2 * n, 2 * n + 1] (fun m u =>
    each (allSets.filter fun t => m.active t && m.namesUnit t u) (fun m t => m.raise 2 0x0021 t [] [u]) m) m) m

/-- The new stitch opens: counters, latches, fault buckets. -/
def Mach.openStitch (m : Mach) : Mach :=
  let t0 := m.latchDt m.stitch
  let m := { m with tb := { m.tb with stitch := m.tb.stitch + 1, cyc := 0, slot := 0 } }.latchNow
  (m.countsDue).closeBuckets t0 (m.latchDt m.stitch)

/-- What a boundary does beside a SELVEDGE action. -/
def Mach.boundaryWork (m : Mach) (sl : SealSt) (broken : Bool) : Mach :=
  let k := m.tb.stitch + 1
  let m := m.openStitch.pairBoundary.applyDue
  let m := ((m.spllReturn sl).dtimeStep sl).latchNow
  let m := m.syncOut.genStarts.logStarts.unitLost
  let m := (m.markStanding broken).trimInputs
  let m := each (m.smp.chans.map Prod.fst) (fun m n => m.trimChan n (m.logFlagsFrom n)) m
  { m with tb := { m.tb with stitch := k, cyc := 0, slot := 0 } }

/-- STITCH_BOUNDARY: after its 256 cycles the stitch ends and the next opens. -/
def State.boundary (s : State) : State :=
  if !s.m.tb.running || s.m.tb.cyc != 256 then s
  else
    let s := (s.upd fun m => m.boundaryWork s.hoopSeal.st s.hoopSeal.brokenInterval).copyAll
    match s.m.hif.changes.find? fun p => decide (p.1 ≤ s.m.stitch) && (selvedgeSrc p.2).isSome with
    | some p => s.selvedge ((selvedgeSrc p.2).getD 0)
    | none => s
def doStitchBoundary (s : State) : State := s.boundary
def execStitchBoundary (s : State) : Host.Outcome State Fault Refusal := .next (doStitchBoundary s)

/-! ### Qualification (R118) -/

def Mach.qualSlot (m : Mach) : Mach := each allSets (fun m t => m.qualify t) m.pairQual
def doQualificationSlot (s : State) : State := s.upd fun m => m.inSlot 0 Mach.qualSlot
def execQualificationSlot (s : State) : Host.Outcome State Fault Refusal := .next (doQualificationSlot s)

/-! ### Bookkeeping (R26, R142–R160) -/

/-- Ring groups of a channel that a record's reads met with errors (R154). -/
def Mach.ringErr (m : Mach) (e : RingEcc) : Mach :=
  let n := e.ch.val
  match m.setOf n with
  | none => m
  | some t =>
    match (m.pset t).recd with
    | none => m
    | some r =>
      let bad := e.groups.length
      let r := { r with
        corr := min 65535 (r.corr + e.corr), unc := r.unc + bad,
        bad := r.bad ++ e.groups.map fun g => (n, g)
        flags := r.flags ||| flagIf (bad != 0) fPoison }
      let m := m.modPset t fun p => { p with recd := some r }
      let m := (m.add CAP_RING_ECC_CORR [n] e.corr).add CAP_RING_ECC_UNC [n] bad
      let m := if e.corr = 0 then m else m.faultN 8 e.corr n
      let m := if bad = 0 then m else m.faultN 9 bad n
      each (e.groups.zipIdx) (fun m p => m.raise 2 0x0033 n [] [min 65535 (r.unc - bad + p.2 + 1)]) m

/-- One set; on a secondary its frames close records and arm it. -/
def Mach.bookOne (m : Mach) (t : Nat) : Mach := if m.follows then (m.takeOnly t).bookArms t else m.bookSet t

def Mach.bookSlot (m : Mach) (ecc : List RingEcc) (sram : List SramEcc) : Mach :=
  let m := each ecc (fun m e => m.ringErr e) m
  let m := (each sram (fun m e => m.sramErr e) m).lossSlot.pairBook
  (each allSets (fun m t => m.bookOne t) m).takeoverEnd
def doBookkeepingSlot (ecc : List RingEcc) (sram : List SramEcc) (s : State) : State :=
  s.upd fun m => m.inSlot 1 fun m => m.bookSlot ecc sram
def execBookkeepingSlot (ecc : List RingEcc) (sram : List SramEcc) (s : State) : Host.Outcome State Fault Refusal :=
  .next (doBookkeepingSlot ecc sram s)

/-! ### Maintenance (R27, R438–R447) -/

/-- Start a deferred request that the slot has admitted. -/
def Mach.startAdmitted (m : Mach) (r : MReq) : Mach :=
  match r.act with
  | 0 => m.at_ (m.stitch + 1) (.other 0 r.args)
  | 1 => m.fgStart r.inst
  | 2 => (m.scrubStart r.inst).fastShow
  | 3 => m.migStart r.inst (r.args.getD 0 0) (r.args.getD 1 0)
  | 6 =>
    match r.cmd, m.flt.scrub with
    | some _, none => { m with flt := { m.flt with scrub := some ⟨0, m.dtime, true, true⟩ } }
    | _, _ => m
  | 7 => m.retrainAnnounce
  | 9 => m.hkTestStart r.inst
  | 11 => m.retBegin
  | _ => m

def Mach.admitAll (m : Mach) : Mach :=
  let go := m.admitReqs.1
  each go (fun m r => (m.admitted r).startAdmitted r) m

/-- Request a step of an activity of many steps, unless one runs or waits. -/
def Mach.stepDue (m : Mach) (a : Nat) : Mach := if m.runs a 0 || m.waiting a 0 then m else (m.maint a 0 [] none).1

/-- Requests of SRAM scrub and twin check that fall due in the present stitch. -/
def Mach.slotRequests (m : Mach) : Mach :=
  let m := if m.flt.scrub.isSome || m.stitch % 2 ^ m.rd FLT_MAINT_CFG_SS_LOG2 == 0 then m.stepDue actSramScrub else m
  if m.pair.twinOn then m.stepDue actTwin
  else
    let per := m.rd TWL_CFG_TWIN_PERIOD * secDt
    if per ≠ 0 ∧ m.role = rolePrimary ∧ m.on TWL_STAT_LINK_UP ∧ m.pair.twinReq.isNone ∧
        m.latchDt (m.stitch - 1) / per ≠ m.latchDt m.stitch / per then m.twinAsk 0 (2 ^ 64 - 1) none
    else m

/-- Mark a running step as started. -/
def Mach.markStarted (m : Mach) (a i : Nat) : Mach :=
  { m with flt := { m.flt with running := m.flt.running.map fun (r : MReq) =>
    if r.act = a ∧ r.inst = i then { r with args := [1] } else r } }

/-- The slot starts one step: of activity 6 or 10, or the whole of activity 8; when both are due the lower id goes first
and the other takes the next slot (R444). -/
def Mach.slotStart (m : Mach) : Mach :=
  let due := m.flt.running.filter fun r => (r.act == actSramScrub || r.act == actTwin || r.act == actCcTest) && r.args != [1]
  let many := due.find? fun r => r.act != actCcTest
  let cc := due.find? fun r => r.act == actCcTest
  let late := fun (m : Mach) (b : Bool) => { m with flt := { m.flt with slotLate := b } }
  match many, cc with
  | some r, some c =>
    if r.act = actSramScrub ∧ !m.flt.slotLate then late (m.markStarted r.act r.inst) true
    else late ((m.ccStart c.inst).markStarted c.act c.inst) false
  | some r, none => late (m.markStarted r.act r.inst) false
  | none, some c => late ((m.ccStart c.inst).markStarted c.act c.inst) false
  | none, none => m

def Mach.maintSlot (m : Mach) (ecc : List SramEcc) : Mach :=
  let m := each ecc (fun m e => m.sramErr e) m
  let m := m.sramStepEnd.twinStepEnd
  (m.admitAll.slotRequests.slotStart.maintRegs).maintAges
def doMaintenanceSlot (ecc : List SramEcc) (s : State) : State := s.upd fun m => m.inSlot 5 fun m => m.maintSlot ecc
def execMaintenanceSlot (ecc : List SramEcc) (s : State) : Host.Outcome State Fault Refusal := .next (doMaintenanceSlot ecc s)

/-- MAINT_STEP_END: a running step is over; a catch-up burst leaves no backlog (R301).  Whole calibrations, migrations, retrains, self-tests and Retention entry end by
events of their own. -/
def Mach.maintStepEnd (m : Mach) (a i : Nat) : Mach :=
  match a with
  | 0 | 4 => m.maintEnd a i 0
  | 5 => if m.runs a i then (m.setBacklog i 0).maintEnd a i 0 else m
  | 2 => m.scrubEnd i
  | 6 => m.sramStepEnd
  | 10 => m.twinStepEnd
  | _ => m
def doMaintStepEnd (a i : Nat) (s : State) : State := s.upd fun m => m.maintStepEnd a i
def execMaintStepEnd (act : Fin 12) (inst : Nat) (s : State) : Host.Outcome State Fault Refusal :=
  .next (doMaintStepEnd act.val inst s)

end Sys2Proof.Machine
end

