-- ==== Sys2Proof/Machine/Fetch.lean ====
section
/-! DEFINITION. Fetching a command from a submission queue (R331–R345, R351, R352): its SEQUENCE check and re-reads, the
completion slot it needs, FENCE, and its opcode. -/
namespace Sys2Proof.Machine
open Sys2Proof

/-- The command of each opcode (Table 11.8). -/
def runTable : List (Nat × (HostCmd → State → State)) :=
  [(0x00, doIdentify), (0x01, doQueueCreate), (0x02, doQueueDelete), (0x03, doEventRoute), (0x04, doDeviceState),
   (0x05, doSoftReset), (0x06, doFlashWrite), (0x07, doFlashActivate), (0x08, doNop), (0x10, doChConfig),
   (0x11, doQuadCombine), (0x12, doFgCal), (0x13, doCalRelease), (0x14, doLoopback), (0x18, doSetMembers),
   (0x19, doSetConfig), (0x1A, doSetBind), (0x1B, doSetArm), (0x1C, doSetDisarm), (0x1D, doSetRearm),
   (0x30, doTrgUnitSet), (0x31, doTrgProgram), (0x32, doTrgPattern), (0x33, doTrgIo), (0x34, doTrgQseg),
   (0x35, doTrgTimer), (0x36, doTrgOut), (0x37, doTrgSoft)] ++
  [(0x40, doPrkExport), (0x41, doBasteRead), (0x50, doLogRingSet), (0x51, doLogStreamCfg), (0x52, doLogStart),
   (0x53, doLogStop), (0x54, doLogMgSet), (0x55, doLogMdSet), (0x56, doLogFlush), (0x60, doAccConfig),
   (0x61, doAccBind), (0x62, doAccRead), (0x63, doAccClear), (0x64, doMeasSlot), (0x65, doMeasBind),
   (0x66, doMeasExport), (0x67, doMeasStats), (0x70, doGenConfig), (0x71, doGenSegWrite), (0x72, doGenSeqWrite),
   (0x73, doGenArm), (0x74, doGenStart), (0x75, doGenStop), (0x76, doGenJump), (0x77, doGenNcoSet),
   (0x78, doGenSkew), (0x79, doGenGuard), (0x7A, doGenGuardReset)] ++
  [(0x7B, doGenSrBind), (0x7C, doGenTrig), (0x80, doTbSource), (0x81, doTbRate), (0x82, doTbTod), (0x83, doTbSpread),
   (0x84, doTbOutputs), (0x85, doTbSync), (0x90, doAreaCreate), (0x91, doAreaDestroy), (0x92, doAreaClear),
   (0x93, doMemScrub), (0x94, doMemMigrate), (0x95, doMemPasrSet), (0x96, doMemSrSet), (0x97, doMemAgeSet),
   (0x98, doMemVerify), (0xA0, doPairForm), (0xA1, doPairDissolve), (0xA2, doPairRoleSwap), (0xA3, doPairRejoin),
   (0xA4, doPairTwinCheck), (0xA5, doPairRetrain), (0xA6, doPairConfig), (0xB0, doHoopUnseal), (0xB1, doHoopSeal),
   (0xB2, doHoopCommit), (0xB3, doHoopLogExport)] ++
  [(0xB4, doHoopLogAck), (0xB5, doHoopFwLoad), (0xB6, doHoopDiscard), (0xB7, doHoopNote), (0xC0, doDmaBind),
   (0xC1, doDmaUnbind), (0xC2, doDmaRecover), (0xD0, doHkSeq), (0xD1, doHkConvert), (0xD2, doHkSnapshot),
   (0xD3, doHkSelftest), (0xE0, doFltConfig), (0xE1, doFltClear), (0xE2, doFltInject), (0xE3, doFltHistory),
   (0xE4, doMaintCfg), (0xE5, doCcSelftest), (0xE6, doSramScrub), (0xE7, doMaintCancel)]

/-- The fields of a command entry (Table 11.5); `data` is what the host memory it names holds. -/
def entryCmd (q : Fin 512) (ws data : List (BitVec 64)) : HostCmd :=
  let w := fun i => ws.getD i 0
  let w0 := (w 0).toNat
  { q := q, fence := bit w0 8, irqNow := bit w0 9, rsv := .ofNat 6 (w0 >>> 10), target := .ofNat 16 (w0 >>> 16),
    tag := .ofNat 16 (w0 >>> 32), seq := .ofNat 16 (w0 >>> 48), w1 := w 1, w2 := w 2, w3 := w 3, w4 := w 4, w5 := w 5,
    w6 := w 6, w7 := w 7, data := data }

/-- Free entries of a completion queue. -/
def Mach.cqFree (m : Mach) (q : Nat) : Nat := m.qSize q - 1 - m.qUsed q (m.qHost q) (m.qDev q)

/-- The device may fetch the entry at the head of a submission queue: both queues exist, it is not stalled or empty, a
completion slot is free (R341), the admin queue runs (R500), and Retention lets it (R345). -/
def Mach.fetchReady (m : Mach) (q : Nat) : Bool :=
  m.hostUp && decide (q < 128) && q % 2 == 0 && (q != 0 || m.on HIF_CTL_ADMIN_EN) && m.qCreated q && m.qCreated (q + 1) && !m.on HIF_Q_STAT_STALLED [q] &&
  m.qDev q != m.qHost q && decide (m.outstanding q < m.cqFree (q + 1)) &&
  !(m.dev == .retention && (q != 0 || m.rd PWR_RET_STAT_PHASE == 1))

/-- The entry never matched (R334). -/
def Mach.fetchStale (m : Mach) (q : Nat) : Mach :=
  let e := (m.qst q).seq
  let m := (m.setQst q { m.qst q with rereads := 0 }).wr HIF_Q_STAT_STALLED [q] 1
  (m.putCpl ⟨q, 0, 0xFFFF, QUEUE_STALE, e, false, m.qDev q⟩).fault 41 q

/-- Run the command of an opcode. -/
def State.runOp (s : State) (op : Nat) (h : HostCmd) : State :=
  match tfind runTable op with
  | some f => f h s
  | none => s.upd fun m => m.complete h BAD_OPCODE 0

/-- One read of the entry at a queue's head. -/
def State.fetchRead (s : State) (q : Fin 512) (ws data : List (BitVec 64)) : State :=
  let s := s.upd fun m => m.emit (.read (m.rd HIF_Q_BASE [q.val] + 64 * m.qDev q.val) 64 1 false)
  let m := s.m
  let w0 := (ws.getD 0 0).toNat
  if bits w0 48 16 ≠ (m.qst q.val).seq then
    if (m.qst q.val).rereads < 4 then
      s.upd fun m => m.setQst q.val { m.qst q.val with rereads := (m.qst q.val).rereads + 1 }
    else s.upd fun m => m.fetchStale q.val
  else if bit w0 8 && m.outstanding q.val != 0 then s.upd fun m => m.setQst q.val { m.qst q.val with rereads := 0 }
  else { s with m := m.qAdvance q.val }.runOp (bits w0 0 8) (entryCmd q ws data)

/-- COMMAND_FETCH: the first read of the entry, with the errors that SRAM reads met; an entry that is read again waits for
SEQUENCE_REREAD. -/
def doCommandFetch (q : Fin 512) (ws data : List (BitVec 64)) (ecc : List SramEcc) (s : State) : State :=
  if !s.m.fetchReady q.val || (s.m.qst q.val).rereads != 0 then s
  else
    let s := s.upd fun m => each ecc (fun m e => m.sramErr e) m
    if s.m.on HIF_Q_STAT_STALLED [q.val] then s else s.fetchRead q ws data
def execCommandFetch (q : Fin 512) (ws data : List (BitVec 64)) (ecc : List SramEcc) (s : State) :
    Host.Outcome State Fault Refusal := .next (doCommandFetch q ws data ecc s)

/-- SEQUENCE_REREAD: 1 µs after a mismatch the entry is read again, for a command or a stimulus ring. -/
def doSequenceReread (q : Fin 512) (ws data : List (BitVec 64)) (s : State) : State :=
  if (s.m.qst q.val).rereads = 0 then s
  else if 384 ≤ q.val then
    s.upd fun m => m.stagingFeed (q.val - 384) (ws.map BitVec.toNat) (data.flatMap fun d => toBytes 8 d.toNat)
  else if s.m.fetchReady q.val then s.fetchRead q ws data
  else s
def execSequenceReread (q : Fin 512) (ws data : List (BitVec 64)) (s : State) : Host.Outcome State Fault Refusal :=
  .next (doSequenceReread q ws data s)

end Sys2Proof.Machine
end

