-- ==== Sys2Proof/Machine/Fold.lean ====
section
/-! DEFINITION. Folding (R201–R217): one accumulator line, one member's record, one closed record, and ACC_FOLD. -/
namespace Sys2Proof.Machine
open Sys2Proof

/-! ### One line -/

/-- An accumulator line in memory reads uncorrectable: the controller counts and reports it (R309), with a component that nothing
states. -/
def State.accUncorrectable (s : State) (t l : Nat) : State :=
  let (f, m) := s.m.free 3
  { s with m := m.memUe (m.accLine0 t + l) (f % 8) }

/-- Read, change and write back one accumulator line (R212, R215); `unc` are the lines that read uncorrectable. -/
def State.accUpdate (s : State) (t : Nat) (unc : List Nat) (l : Nat) (f : List Nat → List Nat) : State :=
  if !s.m.accDram t then { s with m := s.m.accPut t l (f (s.accLine t l)) 2 false }
  else
    let s := { s with m := s.m.spend t 128 }
    if s.m.accBad t l then s
    else
      let line := s.m.accLine0 t + l
      let ue := unc.contains l && !s.m.queued line && !s.linePoison line
      if ue || s.linePoison line then
        let ws := s.accLine t l
        let s := if ue then s.accUncorrectable t l else s
        { s with m := (s.m.accPut t l ws 2 true).accPoison t l }
      else { s with m := s.m.accPut t l (f (s.accLine t l)) 2 false }

/-! ### One member's record -/

/-- A point's word after folding a value (R207, R208). -/
def pointFold (kind : Nat) (res : Bool) (w : Nat) (v : Int) : Nat :=
  if kind = 1 then enc 16 (min (sext 16 w) v) + enc 16 (max (sext 16 (w >>> 16)) v) * 2 ^ 16
  else enc 64 (sext 64 w + (if res then v else p12 v))

/-- Fold the first `n` positions of one member into AVG or ENV lines. -/
def State.foldPoints (s : State) (t j n : Nat) (unc : List Nat) (vals : List Int) : State :=
  let ml := s.m.memberLines t
  let kind := s.m.akind t
  let res := s.m.on ACC_SET_CFG_RES [t]
  each (List.range (ceilDiv n 8)) (fun s q =>
    let v8 := (vals.drop (8 * q)).take (min 8 (n - 8 * q))
    s.accUpdate t unc (j * ml + q) fun ws =>
      ws.zipIdx.map fun p => match v8[p.2]? with | some v => pointFold kind res p.1 v | none => p.1) s

/-- Amplitude bin of a value (R209). -/
def ampBin (ab : Nat) (v : Int) : Nat := (v + 32768).toNat / 2 ^ (16 - ab)

/-- Bins that one member's record counts in, in order (R209). -/
def histBins (hit tb ab n : Nat) (vals : List Int) : List Nat :=
  let w := 2 ^ tb
  let nb := 2 ^ ab
  let vals := vals.take n
  if hit = 0 then vals.zipIdx.map fun p => p.2 / w * nb + ampBin ab p.1
  else
    (List.range (ceilDiv n w)).flatMap fun t =>
      let x := (vals.drop (t * w)).take w
      if hit = 1 then [t * nb + ampBin ab (roundHalfEven (x.foldl (· + ·) 0) x.length)]
      else [t * nb + ampBin ab (x.foldl min (x.headD 0)), t * nb + ampBin ab (x.foldl max (x.headD 0))]

/-- Runs of consecutive numbers with the same line. -/
def lineRuns : List Nat → List (Nat × List Nat)
  | [] => []
  | u :: us =>
    match lineRuns us with
    | (l, r) :: t => if l = u / 16 then (l, u :: r) :: t else (u / 16, [u]) :: (l, r) :: t
    | [] => [(u / 16, [u])]

/-- One more count in a bin of a line, and whether it saturated. -/
def binFold (ws : List Nat) (u : Nat) : List Nat × Bool :=
  let i := u % 16 / 2
  let sh := 32 * (u % 2)
  let w := ws.getD i 0
  if bits w sh 32 = 0xFFFFFFFF then (ws, true) else (ws.set i (w + 2 ^ sh), false)

/-- Count a saturating increment (R209). -/
def Mach.histSat (m : Mach) (t u : Nat) : Mach :=
  let m := m.inc ACC_SET_SAT_COUNT [t]
  if m.on ACC_SET_STAT_HIST_SAT [t] then m else (m.wr ACC_SET_STAT_HIST_SAT [t] 1).raise 4 0x0003 t [u] []

/-- Fold a record's members into their histograms; consecutive counts in one line are one access, over members too (R212). -/
def State.foldHist (s : State) (t n : Nat) (unc : List Nat) (smp : List (List Int)) : State :=
  let ab := s.m.rd ACC_SET_CFG_AB_LOG2 [t]
  let us := smp.zipIdx.flatMap fun p =>
    (histBins (s.m.rd ACC_SET_CFG_HIT [t]) (s.m.rd ACC_SET_CFG_TB_LOG2 [t]) ab n p.1).map (p.2 * s.m.tbins t * 2 ^ ab + ·)
  each (lineRuns us) (fun s r =>
    let ws := s.accLine t r.1
    let (_, sat) := r.2.foldl (fun (st : List Nat × List Nat) u =>
      let (ws, full) := binFold st.1 u
      (ws, if full then st.2 ++ [u] else st.2)) (ws, [])
    let s := s.accUpdate t unc r.1 fun ws => r.2.foldl (fun ws u => (binFold ws u).1) ws
    if s.m.accBad t r.1 then s else { s with m := each sat (fun m u => m.histSat t u) s.m }) s

/-! ### One record -/

/-- Fold the first `n` positions of a record. -/
def State.foldAll (s : State) (c : Closed) (n : Nat) (unc : List Nat) : State :=
  if s.m.akind c.set = 2 then s.foldHist c.set n unc c.rec_.smp
  else each (c.rec_.smp.zipIdx) (fun s p => s.foldPoints c.set p.2 n unc p.1) s

/-- Fold one closed record, or count it as rejected (R201–R205).  A further record that cannot fold whole is left out, as an
accumulation has one partial fold at most (assumption 145). -/
def State.foldRec (s : State) (c : Closed) (unc : List Nat) : State :=
  let s :=
    if c.flags &&& fPreShort ≠ 0 then s.upd fun m => m.accReject c.set
    else if !c.foldsWhole && s.m.on ACC_SET_STAT_PARTIAL [c.set] then s
    else (s.foldAll c c.foldLen unc).upd fun m => m.accFolded c
  s.upd fun m => (m.setFolded c).accFinish c.set

/-- ACC_FOLD: the oldest closed record of a set whose hold-back of two stitches is over (R201). -/
def doAccFold (t : Nat) (unc : List Nat) (s : State) : State :=
  match s.m.cap.closed.find? fun c => c.set == t && !c.folded with
  | some c => if c.arr + 2 ≤ s.m.stitch ∧ (!s.m.accDram t || s.m.memOk) then s.foldRec c unc else s
  | none => s
def execAccFold (t : Fin 16) (unc : List Nat) (s : State) : Host.Outcome State Fault Refusal := .next (doAccFold t.val unc s)

end Sys2Proof.Machine
end

