-- ==== Sys2Proof/Machine/GenFrame.lean ====
section
/-! DEFINITION. GEN_FRAME: the frames of a generator (R236–R254). -/
namespace Sys2Proof.Machine
open Sys2Proof

/-- A line that a frame reads is uncorrectable: the controller counts and reports it, with a component that nothing states, and the
line is written back poisoned (R309). -/
def State.genUncorrectable (s : State) (g line : Nat) : Mach :=
  let (f, m) := s.m.free 3
  (m.memUe line (f % 8)).writeLine 0 (.gen g) 0 line (s.line line) true

/-- A frame read from a line as it stands now (assumption 151), PARK where it is poisoned, with GEN_POISON at the first of a pass
(R241). -/
def State.lineFrame (s : State) (g : Nat) (p : Play) (line : Nat) (unc : Bool) : State :=
  let was := s.linePoison line
  let ue := unc && !was && !s.m.queued line
  let m := (if ue then s.genUncorrectable g line else s.m).tookLine g line
  if !(was || ue) then { s with m := m.playFrame g p (lineCodes (s.line line)) }
  else
    let m := if p.said then m else (m.fault 14 g).raise 5 0x000A g [(m.gst g).n] [p.si]
    { s with m := m.playFrame g { p with said := true } (parkFrame m g) }

/-- GEN_FRAME: the next 32 samples of a generator that runs, once their time has come (assumption 149); of any other its standing
code (R236).  In Retention the DACs are off (R467).
`unc`: the line read is uncorrectable. -/
def State.genFrame (s : State) (g : Nat) (unc : Bool) : State :=
  let m := s.m
  if m.dev = .retention then s
  else if !m.gruns g then { s with m := m.emit (.dac g (List.replicate 32 (m.gidleCode g))) }
  else if 2 * (m.cycles + 1) ≤ m.gpos g (m.gst g).n then s
  else
    let m := m.genRegister g
    let v := m.gst g
    if v.ramp.isNone && (match v.parkAt with | some a => decide (a ≤ v.n) | none => false) then
      { s with m := m.genStopped g v.n }
    else
      -- a WAIT entry whose time has come
      let m := match v.waitE, v.playAt with
        | some (i, e, seg), some a => if decide (a ≤ v.n) && v.ramp.isNone then m.playEntry g v.n i e seg else m
        | some (_, _, _), none =>
          match v.jump with
          | some (r, t) =>
            if decide (r + 64 ≤ v.n) && v.ramp.isNone then
              let e := m.seqWord g t
              (m.jumpDone g v.n t).enterEntry g v.n t e (m.segWords g (seqSeg e))
            else m
          | none => m
        | none, _ => m
      match (m.gst g).play with
      | none => { s with m := m.gout g (parkFrame m g) }
      | some p =>
        let m := m.decideNow g p
        match segType p.seg with
        | 1 =>
          if (m.gst g).under.isSome then { s with m := m.underFrame g p }
          else if m.gfill g < 64 then { s with m := (m.underStart g).underFrame g p }
          else
            let line := m.gstage g (m.gst g).rdAt / 64
            let m := m.modGst g fun v => { v with rdAt := (v.rdAt + 64) % stagingBytes }
            { s with m := m.setFill g (m.gfill g - 64) }.lineFrame g p line unc
        | 2 =>
          let ys := (List.range 32).map fun i => ncoSample p.seg ((p.acc + i * segFtw p.seg) % 2 ^ 48)
          { s with m := m.playFrame g { p with acc := (p.acc + 32 * segFtw p.seg) % 2 ^ 48 } ys }
        | _ =>
          { s with m := m }.lineFrame g p (m.storeLine p.seg (p.pos / 32)) unc

def doGenFrame (g : Nat) (unc : Bool) (s : State) : State := s.genFrame g unc
def execGenFrame (g : Fin 8) (unc : Bool) (s : State) : Host.Outcome State Fault Refusal := .next (doGenFrame g.val unc s)

end Sys2Proof.Machine
end

