-- ==== Sys2Proof/Machine/Dispatch.lean ====
section
/-! DEFINITION. One arm for each command of the table. -/
namespace Sys2Proof.Machine
open Sys2Proof

/-- The meaning of each command on everything but the queue. -/
def exec (i : Instr) (s : State) : Host.Outcome State Fault Refusal :=
  match i with
  | .coreCycle raw => Sys2Proof.Machine.execCoreCycle raw s
  | .stitchBoundary => Sys2Proof.Machine.execStitchBoundary s
  | .qualificationSlot => Sys2Proof.Machine.execQualificationSlot s
  | .bookkeepingSlot ecc sram => Sys2Proof.Machine.execBookkeepingSlot ecc sram s
  | .measurementClosingSlot => Sys2Proof.Machine.execMeasurementClosingSlot s
  | .mirrorFrameSlot => Sys2Proof.Machine.execMirrorFrameSlot s
  | .faultWindowSlot => Sys2Proof.Machine.execFaultWindowSlot s
  | .maintenanceSlot ecc => Sys2Proof.Machine.execMaintenanceSlot ecc s
  | .maintStepEnd act inst => Sys2Proof.Machine.execMaintStepEnd act inst s
  | .maintLong act inst => Sys2Proof.Machine.execMaintLong act inst s
  | .checkSample ch code at_ => Sys2Proof.Machine.execCheckSample ch code at_ s
  | .tempReading t0 t1 t2 t3 => Sys2Proof.Machine.execTempReading t0 t1 t2 t3 s
  | .estimatorIntervalEnd ch res => Sys2Proof.Machine.execEstimatorIntervalEnd ch res s
  | .channelSettled ch => Sys2Proof.Machine.execChannelSettled ch s
  | .fgCalDone tile meas => Sys2Proof.Machine.execFgCalDone tile meas s
  | .loopbackSettled gen => Sys2Proof.Machine.execLoopbackSettled gen s
  | .spllLost => Sys2Proof.Machine.execSpllLost s
  | .spllLocked band => Sys2Proof.Machine.execSpllLocked band s
  | .mpllLost late => Sys2Proof.Machine.execMpllLost late s
  | .mpllLocked band => Sys2Proof.Machine.execMpllLocked band s
  | .memReinit pass maps => Sys2Proof.Machine.execMemReinit pass maps s
  | .cpllLost => Sys2Proof.Machine.execCpllLost s
  | .cpllLocked band => Sys2Proof.Machine.execCpllLocked band s
  | .xtalFail => Sys2Proof.Machine.execXtalFail s
  | .xtalReturn => Sys2Proof.Machine.execXtalReturn s
  | .refLost pps => Sys2Proof.Machine.execRefLost pps s
  | .refQualified pps off => Sys2Proof.Machine.execRefQualified pps off s
  | .slewDone => Sys2Proof.Machine.execSlewDone s
  | .dtimeWrap => Sys2Proof.Machine.execDtimeWrap s
  | .ppsinEdge ofs => Sys2Proof.Machine.execPpsinEdge ofs s
  | .ppsoutPulse => Sys2Proof.Machine.execPpsoutPulse s
  | .syncinPulse => Sys2Proof.Machine.execSyncinPulse s
  | .markerInputEdge line high => Sys2Proof.Machine.execMarkerInputEdge line high s
  | .timerFire r => Sys2Proof.Machine.execTimerFire r s
  | .trigOutPulse t => Sys2Proof.Machine.execTrigOutPulse t s
  | .comparatorActivate d => Sys2Proof.Machine.execComparatorActivate d s
  | .modLost d => Sys2Proof.Machine.execModLost d s
  | .modRestored d => Sys2Proof.Machine.execModRestored d s
  | .logFlushTimeout n => Sys2Proof.Machine.execLogFlushTimeout n s
  | .logBlockDelivery r => Sys2Proof.Machine.execLogBlockDelivery r s
  | .gapClose n => Sys2Proof.Machine.execGapClose n s
  | .recordRingDelivery t => Sys2Proof.Machine.execRecordRingDelivery t s
  | .msixCoalTimeout q => Sys2Proof.Machine.execMsixCoalTimeout q s
  | .eventDelivery => Sys2Proof.Machine.execEventDelivery s
  | .accFold t unc => Sys2Proof.Machine.execAccFold t unc s
  | .genFrame g unc => Sys2Proof.Machine.execGenFrame g unc s
  | .underrunEnd g => Sys2Proof.Machine.execUnderrunEnd g s
  | .stagingFeed g ws data => Sys2Proof.Machine.execStagingFeed g ws data s
  | .guardTrip g => Sys2Proof.Machine.execGuardTrip g s
  | .guardZero g => Sys2Proof.Machine.execGuardZero g s
  | .hkConversionEnd c raw => Sys2Proof.Machine.execHkConversionEnd c raw s
  | .selftestDone c => Sys2Proof.Machine.execSelftestDone c s
  | .ccSelftestDone tile => Sys2Proof.Machine.execCcSelftestDone tile s
  | .supplyWarning rail => Sys2Proof.Machine.execSupplyWarning rail s
  | .supplyEvent rail => Sys2Proof.Machine.execSupplyEvent rail s
  | .supplyReset rail => Sys2Proof.Machine.execSupplyReset rail s
  | .memAccess mc rd ecc => Sys2Proof.Machine.execMemAccess mc rd ecc s
  | .refreshDue mc rank => Sys2Proof.Machine.execRefreshDue mc rank s
  | .refreshCatchUp mc rank => Sys2Proof.Machine.execRefreshCatchUp mc rank s
  | .refreshRatePoll ask => Sys2Proof.Machine.execRefreshRatePoll ask s
  | .actTableClear => Sys2Proof.Machine.execActTableClear s
  | .dramScrubStep mc => Sys2Proof.Machine.execDramScrubStep mc s
  | .migDone mc => Sys2Proof.Machine.execMigDone mc s
  | .selfRefreshIdle mc => Sys2Proof.Machine.execSelfRefreshIdle mc s
  | .memVerifyDone pass maps => Sys2Proof.Machine.execMemVerifyDone pass maps s
  | .doorbellWrite q v => Sys2Proof.Machine.execDoorbellWrite q v s
  | .commandFetch q ws data ecc => Sys2Proof.Machine.execCommandFetch q ws data ecc s
  | .sequenceReread q ws data => Sys2Proof.Machine.execSequenceReread q ws data s
  | .adminEnWrite val => Sys2Proof.Machine.execAdminEnWrite val s
  | .rwhWrite addr val => Sys2Proof.Machine.execRwhWrite addr val s
  | .tabStageWrite val => Sys2Proof.Machine.execTabStageWrite val s
  | .shadowLatchRead sp off => Sys2Proof.Machine.execShadowLatchRead sp off s
  | .readClear sp off => Sys2Proof.Machine.execReadClear sp off s
  | .registerWrite sp off val be => Sys2Proof.Machine.execRegisterWrite sp off val be s
  | .smbusRead off => Sys2Proof.Machine.execSmbusRead off s
  | .pf0PowerState d3 => Sys2Proof.Machine.execPf0PowerState d3 s
  | .pcieLinkDown => Sys2Proof.Machine.execPcieLinkDown s
  | .pcieLinkUp speed width => Sys2Proof.Machine.execPcieLinkUp speed width s
  | .pcieCompletionError req poisoned addr => Sys2Proof.Machine.execPcieCompletionError req poisoned addr s
  | .pcieCompletionTimeout req addr => Sys2Proof.Machine.execPcieCompletionTimeout req addr s
  | .dmaDoorbellWrite k v => Sys2Proof.Machine.execDmaDoorbellWrite k v s
  | .dmaDescriptorFetch k ws => Sys2Proof.Machine.execDmaDescriptorFetch k ws s
  | .dmaTransferUnit k data unc => Sys2Proof.Machine.execDmaTransferUnit k data unc s
  | .descDone k => Sys2Proof.Machine.execDescDone k s
  | .dmaPause k => Sys2Proof.Machine.execDmaPause k s
  | .dmaPaused k => Sys2Proof.Machine.execDmaPaused k s
  | .dmaResume k => Sys2Proof.Machine.execDmaResume k s
  | .hoopStrapChange high => Sys2Proof.Machine.execHoopStrapChange high s
  | .unsealLapsed => Sys2Proof.Machine.execUnsealLapsed s
  | .changeDone => Sys2Proof.Machine.execChangeDone s
  | .auditFlush => Sys2Proof.Machine.execAuditFlush s
  | .mirrorFrameReceived frame => Sys2Proof.Machine.execMirrorFrameReceived frame s
  | .frameMissed => Sys2Proof.Machine.execFrameMissed s
  | .twlTrainingDone p => Sys2Proof.Machine.execTwlTrainingDone p s
  | .twlTrainingTimeout => Sys2Proof.Machine.execTwlTrainingTimeout s
  | .powerOnReset => Sys2Proof.Machine.execPowerOnReset s
  | .resetNPin => Sys2Proof.Machine.execResetNPin s
  | .perst => Sys2Proof.Machine.execPerst s
  | .flrPf0 => Sys2Proof.Machine.execFlrPf0 s
  | .flrPf1 => Sys2Proof.Machine.execFlrPf1 s
  | .watchdogExpiry => Sys2Proof.Machine.execWatchdogExpiry s
  | .resetAfterCompletion => Sys2Proof.Machine.execResetAfterCompletion s
  | .jtagTestExit => Sys2Proof.Machine.execJtagTestExit s
  | .bootStageComplete r => Sys2Proof.Machine.execBootStageComplete r s
  | .retEntered => Sys2Proof.Machine.execRetEntered s
  | .retExited pass maps => Sys2Proof.Machine.execRetExited pass maps s
  | .identify h => Sys2Proof.Machine.execIdentify h s
  | .queueCreate h => Sys2Proof.Machine.execQueueCreate h s
  | .queueDelete h => Sys2Proof.Machine.execQueueDelete h s
  | .eventRoute h => Sys2Proof.Machine.execEventRoute h s
  | .deviceState h => Sys2Proof.Machine.execDeviceState h s
  | .softReset h => Sys2Proof.Machine.execSoftReset h s
  | .flashWrite h => Sys2Proof.Machine.execFlashWrite h s
  | .flashActivate h => Sys2Proof.Machine.execFlashActivate h s
  | .nop h => Sys2Proof.Machine.execNop h s
  | .chConfig h => Sys2Proof.Machine.execChConfig h s
  | .quadCombine h => Sys2Proof.Machine.execQuadCombine h s
  | .fgCal h => Sys2Proof.Machine.execFgCal h s
  | .calRelease h => Sys2Proof.Machine.execCalRelease h s
  | .loopback h => Sys2Proof.Machine.execLoopback h s
  | .setMembers h => Sys2Proof.Machine.execSetMembers h s
  | .setConfig h => Sys2Proof.Machine.execSetConfig h s
  | .setBind h => Sys2Proof.Machine.execSetBind h s
  | .setArm h => Sys2Proof.Machine.execSetArm h s
  | .setDisarm h => Sys2Proof.Machine.execSetDisarm h s
  | .setRearm h => Sys2Proof.Machine.execSetRearm h s
  | .trgUnitSet h => Sys2Proof.Machine.execTrgUnitSet h s
  | .trgProgram h => Sys2Proof.Machine.execTrgProgram h s
  | .trgPattern h => Sys2Proof.Machine.execTrgPattern h s
  | .trgIo h => Sys2Proof.Machine.execTrgIo h s
  | .trgQseg h => Sys2Proof.Machine.execTrgQseg h s
  | .trgTimer h => Sys2Proof.Machine.execTrgTimer h s
  | .trgOut h => Sys2Proof.Machine.execTrgOut h s
  | .trgSoft h => Sys2Proof.Machine.execTrgSoft h s
  | .prkExport h => Sys2Proof.Machine.execPrkExport h s
  | .basteRead h => Sys2Proof.Machine.execBasteRead h s
  | .logRingSet h => Sys2Proof.Machine.execLogRingSet h s
  | .logStreamCfg h => Sys2Proof.Machine.execLogStreamCfg h s
  | .logStart h => Sys2Proof.Machine.execLogStart h s
  | .logStop h => Sys2Proof.Machine.execLogStop h s
  | .logMgSet h => Sys2Proof.Machine.execLogMgSet h s
  | .logMdSet h => Sys2Proof.Machine.execLogMdSet h s
  | .logFlush h => Sys2Proof.Machine.execLogFlush h s
  | .accConfig h => Sys2Proof.Machine.execAccConfig h s
  | .accBind h => Sys2Proof.Machine.execAccBind h s
  | .accRead h => Sys2Proof.Machine.execAccRead h s
  | .accClear h => Sys2Proof.Machine.execAccClear h s
  | .measSlot h => Sys2Proof.Machine.execMeasSlot h s
  | .measBind h => Sys2Proof.Machine.execMeasBind h s
  | .measExport h => Sys2Proof.Machine.execMeasExport h s
  | .measStats h => Sys2Proof.Machine.execMeasStats h s
  | .genConfig h => Sys2Proof.Machine.execGenConfig h s
  | .genSegWrite h => Sys2Proof.Machine.execGenSegWrite h s
  | .genSeqWrite h => Sys2Proof.Machine.execGenSeqWrite h s
  | .genArm h => Sys2Proof.Machine.execGenArm h s
  | .genStart h => Sys2Proof.Machine.execGenStart h s
  | .genStop h => Sys2Proof.Machine.execGenStop h s
  | .genJump h => Sys2Proof.Machine.execGenJump h s
  | .genNcoSet h => Sys2Proof.Machine.execGenNcoSet h s
  | .genSkew h => Sys2Proof.Machine.execGenSkew h s
  | .genGuard h => Sys2Proof.Machine.execGenGuard h s
  | .genGuardReset h => Sys2Proof.Machine.execGenGuardReset h s
  | .genSrBind h => Sys2Proof.Machine.execGenSrBind h s
  | .genTrig h => Sys2Proof.Machine.execGenTrig h s
  | .tbSource h => Sys2Proof.Machine.execTbSource h s
  | .tbRate h => Sys2Proof.Machine.execTbRate h s
  | .tbTod h => Sys2Proof.Machine.execTbTod h s
  | .tbSpread h => Sys2Proof.Machine.execTbSpread h s
  | .tbOutputs h => Sys2Proof.Machine.execTbOutputs h s
  | .tbSync h => Sys2Proof.Machine.execTbSync h s
  | .areaCreate h => Sys2Proof.Machine.execAreaCreate h s
  | .areaDestroy h => Sys2Proof.Machine.execAreaDestroy h s
  | .areaClear h => Sys2Proof.Machine.execAreaClear h s
  | .memScrub h => Sys2Proof.Machine.execMemScrub h s
  | .memMigrate h => Sys2Proof.Machine.execMemMigrate h s
  | .memPasrSet h => Sys2Proof.Machine.execMemPasrSet h s
  | .memSrSet h => Sys2Proof.Machine.execMemSrSet h s
  | .memAgeSet h => Sys2Proof.Machine.execMemAgeSet h s
  | .memVerify h => Sys2Proof.Machine.execMemVerify h s
  | .pairForm h => Sys2Proof.Machine.execPairForm h s
  | .pairDissolve h => Sys2Proof.Machine.execPairDissolve h s
  | .pairRoleSwap h => Sys2Proof.Machine.execPairRoleSwap h s
  | .pairRejoin h => Sys2Proof.Machine.execPairRejoin h s
  | .pairTwinCheck h => Sys2Proof.Machine.execPairTwinCheck h s
  | .pairRetrain h => Sys2Proof.Machine.execPairRetrain h s
  | .pairConfig h => Sys2Proof.Machine.execPairConfig h s
  | .hoopUnseal h => Sys2Proof.Machine.execHoopUnseal h s
  | .hoopSeal h => Sys2Proof.Machine.execHoopSeal h s
  | .hoopCommit h => Sys2Proof.Machine.execHoopCommit h s
  | .hoopLogExport h => Sys2Proof.Machine.execHoopLogExport h s
  | .hoopLogAck h => Sys2Proof.Machine.execHoopLogAck h s
  | .hoopFwLoad h => Sys2Proof.Machine.execHoopFwLoad h s
  | .hoopDiscard h => Sys2Proof.Machine.execHoopDiscard h s
  | .hoopNote h => Sys2Proof.Machine.execHoopNote h s
  | .dmaBind h => Sys2Proof.Machine.execDmaBind h s
  | .dmaUnbind h => Sys2Proof.Machine.execDmaUnbind h s
  | .dmaRecover h => Sys2Proof.Machine.execDmaRecover h s
  | .hkSeq h => Sys2Proof.Machine.execHkSeq h s
  | .hkConvert h => Sys2Proof.Machine.execHkConvert h s
  | .hkSnapshot h => Sys2Proof.Machine.execHkSnapshot h s
  | .hkSelftest h => Sys2Proof.Machine.execHkSelftest h s
  | .fltConfig h => Sys2Proof.Machine.execFltConfig h s
  | .fltClear h => Sys2Proof.Machine.execFltClear h s
  | .fltInject h => Sys2Proof.Machine.execFltInject h s
  | .fltHistory h => Sys2Proof.Machine.execFltHistory h s
  | .maintCfg h => Sys2Proof.Machine.execMaintCfg h s
  | .ccSelftest h => Sys2Proof.Machine.execCcSelftest h s
  | .sramScrub h => Sys2Proof.Machine.execSramScrub h s
  | .maintCancel h => Sys2Proof.Machine.execMaintCancel h s
  | .mclkEdge g e lead trail => Sys2Proof.Machine.execMclkEdge g e lead trail s
  | .twlInvalidSyncHeader lane => Sys2Proof.Machine.execTwlInvalidSyncHeader lane s
  | .pcieCorrectableError => Sys2Proof.Machine.execPcieCorrectableError s
  | .resetNRelease => Sys2Proof.Machine.execResetNRelease s
  | .tpllLocked => Sys2Proof.Machine.execTpllLocked s

end Sys2Proof.Machine
end

