-- ==== Sys2Proof/WellFormed.lean ====
section
/-! DEFINITION. Well-formed commands: operands that the spec's layouts can hold. -/
namespace Sys2Proof

/-- A submission queue: the admin queue 0, or 2p of command queue p. -/
def submissionQ (q : Fin 512) : Bool := decide (q.val < 128) && q.val % 2 == 0
/-- A stimulus ring: queue 384 + g. -/
def stimulusQ (q : Fin 512) : Bool := decide (384 ≤ q.val) && decide (q.val < 392)

/-- Instances of a maintenance activity (Table 15.3): tiles, memory channels, banks, ranks, converters, or the device. -/
def actInstances : Nat → Nat
  | 0 | 1 | 8 => 4
  | 2 | 3 => 16
  | 4 => 2048
  | 5 => 64
  | 9 => 2
  | _ => 1

/-- The five coefficients of a slice. -/
def coefWf (l : List Int) : Bool := l.length == 5

/-- The user of an SRAM line lies in its table: sets 0–15, 131 072 pricking entries, 512 queues. -/
def sramEccWf (e : SramEcc) : Bool :=
  match e.user with
  | .acc t _ => decide (t < 16)
  | .prk i => decide (i < 131072)
  | .queue q => decide (q < 512)
  | .meas _ | .other => true

/-- A frame names sets 0–15 and generators 0–7, and carries at most 24 commands (R414). -/
def MirrorFrame.wf (f : MirrorFrame) : Bool :=
  (f.trigs.all fun t => decide (t.set < 16)) && (f.closes.all fun c => decide (c.set < 16)) &&
  (f.arms.all fun a => decide (a.set < 16)) && (f.gens.all fun g => decide (g.gen < 8)) && decide (f.cmds.length ≤ 24)

def Instr.wf : Instr → Bool
  | .coreCycle raw => raw.all fun p => decide (p.2.length ≤ 32)
  | .bookkeepingSlot _ sram => sram.all sramEccWf
  | .maintenanceSlot ecc => ecc.all sramEccWf
  | .maintStepEnd act inst => decide (inst < actInstances act.val)
  | .maintLong act inst => decide (inst < actInstances act.val)
  | .estimatorIntervalEnd _ res => decide (res.length ≤ 16) && res.all coefWf
  | .fgCalDone _ meas => meas.length == 64 && meas.all coefWf
  | .stagingFeed _ ws data => ws.length == 2 && decide (data.length ≤ 1048576)
  | .memAccess _ rd _ => decide (rd < 2 ^ 34)
  | .commandFetch q ws _ ecc => submissionQ q && ws.length == 8 && ecc.all sramEccWf
  | .sequenceReread q ws _ => (submissionQ q && ws.length == 8) || (stimulusQ q && ws.length == 2)
  | .dmaDescriptorFetch _ ws => ws.length == 8
  | .dmaTransferUnit _ data _ => decide (data.length ≤ 4096)
  | .mirrorFrameReceived f => f.wf
  | .twlTrainingDone p => decide (p.dly.length ≤ 17)
  | .bootStageComplete r => r.meas.all coefWf
  | .identify h | .queueCreate h | .queueDelete h | .eventRoute h | .deviceState h | .softReset h | .flashWrite h
  | .flashActivate h | .nop h | .chConfig h | .quadCombine h | .fgCal h | .calRelease h | .loopback h
  | .setMembers h | .setConfig h | .setBind h | .setArm h | .setDisarm h | .setRearm h | .trgUnitSet h
  | .trgProgram h | .trgPattern h | .trgIo h | .trgQseg h | .trgTimer h | .trgOut h | .trgSoft h | .prkExport h
  | .basteRead h | .logRingSet h | .logStreamCfg h | .logStart h | .logStop h | .logMgSet h | .logMdSet h
  | .logFlush h | .accConfig h | .accBind h | .accRead h | .accClear h | .measSlot h | .measBind h | .measExport h
  | .measStats h | .genConfig h | .genSegWrite h | .genSeqWrite h | .genArm h | .genStart h | .genStop h
  | .genJump h | .genNcoSet h | .genSkew h | .genGuard h | .genGuardReset h | .genSrBind h | .genTrig h
  | .tbSource h | .tbRate h | .tbTod h | .tbSpread h | .tbOutputs h | .tbSync h | .areaCreate h | .areaDestroy h
  | .areaClear h | .memScrub h | .memMigrate h | .memPasrSet h | .memSrSet h | .memAgeSet h | .memVerify h
  | .pairForm h | .pairDissolve h | .pairRoleSwap h | .pairRejoin h | .pairTwinCheck h | .pairRetrain h
  | .pairConfig h | .hoopUnseal h | .hoopSeal h | .hoopCommit h | .hoopLogExport h | .hoopLogAck h | .hoopFwLoad h
  | .hoopDiscard h | .hoopNote h | .dmaBind h | .dmaUnbind h | .dmaRecover h | .hkSeq h | .hkConvert h
  | .hkSnapshot h | .hkSelftest h | .fltConfig h | .fltClear h | .fltInject h | .fltHistory h | .maintCfg h
  | .ccSelftest h | .sramScrub h | .maintCancel h => submissionQ h.q
  | .stitchBoundary | .qualificationSlot | .measurementClosingSlot | .mirrorFrameSlot | .faultWindowSlot
  | .checkSample _ _ _ | .tempReading _ _ _ _ | .channelSettled _ | .loopbackSettled _ | .spllLost | .spllLocked _
  | .mpllLost _ | .mpllLocked _ | .memReinit _ _ | .cpllLost | .cpllLocked _ | .xtalFail | .xtalReturn | .refLost _
  | .refQualified _ _ | .slewDone | .dtimeWrap | .ppsinEdge _ | .ppsoutPulse | .syncinPulse | .markerInputEdge _ _
  | .timerFire _ | .trigOutPulse _ | .comparatorActivate _ | .modLost _ | .modRestored _ | .logFlushTimeout _
  | .logBlockDelivery _ | .gapClose _ | .recordRingDelivery _ | .msixCoalTimeout _ | .eventDelivery | .accFold _ _
  | .genFrame _ _ | .underrunEnd _ | .guardTrip _ | .guardZero _ | .hkConversionEnd _ _ | .selftestDone _
  | .ccSelftestDone _ | .supplyWarning _ | .supplyEvent _ | .supplyReset _ | .refreshDue _ _ | .refreshCatchUp _ _
  | .refreshRatePoll _ | .actTableClear | .dramScrubStep _ | .migDone _ | .selfRefreshIdle _ | .memVerifyDone _ _
  | .doorbellWrite _ _ | .adminEnWrite _ | .rwhWrite _ _ | .tabStageWrite _ | .shadowLatchRead _ _ | .readClear _ _
  | .registerWrite _ _ _ _ | .smbusRead _ | .pf0PowerState _ | .pcieLinkDown | .pcieLinkUp _ _
  | .pcieCompletionError _ _ _ | .pcieCompletionTimeout _ _ | .dmaDoorbellWrite _ _ | .descDone _ | .dmaPause _
  | .dmaPaused _ | .dmaResume _ | .hoopStrapChange _ | .unsealLapsed | .changeDone | .auditFlush | .frameMissed
  | .twlTrainingTimeout | .powerOnReset | .resetNPin | .perst | .flrPf0 | .flrPf1 | .watchdogExpiry
  | .resetAfterCompletion | .jtagTestExit | .retEntered | .retExited _ _ | .mclkEdge _ _ _ _
  | .twlInvalidSyncHeader _ | .pcieCorrectableError | .resetNRelease | .tpllLocked => true

end Sys2Proof
end

