-- ==== Sys2Proof/Safety.lean ====
section
/-! DEFINITION. The words statements are made of: what holds of every state a run can reach, what a report to the host may
change, and when a host command passes its checks. -/
namespace Sys2Proof.Machine
open Sys2Proof

/-- R2: an LQ6420-GF never enters SEALED. -/
def Seal.legal (v : Seal) : Bool := !(v.gf && v.st == .sealed)

/-- R2 and the form of record memory. -/
def State.safe (s : State) : Bool := s.hoopSeal.legal && Memory.wf s.dram.cells

/-- The places of register fields that entries, events and alerts write: HIF_ALERT_STAT, HIF_EVT_ROUTE and the queue
registers (Tables 11.1 and 11.4). -/
def reportKey (k : Nat) : Bool :=
  (decide (0x10 * 32 ≤ k) && decide (k < 0x14 * 32)) || (decide (0x100 * 32 ≤ k) && decide (k < 0x134 * 32)) ||
  (decide (0x1000 * 32 ≤ k) && decide (k < 0x9000 * 32))

/-- From `m` to `t` the device has only reported: entries, messages, alerts and fault counts; and register fields at the
places of `keys` have changed.  Everything else is as it was. -/
structure Quiet (keys : List Nat) (m t : Mach) : Prop where
  regs : ∀ k, reportKey k = false → k ∉ keys → tfind t.regs k = tfind m.regs k
  smp : t.smp = m.smp
  tb : t.tb = m.tb
  trg : t.trg = m.trg
  cap : t.cap = m.cap
  acc : t.acc = m.acc
  log : t.log = m.log
  gen : t.gen = m.gen
  hif : t.hif = { m.hif with queues := t.hif.queues, evbuf := t.hif.evbuf, held := t.hif.held,
                             msixDue := t.hif.msixDue, msixPend := t.hif.msixPend, msixPend1 := t.hif.msixPend1,
                             alert := t.hif.alert }
  dma : t.dma = m.dma
  mem : t.mem = m.mem
  flt : t.flt = { m.flt with pend := t.flt.pend }
  hk : t.hk = m.hk
  hoop : t.hoop = m.hoop
  pair : t.pair = m.pair
  boot : t.boot = m.boot
  out : ∃ l, t.out = m.out ++ l
  tx : t.tx = m.tx
  freeCtr : t.freeCtr = m.freeCtr

/-- The queue of commands, the seal and record memory are as they were. -/
def State.keeps (s t : State) : Prop := t.pending = s.pending ∧ t.hoopSeal = s.hoopSeal ∧ t.dram = s.dram

/-- The command passes the checks of R352 and those of its own description. -/
def Admitted (ci : CmdInfo) (own : HostCmd → State → Option Nat) (h : HostCmd) (s : State) : Prop :=
  submissionQ h.q = true ∧ commonRefusal ci h s.m = none ∧ own h s = none

/-- The completion entry of a command, as it stands in the completion queue of its pair. -/
def cplOf (m : Mach) (h : HostCmd) (status result : Nat) : Cpl :=
  ⟨h.q.val, result % 2 ^ 64, h.tag.toNat, status, h.seq.toNat, h.irqNow, (h.seq.toNat + 1) % m.qSize h.q.val % 2 ^ 12⟩

/-- Between `m` and `t` the command has completed: its entry is the first thing that has left the package, or it is the
last of those held while host memory cannot be reached (R324, R340). -/
def Completes (m t : Mach) (h : HostCmd) (status result : Nat) : Prop :=
  if m.hostUp then
    ∃ l, t.out = m.out ++ .entry (h.q.val + 1) (m.qDev (h.q.val + 1))
      (cplWords (cplOf m h status result) (m.rd HIF_Q_STAT_PHASE [h.q.val + 1])) :: l
  else t.hif.held = m.hif.held ++ [cplOf m h status result] ∧ t.out = m.out

/-- The command takes `s` to `m`, with the queue, the seal and record memory as they were. -/
def Becomes (c : Instr) (s : State) (m : Mach) : Prop := exec c s = .next { s with m := m }

/-- The host command takes `s` to `m` and then completes: the queue, the seal and record memory stay, and beside the
completion nothing else happens. -/
def Runs (c : Instr) (s : State) (h : HostCmd) (status result : Nat) (m : Mach) : Prop :=
  ∃ t, exec c s = .next t ∧ s.keeps t ∧ Quiet [] m t.m ∧ Completes m t.m h status result

/-- The same for a command whose completion carries record flags: DONE, or with flags set DONE_FLAGS with the flags in the
result's upper 16 bits (R340). -/
def RunsFlags (c : Instr) (s : State) (h : HostCmd) (flags result : Nat) (m : Mach) : Prop :=
  if flags = 0 then Runs c s h DONE result m else Runs c s h DONE_FLAGS (result % 2 ^ 48 + flags <<< 48) m

/-- The event answers a next state with the queue, the seal and record memory as they were, and a device that meets `P`. -/
def Gives (c : Instr) (s : State) (P : Mach → Prop) : Prop := ∃ t, exec c s = .next t ∧ s.keeps t ∧ P t.m

/-- What a saturating counter field holds when it has counted one more. -/
def Mach.oneMore (m : Mach) (F : Fld) (ix : List Nat) : Nat := min (m.rd F ix + 1) (2 ^ F.width - 1)

/-- Every field of the list holds the value beside it. -/
def Holds (t : Mach) (l : List (Fld × List Nat × Nat)) : Prop := ∀ p ∈ l, t.rd p.1 p.2.1 = p.2.2

/-- From `m` to `t` exactly the fields of the list have been written, each to the value beside it, and `t` has reported
no more than `Quiet` allows. -/
def Sets (m t : Mach) (l : List (Fld × List Nat × Nat)) : Prop :=
  Quiet (l.map fun p => p.1.key p.2.1) m t ∧ Holds t l

/-- The registers of a queue as QUEUE_CREATE leaves them (Table 11.11). -/
def queueStart (q lg irq nosnoop base count time : Nat) : List (Fld × List Nat × Nat) :=
  [(HIF_Q_CFG_CREATED, [q], 1), (HIF_Q_CFG_LOG2SIZE, [q], lg), (HIF_Q_CFG_IRQ_EN, [q], irq),
   (HIF_Q_CFG_NOSNOOP_OK, [q], nosnoop), (HIF_Q_BASE, [q], base), (HIF_Q_PTR_DEV_PTR, [q], 0), (HIF_Q_PTR_HOST_PTR, [q], 0),
   (HIF_Q_STAT_STALLED, [q], 0), (HIF_Q_STAT_FULL, [q], 0), (HIF_Q_STAT_PHASE, [q], 1), (HIF_Q_STAT_FAULT, [q], 0),
   (HIF_Q_COAL_COAL_COUNT, [q], count), (HIF_Q_COAL_COAL_TIME, [q], time)]

/-- A command's request for a maintenance step, made now. -/
def request (m : Mach) (act inst : Nat) (args : List Nat) (h : HostCmd) : MReq :=
  { act := act, inst := inst, args := args, since := m.dtime, stitch := m.stitch, cmd := some h, limFrom := m.dtime }

/-- What a scheduled command does when its boundary comes. -/
def Applies (op : Nat) (h : HostCmd) (m : Mach) : Mach := m.applyChange (.cmd op h)

/-- The stitch of application of an admitted command (R145, R414). -/
def State.due (s : State) (op : Nat) : Nat := s.m.dueOf op

/-- An admitted command of the row is scheduled for its stitch of application and completes with that stitch number (R145). -/
def Scheduled (row : HostCmd → Instr) (ci : CmdInfo) (own : HostCmd → State → Option Nat) : Prop :=
  ∀ (h : HostCmd) (s : State), Admitted ci own h s →
    Runs (row h) s h DONE (s.due ci.op) ((s.m.forward ci.op h).at_ (s.due ci.op) (.cmd ci.op h))

end Sys2Proof.Machine
end

