-- ==== Sys2Proof/Certificates/Slice0/Obligations.lean ====
section
/-! DEFINITION. The statements for the provers: what the commands of the LQ6420 do, by the numbered rules of the spec. -/
open Sys2Proof Sys2Proof.Machine

/-! ### The queue and the whole machine -/

/-- A step runs the command at the front of the queue with the rest of the queue (the fixed form of a block). -/
def Obligations.StepRunsFrontCommand : Prop :=
  ∀ (c : Instr) (rest : List Instr) (s : State),
    step { s with pending := c :: rest } = exec c { s with pending := rest }

/-- Every command answers a next state and leaves the queue of commands as it is; a step on an empty queue leaves the state
as it is (the model's choice, assumption 4). -/
def Obligations.EveryCommandAnswersAndKeepsTheQueue : Prop :=
  (∀ (c : Instr) (s : State), ∃ t, exec c s = .next t ∧ t.pending = s.pending) ∧
  (∀ s : State, s.pending = [] → step s = .next s)

/-- Every step keeps the form of record memory and never seals an LQ6420-GF (R2). -/
def Obligations.StepKeepsSafe : Prop :=
  ∀ s t : State, s.safe = true → step s = .next t → t.safe = true

/-- The state after reset is safe. -/
def Obligations.ResetIsSafe : Prop := State.reset.safe = true

/-- The commands and events that Table 13.2 lets change the seal, directly or through a reset, a start or a boundary that
carries out a change. -/
def Sys2Proof.Machine.sealMovers : Instr → Bool
  | .hoopUnseal _ | .hoopSeal _ | .hoopLogAck _ | .hoopStrapChange _ | .changeDone | .unsealLapsed | .powerOnReset
  | .resetNPin | .perst | .flrPf0 | .flrPf1 | .watchdogExpiry | .resetAfterCompletion | .jtagTestExit
  | .bootStageComplete _ | .retEntered | .retExited _ _ | .stitchBoundary | .xtalFail | .xtalReturn | .supplyReset _
  | .commandFetch .. | .sequenceReread .. | .resetNRelease => true
  | _ => false

/-! ### Streams, records, accumulation -/

/-- R158, R178, R180, R181, R183, R184, R201–R204: the edge that is due on a group's grid gives every input its bit, by the
levels in the bit's two halves; a lost modulator is marked, counted and leaves its running stream in a gap, and a restored one is
cleared; a comparator change leaves its filter as its level, an active one with its event; the oldest record leaves for its ring;
a fold counts its record, takes it in part, or rejects it. -/
def Obligations.StreamAndRecordEvents : Prop :=
  (∀ (g : Fin 16) (e : Nat) (lead trail : BitVec 16) (s : State), if s.m.edgeDue g e then
      Gives (.mclkEdge g e lead trail) s fun t => t.edgeNext g = e + 1 ∧ ∀ j, j < 16 → let d := 16 * g.val + j
        let man := s.m.on LOG_MG_CFG_MANCH [g.val]
        let err := man && lead.getLsbD j == trail.getLsbD j
        (t.modin d).n = e + 1 ∧
        bit (t.modin d).hist 0 = (if err then bit (s.m.modin d).hist 0
          else if man || s.m.on LOG_MG_CFG_EDGE [g.val] then trail.getLsbD j else lead.getLsbD j) ∧
        t.rd LOG_MD_ERR_DECODE [d] = if err then s.m.oneMore LOG_MD_ERR_DECODE [d] else s.m.rd LOG_MD_ERR_DECODE [d]
    else Becomes (.mclkEdge g e lead trail) s s.m) ∧
  (∀ (d : Fin 256) (s : State) (x : Int × Nat), (s.m.modin d).lostAt = some x → s.m.modLost d = false →
    Gives (.modLost d) s fun t => t.modLost d = true ∧
      t.rd LOG_MD_ERR_LOSSES [d.val] = s.m.oneMore LOG_MD_ERR_LOSSES [d.val] ∧ (t.modin d).lostAt = none ∧
      (∃ l, t.flt.pend = s.m.flt.pend ++ l ∧ ⟨16, 1, d.val⟩ ∈ l) ∧
      (s.m.lstate (64 + d) = lsRunning → t.lstate (64 + d) = lsGap)) ∧
  (∀ (d : Fin 256) (s : State) (e : Int), (s.m.modin d).okAt = some e → s.m.modLost d = true →
    Gives (.modRestored d) s fun t => t.modLost d = false ∧ (t.modin d).okAt = none) ∧
  (∀ (d : Fin 256) (s : State), (s.m.modin d).acts = [] → Becomes (.comparatorActivate d) s s.m) ∧
  (∀ (d : Fin 256) (s : State) (on : Bool) (t0 c : Nat) (rest : List (Bool × Nat × Nat)),
    (s.m.modin d).acts = (on, t0, c) :: rest →
    Gives (.comparatorActivate d) s fun t => (t.modin d).acts = rest.dropWhile (fun p => !p.1) ∧
      t.on LOG_MD_HYST_ACTIVE [d.val] = (on && (rest.takeWhile fun p => !p.1).isEmpty) ∧
      (on = false → t.trg.events = s.m.trg.events) ∧
      (on = true → ∃ e : Ev, t.trg.events = s.m.trg.events ++ [e] ∧ e.sid = 0x80 + d ∧ e.t = t0)) ∧
  (∀ (k : Fin 16) (s : State), match s.m.cap.outq.find? fun o => o.set == k.val with
    | none => Becomes (.recordRingDelivery k) s s.m
    | some o => if s.m.recReady o then
        Gives (.recordRingDelivery k) s fun t =>
          t.cap.outq = s.m.cap.outq.eraseP (fun x => x.set == k.val) ∧
          ∃ l, t.out = s.m.out ++ .entry (s.m.rring k) (s.m.qDev (s.m.rring k))
            (o.words.set 2 (o.words.getD 2 0 + s.m.rd HIF_Q_STAT_PHASE [s.m.rring k] * 2 ^ 63)) :: l
      else Becomes (.recordRingDelivery k) s s.m) ∧
  (∀ (k : Fin 16) (unc : List Nat) (s : State) (c : Closed), (s.m.cap.closed.find? fun c => c.set == k.val && !c.folded) = some c →
    c.arr + 2 ≤ s.m.stitch → s.m.accDram k = false ∨ s.m.memOk = true →
    ∃ t, exec (.accFold k unc) s = .next t ∧ t.pending = s.pending ∧ t.hoopSeal = s.hoopSeal ∧
      (∀ d ∈ t.m.cap.closed, d.set = c.set → d.rec_.id = c.rec_.id → d.folded = true) ∧
      (if c.flags &&& fPreShort ≠ 0 then t.m.rd ACC_SET_REJ_COUNT [k.val] = s.m.oneMore ACC_SET_REJ_COUNT [k.val] ∧
          t.m.rd ACC_SET_COUNT [k.val] = s.m.rd ACC_SET_COUNT [k.val]
        else if c.foldsWhole = false then t.m.rd ACC_SET_STAT_PARTIAL [k.val] = 1 ∧
          t.m.rd ACC_SET_COUNT [k.val] = s.m.rd ACC_SET_COUNT [k.val]
        else t.m.rd ACC_SET_COUNT [k.val] = (s.m.rd ACC_SET_COUNT [k.val] + 1) % 2 ^ 64))

/-- R236, R237, R243, R251–R254, R261, R262, R335: a generator that does not run gives PARK, or 0 when it is TRIPPED and before the core runs, and nothing in Retention (R467);
one that
runs and has nothing to play makes a PARK frame, and an NCO pass its 32 samples, when their time has come; the frame before goes
out then, PARK while the outputs are muted.  An under-run under HOLD ends when the staging buffer holds RESUME bytes; a staging
entry is read, and its data where there is room; the first guard that trips starts the ramp 8 cycles after its event has arrived,
whose end leaves the generator TRIPPED. -/
def Obligations.GeneratorAndHousekeepingEvents : Prop :=
  (∀ (g : Fin 8) (unc : Bool) (s : State), s.m.dev ≠ .retention → s.m.gruns g = false → Becomes (.genFrame g unc) s
    (s.m.emit (.dac g.val (List.replicate 32 (if s.m.tb.running = false ∨ (s.m.gstate g = gTripped ∧ s.m.gmute g = false) then 0
      else s.m.gparkCode g))))) ∧
  (∀ (g : Fin 8) (unc : Bool) (s : State), s.m.dev = .retention → Becomes (.genFrame g unc) s s.m) ∧
  (∀ (g : Fin 8) (unc : Bool) (s : State), s.m.gruns g = true → 2 * (s.m.cycles + 1) ≤ s.m.gpos g (s.m.gst g).n →
    Becomes (.genFrame g unc) s s.m) ∧
  (∀ (g : Fin 8) (unc : Bool) (s : State), let v := s.m.gst g
    s.m.dev ≠ .retention → s.m.gruns g = true → s.m.gpos g v.n < 2 * (s.m.cycles + 1) → s.m.genTrigs g = [] →
    v.parkAt = none → v.waitE = none → v.ramp = none →
    let sent := match v.held with
      | none => []
      | some (_, ys) => [Out.dac g.val (if s.m.gmute g then ys.map fun _ => s.m.gparkCode g else ys)]
    (v.play = none → Gives (.genFrame g unc) s fun t => (t.gst g).n = v.n + 32 ∧ t.rd GEN_SAMP [g.val] = (v.n + 32) % 2 ^ 64 ∧
      (t.gst g).held = some (v.n, List.replicate 32 (s.m.gparkCode g)) ∧ t.out = s.m.out ++ sent) ∧
    (∀ p : Play, v.play = some p → segType p.seg = 2 → p.pos + 64 < segLen p.seg →
      Gives (.genFrame g unc) s fun t => (t.gst g).n = v.n + 32 ∧ t.rd GEN_SAMP [g.val] = (v.n + 32) % 2 ^ 64 ∧
        (t.gst g).held = some (v.n, (List.range 32).map fun i => ncoSample p.seg ((p.acc + i * segFtw p.seg) % 2 ^ 48)) ∧
        (t.gst g).play = some { p with acc := (p.acc + 32 * segFtw p.seg) % 2 ^ 48, pos := p.pos + 32 } ∧
        t.out = s.m.out ++ sent)) ∧
  (∀ (g : Fin 8) (s : State) (k : Nat), (s.m.gst g).under = some k → s.m.rd GEN_CFG_UNDERRUN_POLICY [g.val] = 1 →
    if s.m.rd GEN_STG_RESUME_BYTES [g.val] ≤ s.m.gfill g ∧ 64 ≤ s.m.gfill g then
      Gives (.underrunEnd g) s fun t => (t.gst g).under = none ∧ t.gstate g = gRunning
    else Becomes (.underrunEnd g) s s.m) ∧
  (∀ (g : Fin 8) (s : State), (s.m.gst g).under = none → Becomes (.underrunEnd g) s s.m) ∧
  (∀ (g : Fin 8) (ws : List (BitVec 64)) (data : List (BitVec 8)) (s : State), let w1 := (ws.getD 1 0).toNat
    let n := bits w1 0 32
    (s.m.qst (genQ g)).rereads = 0 → s.m.feedReady g = true → bits w1 48 16 = (s.m.qst (genQ g)).seq → 64 ≤ n →
    n ≤ 1048576 → n % 64 = 0 →
    let entry := Out.read (s.m.rd HIF_Q_BASE [genQ g] + 32 * s.m.qDev (genQ g)) 32 1 false
    if s.m.gfill g + n ≤ stagingBytes then
      Gives (.stagingFeed g ws data) s fun t => t.gfill g = s.m.gfill g + n ∧
        (t.gst g).wrAt = ((s.m.gst g).wrAt + n) % stagingBytes ∧
        (t.qst (genQ g)).seq = ((s.m.qst (genQ g)).seq + 1) % 65536 ∧
        t.mem.queue.length = s.m.mem.queue.length + n / 64 ∧
        ∃ l, t.out = s.m.out ++ entry :: .read (ws.getD 0 0).toNat n 3 (s.m.on HIF_Q_CFG_NOSNOOP_OK [genQ g]) :: l
    else Becomes (.stagingFeed g ws data) s (s.m.emit entry)) ∧
  (∀ (g : Fin 8) (ws : List (BitVec 64)) (data : List (BitVec 8)) (s : State),
    (s.m.qst (genQ g)).rereads ≠ 0 ∨ s.m.feedReady g = false → Becomes (.stagingFeed g ws data) s s.m) ∧
  (∀ (g : Fin 8) (s : State), s.m.gruns g = true → s.m.on GEN_CFG_GUARD_EN [g.val] = true → (s.m.gst g).ramp = none →
    match sortBy (fun (a b : Nat × Nat × Nat × Nat) => decide (a.1 ≤ b.1)) (s.m.guardTrips g) with
    | [] => Becomes (.guardTrip g) s s.m
    | x :: _ => Gives (.guardTrip g) s fun t => t.rd GEN_STAT_RAMPING [g.val] = 1 ∧
        t.rd GEN_STAT_TRIP_GUARD [g.val] = x.2.1 % 8 ∧ (t.gst g).next = none ∧
        (t.gst g).ramp = some (s.m.gsampleAt g (x.2.2.2 + 8),
          max 1 (divRound (s.m.rd GEN_GUARD_RAMP_RAMP_US [g.val] * s.m.rd TBS_SLICE_FREQ_SLICE_KHZ) 1000)) ∧
        ∃ l, t.flt.pend = s.m.flt.pend ++ l ∧ ⟨12, 1, g.val⟩ ∈ l) ∧
  (∀ (g : Fin 8) (s : State) (m0 len : Nat), (s.m.gst g).ramp = some (m0, len) → s.m.gruns g = true →
    if m0 + len - 1 < (s.m.gst g).n then
      Gives (.guardZero g) s fun t => t.gstate g = gTripped ∧ t.rd GEN_STAT_RAMPING [g.val] = 0 ∧ (t.gst g).ramp = none
    else Becomes (.guardZero g) s s.m)

/-- R409–R413, R418: what a mirror frame's arrival and its absence leave, and the frame that its slot sends. -/
def Obligations.PairAndSlotEvents : Prop :=
  (∀ (f : MirrorFrame) (s : State), s.m.linked = true → s.m.retraining = false → s.m.pair.rxNext ≤ f.stitch →
    f.stitch ≤ s.m.stitch → s.m.stitch ≤ f.stitch + 1 → Gives (.mirrorFrameReceived f) s fun t =>
      t.pair.rxNext = f.stitch + 1 ∧ t.pair.run = 0 ∧ t.rd TWL_MISS_CONSEC = 0 ∧
      t.rd TWL_STAT_PARTNER_HOOP = f.hoopState % 2 ^ TWL_STAT_PARTNER_HOOP.width) ∧
  (∀ (f : MirrorFrame) (s : State), s.m.linked = false ∨ s.m.retraining = true ∨ f.stitch < s.m.pair.rxNext ∨
    s.m.stitch < f.stitch ∨ f.stitch + 1 < s.m.stitch → Becomes (.mirrorFrameReceived f) s s.m) ∧
  (∀ s : State, let k := s.m.pair.rxNext
    s.m.linked = true → s.m.retraining = false → (k + 1 < s.m.stitch ∨ k + 1 = s.m.stitch ∧ 255 ≤ s.m.tb.cyc) →
    Gives .frameMissed s fun t => t.pair.rxNext = k + 1 ∧ t.pair.run = s.m.pair.run + 1 ∧
      t.rd TWL_MISS_CONSEC = min (s.m.pair.run + 1) 3 ∧ t.rd TWL_MISS_TOTAL = s.m.oneMore TWL_MISS_TOTAL [] ∧
      (∃ l, t.flt.pend = s.m.flt.pend ++ l ∧ ⟨45, 1, 0⟩ ∈ l)) ∧
  (∀ s : State, if s.m.slotNow 3 then
      Gives .mirrorFrameSlot s fun t => t.pair.trigs = [] ∧ t.pair.closes = [] ∧ t.pair.arms = [] ∧ t.pair.gens = [] ∧
        t.tb = { s.m.tb with slot := 4 } ∧
        if (s.m.linked && !s.m.retraining) || s.m.pair.lastFrame then
          ∃ f, t.out = s.m.out ++ [.frame f] ∧ f.stitch = s.m.stitch ∧ f.role = s.m.role ∧
            (s.m.role = rolePrimary → f.trigs = s.m.pair.trigs ∧ f.closes = s.m.pair.closes ∧ f.gens = s.m.pair.gens ∧
              f.cmds.length ≤ 24)
        else t.out = s.m.out
    else Becomes .mirrorFrameSlot s s.m)

/-- R443: a request that has been deferred for DEFER_LIMIT ms (10 000 after reset) counts source 52 once, with its activity as
the instance, and keeps its place in the list of those that wait; before that, once counted, in Retention (R445), and for no
such request, nothing happens. -/
def Obligations.DeferLimitCountsOnce : Prop :=
  State.reset.m.rd FLT_MAINT_CFG_DEFER_LIMIT = 10000 ∧
  (∀ (a : Fin 12) (i : Nat) (s : State), match s.m.flt.deferred.find? fun r => r.act == a.val && r.inst == i with
    | none => Becomes (.maintLong a i) s s.m
    | some r =>
      if r.said = true ∨ s.m.dev = .retention ∨ s.m.dtime < r.limFrom + s.m.rd FLT_MAINT_CFG_DEFER_LIMIT * msDt then
        Becomes (.maintLong a i) s s.m
      else Gives (.maintLong a i) s fun t => t.flt.pend = s.m.flt.pend ++ [⟨52, 1, a.val⟩] ∧
        t.flt.running = s.m.flt.running ∧
        t.flt.deferred = s.m.flt.deferred.map fun x =>
          { x with said := x.said || (x.act == a.val && x.inst == i) })
/-! ### Host commands: what admission brings -/

/-- Commands that set registers of channels, sets, triggers, the log path, accumulation and measurement: an admitted one
is scheduled for its stitch of application and completes with that stitch number. -/
def Obligations.AcquisitionSettingsAreScheduled : Prop :=
  Scheduled .calRelease ciCalRelease (fun _ _ => none) ∧ Scheduled .setMembers ciSetMembers ownSetMembers ∧
  Scheduled .setConfig ciSetConfig ownSetConfig ∧ Scheduled .setBind ciSetBind ownSetBind ∧
  Scheduled .trgUnitSet ciUnitSet ownUnitSet ∧ Scheduled .trgProgram ciProgram ownProgram ∧
  Scheduled .trgPattern ciPattern ownPattern ∧ Scheduled .trgIo ciIo ownIo ∧
  Scheduled .trgQseg ciQseg (fun _ _ => none) ∧ Scheduled .trgOut ciOut ownOut ∧
  Scheduled .logStreamCfg ciLogStreamCfg ownLogStreamCfg ∧ Scheduled .logMgSet ciLogMgSet ownLogMgSet ∧
  Scheduled .logMdSet ciLogMdSet ownLogMdSet ∧ Scheduled .accConfig ciAccConfig ownAccConfig ∧
  Scheduled .accBind ciAccBind ownAccBind ∧ Scheduled .measSlot ciMeasSlot ownMeasSlot ∧
  Scheduled .measBind ciMeasBind ownMeasBind

/-- The same of generators, time outputs, memory, the pair, faults and maintenance. -/
def Obligations.OutputAndServiceSettingsAreScheduled : Prop :=
  Scheduled .genConfig ciGenConfig ownGenConfig ∧ Scheduled .genNcoSet ciGenNcoSet ownGenNcoSet ∧
  Scheduled .genSkew ciGenSkew ownGenSkew ∧ Scheduled .genGuard ciGenGuard ownGenGuard ∧
  Scheduled .genGuardReset ciGenGuardReset ownGenGuardReset ∧ Scheduled .genSrBind ciGenSrBind ownGenSrBind ∧
  Scheduled .tbOutputs ciTbOutputs ownTbOutputs ∧ Scheduled .areaCreate ciAreaCreate ownAreaCreate ∧
  Scheduled .areaDestroy ciAreaDestroy ownAreaDestroy ∧ Scheduled .memSrSet ciMemSr (fun _ _ => none) ∧
  Scheduled .memAgeSet ciMemAge ownMemAge ∧ Scheduled .pairDissolve ciPairDissolve (fun _ _ => none) ∧
  Scheduled .pairConfig ciPairConfig ownPairConfig ∧ Scheduled .fltConfig ciFltConfig ownFltConfig ∧
  Scheduled .maintCfg ciMaintCfg ownMaintCfg

/-- R145 and R414: the stitch of application is the next one, and nothing is forwarded, unless the device is a primary
whose link is up and the opcode is forwarded; then it is the fourth, or later by one for every 24 commands accepted in the
stitch before it, and the command takes the next PSEQ. -/
def Obligations.StitchOfApplication : Prop :=
  (∀ (s : State) (op : Nat) (h : HostCmd), (forwarded op && s.m.mirroring) = false →
    s.due op = s.m.stitch + 1 ∧ s.m.forward op h = s.m) ∧
  (∀ (s : State) (op : Nat) (h : HostCmd), (forwarded op && s.m.mirroring) = true →
    s.due op = s.m.stitch + 4 + (if s.m.pair.accStitch = s.m.stitch then s.m.pair.accCount / 24 else 0) ∧
    (s.m.forward op h).rd TWL_PSEQ_PSEQ = (s.m.rd TWL_PSEQ_PSEQ + 1) % 65536 ∧
    (s.m.forward op h).pair.fwd = s.m.pair.fwd ++ [⟨s.m.rd TWL_PSEQ_PSEQ, s.due op, op, h, 0⟩])

/-- R352: a command that fails a check completes with its status and result 0 and has none of its effect; the checks
are those of the table in their order, then the command's own.  (SEALED, which is also audited, is left to
`SealIsMovedByItsRows`.)  Table 11.9 and R21: a command whose service the device state does not give is refused with
BASTING_ONLY in Basting, SELVEDGE in Selvedge and WRONG_STATE in Retention, when its fields and target are in order. -/
def Obligations.RefusedCommandHasNoEffect : Prop :=
  (∀ (ci : CmdInfo) (own : HostCmd → State → Option Nat) (eff : HostCmd → Nat → State → State) (h : HostCmd) (s : State)
     (st : Nat), submissionQ h.q = true → st ≠ SEALED →
     (commonRefusal ci h s.m = some st ∨ commonRefusal ci h s.m = none ∧ own h s = some st) →
     s.keeps (runCmd ci own eff h s) ∧ Quiet [] s.m (runCmd ci own eff h s).m ∧
       Completes s.m (runCmd ci own eff h s).m h st 0) ∧
  (∀ (ci : CmdInfo) (h : HostCmd) (m : Mach), (adminOnly ci.op && h.q.val != 0) = false → h.rsv = 0 →
     rsvSet h ci.masks = false → ci.tgt h.tgt = true → ci.r15 m h = false → ci.svc m h = .full →
     (m.dev = .basting → commonRefusal ci h m = some BASTING_ONLY) ∧
     (m.dev = .selvedge → commonRefusal ci h m = some SELVEDGE) ∧
     (m.dev = .retention → commonRefusal ci h m = some WRONG_STATE))

/-- The capture and trigger commands with an effect of their own at acceptance. -/
def Obligations.SetAndTriggerCommands : Prop :=
  (∀ (h : HostCmd) (s : State), Admitted ciSetArm ownSetArm h s →
    Becomes (.setArm h) s (((s.m.forward 0x1B h).armTake h.tgt (s.due 0x1B) false).wait 0x1B h (s.due 0x1B))) ∧
  (∀ (h : HostCmd) (s : State), Admitted ciSetDisarm (fun _ _ => none) h s →
    Runs (.setDisarm h) s h DONE (s.due 0x1C)
      (if s.m.setState h.tgt = siIdle then s.m
       else (s.m.forward 0x1C h).modPset h.tgt fun p => { p with stopAt := some (s.due 0x1C, h.b 1 0) })) ∧
  (∀ (h : HostCmd) (s : State), Admitted ciSetRearm ownSetRearm h s →
    Becomes (.setRearm h) s (((s.m.forward 0x1D h).armTake h.tgt (s.due 0x1D) true).wait 0x1D h (s.due 0x1D))) ∧
  (∀ (h : HostCmd) (s : State), Admitted ciTimer ownTimer h s →
    Runs (.trgTimer h) s h DONE (h.f 2 0 64)
      ((s.m.forward 0x35 h).at_ (s.due 0x35) (.cmd 0x35 h))) ∧
  (∀ (h : HostCmd) (s : State), Admitted ciSoft (fun _ _ => none) h s →
    Becomes (.trgSoft h) s (((s.m.forward 0x37 h).at_ (s.due 0x37) (.cmd 0x37 h)).wait 0x37 h (s.due 0x37)))

/-- What an accepted arm or re-arm fixes (R145, R161): the arm instant of the set alone, and its charge by the settings accepted
with it, none in Basting, which takes the place of any it had in the commitment.  R225, R231: at the arm instant that is no re-arm
the references of its measurements go, and their statistics unless CONTINUE keeps them. -/
def Obligations.ArmFixesInstantAndCharge : Prop :=
  (∀ (m : Mach) (t q : Nat) (rearm : Bool), t < 16 →
    let u := m.armTake t q rearm
    let c := if m.dev = .basting then 0 else m.setSoon.chargeOf t
    (u.pset t).armAt = some (q, rearm) ∧ (∀ k, k ≠ t → u.pset k = m.pset k) ∧
    u.rd CAP_SET_CHARGE_CHARGE [t] = c % 2 ^ 20 ∧
    u.rd CAP_COMMIT_COMMIT = (m.rd CAP_COMMIT_COMMIT - m.rd CAP_SET_CHARGE_CHARGE [t] + c) % 2 ^ 20) ∧
  (∀ (m : Mach) (t key : Nat), (m.members t).contains (key / 8) = true →
    tfind (m.freshArm t).acc.refs key = none ∧
    tfind (m.freshArm t).acc.stats key = if m.on ACC_SET_CFG_CONTINUE [t] then tfind m.acc.stats key else none)

/-- Channel commands (R39, R65, R67): a configuration waits for a calibration of its tile, shows SETTLING when it enables
the channel and completes 17 stitches after its application; a change of factor settles the ON channels of its quad, whose
streams flow until it takes effect; a loopback switch acts one boundary later and settles in four stitches. -/
def Obligations.ChannelCommands : Prop :=
  (∀ (h : HostCmd) (s : State), Admitted ciChConfig ownChConfig h s →
    let m := s.m.forward 0x10 h
    if m.tileCal (tileOf h.tgt) then Becomes (.chConfig h) s (m.wait 0x10 h calWait)
    else if h.b 1 0 && !m.on TIL_CH_CFG_ENABLE [h.tgt] then
      Becomes (.chConfig h) s (((m.at_ (s.due 0x10) (.cmd 0x10 h)).wr TIL_CH_STAT_STATE [h.tgt] chSettling).wait 0x10 h
        (s.due 0x10 + 17))
    else Runs (.chConfig h) s h DONE (s.due 0x10 % 2 ^ 32) (m.at_ (s.due 0x10) (.cmd 0x10 h))) ∧
  (∀ (h : HostCmd) (s : State), Admitted ciQuadCombine ownQuadCombine h s →
    let m := s.m.forward 0x11 h
    if h.f 1 0 2 = m.rd TIL_QUAD_CFG_FACTOR [h.tgt] then Runs (.quadCombine h) s h DONE (s.due 0x11 % 2 ^ 32) m
    else ∃ t, exec (.quadCombine h) s = .next t ∧ s.keeps t ∧ t.m.rd TIL_QUAD_CFG_PENDING [h.tgt] = 1 ∧
      (∀ n ∈ quadCh h.tgt, m.chIsOn n = true → t.m.rd TIL_CH_STAT_STATE [n] = chSettling ∧ (t.m.chan n).going = true) ∧
      (∃ l, t.m.hif.changes = l ++ [(s.due 0x11 + 1, .cmd 0x11 h)]) ∧
      (∃ l, t.m.hif.waits = l ++ [⟨0x11, h, s.due 0x11 + 65⟩])) ∧
  (∀ (h : HostCmd) (s : State), Admitted ciLoopback ownLoopback h s →
    Becomes (.loopback h) s (((s.m.forward 0x14 h).at_ (s.due 0x14 + 1) (.cmd 0x14 h)).wait 0x14 h (s.due 0x14 + 5))) ∧
  (∀ (h : HostCmd) (s : State), Admitted ciFgCal ownFgCal h s →
    let m := s.m.forward 0x12 h
    m.waiting actFgCal h.tgt = false → m.blocker actFgCal h.tgt = none →
    ∃ t, exec (.fgCal h) s = .next t ∧ s.keeps t ∧ t.m.rd TIL_TILE_STAT_FG_ACTIVE [h.tgt] = 1 ∧
      ∀ n ∈ tileCh h.tgt, t.m.rd TIL_CH_STAT_FG_ACTIVE [n] = 1 ∧ (t.m.chan n).held = true)

/-- Log commands (R185, R196, R197): LOG_RING_SET completes with the slots, LOG_START with the stitch of its start, whose
charge is committed at once; LOG_STOP of a running stream and LOG_FLUSH wait.  R188, R189, R194: a block that has waited FLUSH ms
closes; the oldest block of a spool leaves for its ring; a gap with no cause left ends with its record, while its ring keeps a
slot for the end of each running stream (assumption 137). -/
def Obligations.LogCommands : Prop :=
  (∀ (h : HostCmd) (s : State), Admitted ciLogRingSet ownLogRingSet h s →
    Runs (.logRingSet h) s h DONE ((s.m.forward 0x50 h).slotsOf (h.f 1 8 8) (h.f 1 0 2))
      ((s.m.forward 0x50 h).at_ (s.due 0x50) (.cmd 0x50 h))) ∧
  (∀ (h : HostCmd) (s : State), Admitted ciLogStart ownLogStart h s →
    let m := s.m.forward 0x52 h
    let k := if h.f 1 0 64 = 0 then s.due 0x52 else max (s.due 0x52) (h.f 1 0 64)
    Runs (.logStart h) s h DONE k ((m.addCommit (m.lcharge h.tgt)).modLstr h.tgt
      fun v => { v with pend := some k, charge := m.lcharge h.tgt })) ∧
  (∀ (h : HostCmd) (s : State), Admitted ciLogStop (fun _ _ => none) h s →
    let m := s.m.forward 0x53 h
    if m.lruns h.tgt then Becomes (.logStop h) s ((m.at_ (s.due 0x53) (.cmd 0x53 h)).wait 0x53 h (s.due 0x53))
    else Runs (.logStop h) s h DONE 0 m) ∧
  (∀ (h : HostCmd) (s : State), Admitted ciLogFlush (fun _ _ => none) h s →
    Becomes (.logFlush h) s (((s.m.forward 0x56 h).at_ (s.due 0x56) (.cmd 0x56 h)).wait 0x56 h (s.due 0x56))) ∧
  (∀ (i : Fin 320) (s : State), let fl := s.m.rd LOG_RING_CFG_FLUSH [s.m.lringOf i]
    match (s.m.lstr i).blk with
    | none => Becomes (.logFlushTimeout i) s s.m
    | some b => if fl ≠ 0 ∧ fl * msDt ≤ s.m.dtime - b.since then
        Gives (.logFlushTimeout i) s fun t => (t.lstr i).blk = none
      else Becomes (.logFlushTimeout i) s s.m) ∧
  (∀ (r : Fin 128) (s : State), (s.m.lring r).blocks = [] → Becomes (.logBlockDelivery r) s s.m) ∧
  (∀ (r : Fin 128) (s : State) (b : SpoolBlk) (rest : List SpoolBlk), (s.m.lring r).blocks = b :: rest →
    if s.m.qReady (256 + r) && s.m.memOk then
      Gives (.logBlockDelivery r) s fun t => (t.lring r).blocks = rest ∧
        ∃ ws l, t.out = s.m.out ++ .entry (256 + r) (s.m.qDev (256 + r)) ws :: l
    else Becomes (.logBlockDelivery r) s s.m) ∧
  (∀ (i : Fin 320) (s : State), if s.m.lstate i = lsGap ∧ s.m.rd LOG_STR_STAT_CAUSE [i.val] = 0 ∧
      s.m.running (s.m.lringOf i) < s.m.spoolFree (s.m.lringOf i) then
      Gives (.gapClose i) s fun t => t.lstate i = lsRunning ∧
        t.rd LOG_STR_GAPS_GAPS [i.val] = s.m.oneMore LOG_STR_GAPS_GAPS [i.val]
    else Becomes (.gapClose i) s s.m)

/-- Commands that copy to host memory (R167, R168, R220, R232, R233): the bytes leave first, then the completion, with the
flags of what was copied; ACC_READ copies its units piece by piece from acceptance on (assumption 40), its header after the last; a
clear and a copy of statistics wait for their boundary. -/
def Obligations.ExportCommands : Prop :=
  (∀ (h : HostCmd) (s : State), Admitted ciAccRead ownAccRead h s →
    let n := h.f 3 0 32
    let a := h.f 1 0 64
    let count := s.m.rd ACC_SET_COUNT [h.tgt]
    let units := fun k => (List.range k).flatMap fun i => s.accUnit h.tgt (h.f 2 0 64 + i)
    if n = 1 then
      RunsFlags (.accRead h) s h (s.m.rd ACC_SET_FLAGS_FLAGS [h.tgt]) 1
        ((s.m.emit (.host (a + 64) (units 1) 3 false h.owner)).hostWords a (s.m.accHeader h.tgt 1 count) 3 h.owner)
    else ∃ k t, 0 < k ∧ k ≤ n ∧ exec (.accRead h) s = .next t ∧ s.keeps t ∧
      (∃ l, t.m.out = s.m.out ++ .host (a + 64) (units k) 3 false h.owner :: l) ∧
      (k < n → (⟨h, k, count⟩ : AccCopy) ∈ t.m.acc.copies ∧ (t.m.waitsOf 0x62 h.tgt).length = 1)) ∧
  (∀ (s : State) (c : AccCopy), let t := c.h.tgt
    let unit := s.accUnit t (c.h.f 2 0 64 + c.done)
    let size := if s.m.akind t = 2 then 4 else 8
    s.m.accAway t = false → c.done + 1 = c.h.f 3 0 32 → s.keeps (s.copyPiece c) ∧
      ∃ l, (s.copyPiece c).m.out = s.m.out ++ .host (c.h.f 1 0 64 + 64 + size * c.done) unit 3 false c.h.owner ::
        .host (c.h.f 1 0 64) (wordsBytes (s.m.accHeader t (c.h.f 3 0 32) c.begun)) 3 false c.h.owner :: l) ∧
  (∀ (h : HostCmd) (s : State), Admitted ciMeasExport ownMeasExport h s →
    RunsFlags (.measExport h) s h (s.m.measFlags h.tgt (h.f 1 0 16) (h.f 1 32 17)) (h.f 1 32 17)
      (s.m.hostWords (h.f 2 0 64) ((List.range (h.f 1 32 17)).flatMap fun i =>
        s.m.measLine (s.m.rd ACC_MEAS_BASE_MEAS_BASE [h.tgt] + h.f 1 0 16 + i)) 3 h.owner)) ∧
  (∀ (h : HostCmd) (s : State), Admitted ciPrkExport ownPrkExport h s →
    let es := (List.range (h.f 1 32 18)).map fun i => s.m.prkWords (s.m.rd CAP_SET_PRK_BASE_VALUE [h.tgt] + h.f 1 0 17 + i)
    RunsFlags (.prkExport h) s h (orAll (es.map fun w => bits (w.getD 2 0) 32 16)) (h.f 1 32 18)
      (s.m.hostWords (h.f 2 0 64) es.flatten 3 h.owner)) ∧
  (∀ (h : HostCmd) (s : State), Admitted ciBasteRead ownBasteRead h s →
    ∃ (m : Mach) (rest : List (BitVec 8)), m = { s.m with freeCtr := s.m.freeCtr + 1 } ∧
      rest.length = h.f 2 0 21 - (tget [] s.m.cap.baste h.tgt).length ∧
      RunsFlags (.basteRead h) s h (tget 0 s.m.cap.basteFlags h.tgt) (h.f 2 0 21)
        (m.emit (.host (h.f 1 0 64) ((tget [] s.m.cap.baste h.tgt).take (h.f 2 0 21) ++ rest) 3 false h.owner))) ∧
  (∀ (h : HostCmd) (s : State), Admitted ciAccClear ownAccClear h s →
    let m := s.m.forward 0x63 h
    Becomes (.accClear h) s ((m.at_ (s.due 0x63) (.cmd 0x63 h)).wait 0x63 h m.dtime)) ∧
  (∀ (h : HostCmd) (s : State), Admitted ciMeasStats ownMeasStats h s →
    Becomes (.measStats h) s ((s.m.at_ (s.due 0x67) (.cmd 0x67 h)).wait 0x67 h (s.due 0x67)))

/-- Generator commands (R256–R258, R266): segments and sequences are written at the boundary, an arm is charged at once,
a start, a stop of a generator that runs and a jump wait for their moment, a trigger completes with its sample. -/
def Obligations.GeneratorCommands : Prop :=
  (∀ (h : HostCmd) (s : State), Admitted ciGenSegWrite ownGenSegWrite h s →
    Runs (.genSegWrite h) s h DONE (h.f 1 32 11) (((s.m.forward 0x71 h).hostRead (h.word 2) (32 * h.f 1 32 11)).at_ (s.due 0x71) (.cmd 0x71 h))) ∧
  (∀ (h : HostCmd) (s : State), Admitted ciGenSeqWrite ownGenSeqWrite h s →
    Runs (.genSeqWrite h) s h DONE (h.f 1 32 13) (((s.m.forward 0x72 h).hostRead (h.word 2) (8 * h.f 1 32 13)).at_ (s.due 0x72) (.cmd 0x72 h))) ∧
  (∀ (h : HostCmd) (s : State), Admitted ciGenArm ownGenArm h s →
    let m := s.m.forward 0x73 h
    Runs (.genArm h) s h DONE (s.due 0x73)
      (((m.addCommit m.gcharge).modGst h.tgt fun v => { v with charge := m.gcharge }).at_ (s.due 0x73) (.cmd 0x73 h))) ∧
  (∀ (h : HostCmd) (s : State), Admitted ciGenStart ownGenStart h s →
    ∃ m : Mach, Becomes (.genStart h) s (m.wait 0x74 h (s.due 0x74)) ∧ m.regs = (s.m.forward 0x74 h).regs ∧
      ∀ g, m.gst g = if bit (h.f 1 0 8) g then
          (if h.b 1 8 then { s.m.gst g with sync := true } else { s.m.gst g with startAt := some (max (s.due 0x74) (h.f 2 0 64)) })
        else s.m.gst g) ∧
  (∀ (h : HostCmd) (s : State), Admitted ciGenStop ownGenStop h s →
    let m := s.m.forward 0x75 h
    if m.gstate h.tgt = gArmed ∨ m.gruns h.tgt = true then
      Becomes (.genStop h) s ((m.at_ (s.due 0x75) (.cmd 0x75 h)).wait 0x75 h (s.due 0x75))
    else Runs (.genStop h) s h DONE 0 m) ∧
  (∀ (h : HostCmd) (s : State), Admitted ciGenJump ownGenJump h s →
    Becomes (.genJump h) s (((s.m.forward 0x76 h).at_ (s.due 0x76) (.cmd 0x76 h)).wait 0x76 h (s.due 0x76))) ∧
  (∀ (h : HostCmd) (s : State), Admitted ciGenTrig ownGenTrig h s →
    Runs (.genTrig h) s h DONE ((s.m.forward 0x7C h).gsampleAt h.tgt (s.due 0x7C * 256))
      ((s.m.forward 0x7C h).at_ (s.due 0x7C) (.cmd 0x7C h)))

/-- Time commands (R73, R74, R79, R89, R97, R387, R390): a source is committed as Hoop region 6 and waits; its fields are written
with its CHANGE entry, and another source or frequency qualifies at the next boundary (log entry 122); a rate waits for
its relock, a time of day for its edge; spreading takes effect at once, and a SYNCOUT pulse is noted for its stitch. -/
def Obligations.TimeCommands : Prop :=
  (∀ (h : HostCmd) (s : State), Admitted ciTbSource ownTbSource h s →
    Becomes (.tbSource h) s ((s.m.commit [6] 0x80 (some h)).wait 0x80 h 0)) ∧
  (∀ (h : HostCmd) (s : State), s.m.hoop.commits = [⟨[6], 0x80, some h⟩] → s.m.hoop.strapWait = false →
    (∀ x ∈ s.m.hif.changes, rwhOf 6 x = false) →
    Gives .changeDone s fun t => t.hoop.commits = [] ∧ t.dirty 6 = false ∧ Holds t (sourceFlds h) ∧
      (s.m.newSource h = true → (s.m.stitch + 1, .cmd 0x80 h) ∈ t.hif.changes)) ∧
  (∀ (h : HostCmd) (s : State), Admitted ciTbRate ownTbRate h s →
    Becomes (.tbRate h) s (((s.m.forward 0x81 h).at_ (s.due 0x81) (.cmd 0x81 h)).wait 0x81 h (s.due 0x81))) ∧
  (∀ (h : HostCmd) (s : State), Admitted ciTbTod ownTbTod h s → s.m.mirroring = false →
    ∃ m : Mach, Becomes (.tbTod h) s (m.wait 0x82 h (s.due 0x82)) ∧ m.tb.tod = some (h.word 1) ∧
      m.rd TBS_STATUS_TOD_PENDING = 1) ∧
  (∀ (h : HostCmd) (s : State), Admitted ciTbSpread ownTbSpread h s →
    ∃ m : Mach, Runs (.tbSpread h) s h DONE 0 m ∧ Sets s.m m [(TBS_SPREAD_CPLL_MODE, [], h.f 1 0 2),
      (TBS_SPREAD_CPLL_DEPTH, [], h.f 1 2 3), (TBS_SPREAD_CPLL_RATE, [], h.f 1 5 2), (TBS_SPREAD_MPLL_MODE, [], h.f 1 8 2),
      (TBS_SPREAD_MPLL_DEPTH, [], h.f 1 10 3), (TBS_SPREAD_MPLL_RATE, [], h.f 1 13 2)]) ∧
  (∀ (h : HostCmd) (s : State), Admitted ciTbSync ownTbSync h s →
    let m := s.m.forward 0x85 h
    Runs (.tbSync h) s h DONE (h.word 1) { m with tb := { m.tb with syncs := sins m.tb.syncs (h.word 1) } })
/-- Memory commands (R310, R315, R320): a clear waits for its boundary; a scrub setting is scheduled, and a fast pass is
requested with it; PASR takes effect at once; a verification starts and waits. -/
def Obligations.MemoryCommands : Prop :=
  (∀ (h : HostCmd) (s : State), Admitted ciAreaClear ownAreaClear h s →
    let m := s.m.forward 0x92 h
    Becomes (.areaClear h) s ((m.at_ (s.due 0x92) (.cmd 0x92 h)).wait 0x92 h m.dtime)) ∧
  (∀ (h : HostCmd) (s : State), Admitted ciMemScrub (fun _ _ => none) h s →
    let m := s.m.at_ (s.due 0x93) (.cmd 0x93 h)
    if h.b 1 0 then Runs (.memScrub h) s h
      (if (List.range 16).any fun mc => (m.blocker actScrub mc).isSome then DEFERRED else DONE) (s.due 0x93) m.fastPass
    else Runs (.memScrub h) s h DONE (s.due 0x93) m) ∧
  (∀ (h : HostCmd) (s : State), Admitted ciMemPasr ownMemPasr h s →
    ∃ m : Mach, Runs (.memPasrSet h) s h DONE 0 m ∧ Sets s.m m [(MEM_PASR_MASK, [], h.f 1 0 32)]) ∧
  (∀ (h : HostCmd) (s : State), Admitted ciMemVerify ownMemVerify h s →
    ∃ m : Mach, Becomes (.memVerify h) s (m.wait 0x98 h 0) ∧ m.rd MEM_STAT_STATE = memVerifying ∧
      m.mem = { s.m.mem with verifying := h.f 1 0 16 })

/-- R439 and R441: what becomes of a command's request for a maintenance step.  A deferred request of the same activity
and instance makes it BUSY; a conflict with a running step defers it with DEFERRED; otherwise the step runs.  The commands
that run a step at once when nothing excludes it (Table 15.3), and the ends of steps. -/
def Obligations.MaintenanceRequestsAndCommands : Prop :=
  (∀ (m : Mach) (a i : Nat) (args : List Nat) (h : HostCmd),
    (m.waiting a i = true → m.maint a i args (some h) = (m.complete h BUSY 0, false)) ∧
    (∀ b, m.waiting a i = false → m.blocker a i = some b → submissionQ h.q = true →
      (m.maint a i args (some h)).2 = false ∧
      (m.maint a i args (some h)).1.flt.deferred = m.flt.deferred ++ [{ request m a i args h with was := true }] ∧
      (m.maint a i args (some h)).1.flt.running = m.flt.running) ∧
    (m.waiting a i = false → m.blocker a i = none →
      (m.maint a i args (some h)).2 = true ∧
      (m.maint a i args (some h)).1.flt.running = m.flt.running ++ [request m a i args h])) ∧
  (∀ (h : HostCmd) (s : State), Admitted ciMemMigrate ownMemMigrate h s → s.m.waiting actMigrate h.tgt = false →
    s.m.blocker actMigrate h.tgt = none →
    ∃ t, exec (.memMigrate h) s = .next t ∧ s.keeps t ∧
      t.m.flt.running = s.m.flt.running ++ [request s.m actMigrate h.tgt [h.f 1 0 2, 2] h] ∧
      Holds t.m [(MEM_MC_STAT_MIG, [h.tgt], 1), (MEM_MC_STAT_MIG_RANK, [h.tgt], h.f 1 0 2),
        (MEM_MC_MIG_POINTER, [h.tgt], 0)]) ∧
  (∀ (h : HostCmd) (s : State), Admitted ciCcSelftest (fun _ _ => none) h s → s.m.waiting actCcTest h.tgt = false →
    s.m.blocker actCcTest h.tgt = none →
    ∃ t, exec (.ccSelftest h) s = .next t ∧ s.keeps t ∧
      t.m.flt.running = s.m.flt.running ++ [request s.m actCcTest h.tgt [] h]) ∧
  (∀ (h : HostCmd) (s : State), Admitted ciHkSelftest ownHkSelftest h s → s.m.waiting actHkTest h.tgt = false →
    s.m.blocker actHkTest h.tgt = none →
    ∃ t, exec (.hkSelftest h) s = .next t ∧ s.keeps t ∧
      t.m.flt.running = s.m.flt.running ++ [request s.m actHkTest h.tgt [] h] ∧
      (t.m.hkst h.tgt).test.isSome = true) ∧
  (∀ (h : HostCmd) (s : State), Admitted ciSramScrub ownSramScrub h s → s.m.runs actSramScrub 0 = false →
    s.m.waiting actSramScrub 0 = false → s.m.blocker actSramScrub 0 = none →
    ∃ m : Mach, Becomes (.sramScrub h) s (m.wait 0xE6 h 0) ∧ m.runs actSramScrub 0 = true ∧
      m.flt.scrub = some ⟨0, s.m.dtime, true, false⟩) ∧
  (∀ (h : HostCmd) (s : State), Admitted ciPairRetrain ownPairRetrain h s → s.m.waiting actRetrain 0 = false →
    s.m.blocker actRetrain 0 = none →
    ∃ t, exec (.pairRetrain h) s = .next t ∧ s.keeps t ∧ t.m.pair = { s.m.pair with retrainAt := some (s.m.stitch + 8) } ∧
      t.m.flt.running = s.m.flt.running ++ [request s.m actRetrain 0 [] h]) ∧
  (∀ (h : HostCmd) (s : State), Admitted ciPairTwinCheck ownPairTwinCheck h s → s.m.waiting actTwin 0 = false →
    s.m.blocker actTwin 0 = none →
    ∃ m : Mach, Becomes (.pairTwinCheck h) s (m.wait 0xA4 h 0) ∧ m.pair.twinReq = some (h.word 1, h.word 2) ∧
      m.runs actTwin 0 = true) ∧
  (∀ (h : HostCmd) (s : State), Admitted ciMaintCancel ownMaintCancel h s →
    ∃ m : Mach, Runs (.maintCancel h) s h DONE h.tgt m ∧
      m.flt.deferred = s.m.flt.deferred.filter fun r => !(r.act == h.tgt && r.inst == h.f 1 0 16)) ∧
  (∀ (a : Fin 12) (i : Nat) (s : State), a.val ∈ [0, 4, 5] →
    Gives (.maintStepEnd a i) s fun t => t.runs a i = false ∧ t.flt.deferred = s.m.flt.deferred) ∧
  (∀ (a : Fin 12) (i : Nat) (s : State), a.val ∈ [1, 3, 7, 8, 9, 11] → Becomes (.maintStepEnd a i) s s.m) ∧
  (∀ (i : Nat) (s : State), let busy := (s.m.mcQueue i).any fun r => r.src == .scrub
    (busy = true → Becomes (.maintStepEnd 2 i) s s.m) ∧
    (busy = false → tget 0 s.m.mem.fast i = 0 → Gives (.maintStepEnd 2 i) s fun t => t.runs actScrub i = false)) ∧
  (∀ (i : Nat) (s : State), match s.m.flt.running.find? fun r => r.act == actSramScrub && r.args == [1] with
    | none => Becomes (.maintStepEnd 6 i) s s.m
    | some _ => ∀ p, s.m.flt.scrub = some p → p.next + 1 < scrubSteps →
        Gives (.maintStepEnd 6 i) s fun t => t.flt.scrub = some { p with next := p.next + 1 } ∧ t.runs actSramScrub 0 = false) ∧
  (∀ (i : Nat) (s : State), match s.m.flt.running.find? fun r => r.act == actTwin && r.args == [1] with
    | none => Becomes (.maintStepEnd 10 i) s s.m
    | some _ => s.m.pair.twinOn = true → s.m.pair.twinAt + twinStep < prkEntries →
        Gives (.maintStepEnd 10 i) s fun t => t.pair.twinAt = s.m.pair.twinAt + twinStep ∧ t.runs actTwin 0 = false)

/-- A fault command clears, injects or exports (R450, R501): FLT_CLEAR empties the windows it names, FLT_INJECT enters
its counts and waits, FLT_HISTORY writes 32 records of four words. -/
def Obligations.FaultCommands : Prop :=
  (∀ (h : HostCmd) (s : State), Admitted ciFltClear (fun _ _ => none) h s →
    let l := if h.tgt = 0xFFFF then allSrc else [h.tgt]
    ∃ m : Mach, Runs (.fltClear h) s h DONE l.length m ∧ (∀ k ∈ l, m.rd FLT_SRC_STAT_WCOUNT [k] = 0) ∧
      ∀ k ∈ l, k ∉ m.flt.degraded) ∧
  (∀ (h : HostCmd) (s : State), Admitted ciFltInject ownFltInject h s →
    Becomes (.fltInject h) s ((s.m.faultN h.tgt (h.f 1 0 16) injected).wait 0xE2 h 0)) ∧
  (∀ (h : HostCmd) (s : State), Admitted ciFltHistory ownFltHistory h s →
    Runs (.fltHistory h) s h DONE s.m.flt.hist.length
      (s.m.hostWords (h.word 1) ((List.range 32).flatMap fun i => s.m.flt.hist.getD i [0, 0, 0, 0]) 5 h.owner))

/-- Pair commands (R405, R424, R426): forming and rejoining start training and wait, a swap is announced for its stitch.  R406,
R413, R425: what the end of training, its time-out and a bad sync header leave. -/
def Obligations.PairCommands : Prop :=
  (∀ (h : HostCmd) (s : State), Admitted ciPairForm ownPairForm h s →
    ∃ m : Mach, Becomes (.pairForm h) s (m.wait 0xA0 h 0) ∧ m.role = roleForming ∧ m.pair = { s.m.pair with training := 1 }) ∧
  (∀ (h : HostCmd) (s : State), Admitted ciPairRoleSwap ownPairRoleSwap h s →
    Runs (.pairRoleSwap h) s h DONE (h.word 1) { s.m with pair := { s.m.pair with swapAt := some (h.word 1) } }) ∧
  (∀ (h : HostCmd) (s : State), Admitted ciPairRejoin ownPairRejoin h s →
    Becomes (.pairRejoin h) s ({ s.m with pair := { s.m.pair with training := 2 } }.wait 0xA3 h 0)) ∧
  (∀ (p : Partner) (s : State), s.m.pair.training = 1 → s.m.pair.formAt = none →
    (s.m.formable = true → s.m.partnerFits p = true → p.frameDelay ≤ 250000 → Gives (.twlTrainingDone p) s fun t =>
      t.rd TWL_STAT_LINK_UP = 1 ∧ t.pair.formAt.isSome = true ∧
      t.pair.expect = if s.m.on TWL_STAT_STRAP_PRI then none else some p.pseq.toNat) ∧
    (s.m.formable = false ∨ s.m.partnerFits p = false ∨ 250000 < p.frameDelay → Gives (.twlTrainingDone p) s fun t =>
      t.role = roleUnpaired ∧ t.pair.training = 0 ∧ t.waitsOf 0xA0 0 = [])) ∧
  (∀ s : State, s.m.pair.formAt = none →
    (s.m.pair.training = 1 → Gives .twlTrainingTimeout s fun t => t.role = roleUnpaired ∧ t.pair.training = 0 ∧
      t.rd TWL_STAT_LINK_UP = 0 ∧ t.waitsOf 0xA0 0 = []) ∧
    (s.m.pair.training = 2 → Gives .twlTrainingTimeout s fun t => t.pair.training = 0 ∧ t.waitsOf 0xA3 0 = []) ∧
    (s.m.pair.training = 3 → Gives .twlTrainingTimeout s fun t => t.pair.training = 0 ∧ t.pair.run = 3 ∧ t.runs actRetrain 0 = false ∧
      t.rd TWL_STAT_RETRAIN = 0) ∧
    (s.m.pair.training = 0 → Becomes .twlTrainingTimeout s s.m)) ∧
  (∀ (l : Fin 4) (s : State), Gives (.twlInvalidSyncHeader l) s fun t =>
    t.rd TWL_LANE_ERR_SYNC_ERR [l.val] = s.m.oneMore TWL_LANE_ERR_SYNC_ERR [l.val] ∧
    t.flt.pend = s.m.flt.pend ++ (if tget 0 s.m.pair.laneN l = 255 then [⟨46, 1, l.val⟩] else []))

/-- Hoop requests (R387, R398, R399).  An unseal needs the strap: fitted, it opens the Hoop; else it stays pending.  A seal
without dirty regions seals; else, as a commit does, it waits for its regions.  An export writes a header of eight words
and the entries.  A firmware load needs a valid signature.  A discard restores the staging copy.  A note is logged.
HOOP_LOG_ACK (R391, R394): the acknowledged entries leave the log, LOG_BASE moves past them, one EXPORT entry is added, and an
LQ6420-MF burns a fuse step. -/
def Obligations.HoopCommands : Prop :=
  (∀ (h : HostCmd) (s : State), Admitted ciHoopUnseal ownHoopUnseal h s →
    if s.m.on HOOP_STAT_STRAP then
      ∃ m : Mach, Runs (.hoopUnseal h) s h DONE 1 m ∧ Sets s.m m [(HOOP_STAT_UNSEAL_PEND, [], 1)]
    else ∃ t, exec (.hoopUnseal h) s = .next t ∧ t.pending = s.pending ∧ t.dram = s.dram ∧ t.hoopSeal.st = .opened) ∧
  (∀ (h : HostCmd) (s : State), Admitted ciHoopSeal ownHoopSeal h s →
    if s.m.dirtyRgns = [] then
      ∃ t, exec (.hoopSeal h) s = .next t ∧ t.pending = s.pending ∧ t.dram = s.dram ∧ t.hoopSeal.st = .sealed
    else Becomes (.hoopSeal h) s ((s.m.commit s.m.dirtyRgns 0xB1 (some h)).wait 0xB1 h 0)) ∧
  (∀ (h : HostCmd) (s : State), Admitted ciHoopCommit ownHoopCommit h s →
    let l := (bitList 7 (h.f 1 0 7)).filter (· != 0)
    if l = [] then Runs (.hoopCommit h) s h DONE (s.m.devDigest false) s.m
    else Becomes (.hoopCommit h) s ((s.m.commit l 0xB2 (some h)).wait 0xB2 h 0)) ∧
  (∀ (h : HostCmd) (s : State), Admitted ciHoopLogExport ownHoopLogExport h s →
    ∃ hdr : List Nat, hdr.length = 8 ∧ Runs (.hoopLogExport h) s h DONE (h.f 1 32 14)
      ((s.m.hostWords (h.word 2) hdr 3 h.owner).hostWords (h.word 2 + 64)
        ((s.m.hoop.log.drop (h.f 1 0 13)).take (h.f 1 32 14)).flatten 3 h.owner)) ∧
  (∀ (h : HostCmd) (s : State), submissionQ h.q = true → commonRefusal ciHoopFwLoad h s.m = none →
    s.isOpen = true → s.m.logTakes = true → s.m.committing = false → h.f 1 0 32 ≠ 0 → h.f 1 0 32 % 256 = 0 →
    h.f 2 0 6 = 0 →
    if imageSigned (h.bytes (h.f 1 0 32)) then
      Becomes (.hoopFwLoad h) s (((s.m.hostRead (h.word 2) (h.f 1 0 32)).commit [7] 0xB5 (some h)).wait 0xB5 h 0)
    else Runs (.hoopFwLoad h) s h BAD_FIELD 0 s.m) ∧
  (∀ (h : HostCmd) (s : State), Admitted ciHoopDiscard ownHoopDiscard h s →
    ∃ m : Mach, Runs (.hoopDiscard h) s h DONE (orAll (s.m.dirtyRgns.map (2 ^ ·))) m ∧ m.smp.staging = s.m.hoop.table ∧
      m.hoop = s.m.hoop) ∧
  (∀ (h : HostCmd) (s : State), Admitted ciHoopNote ownHoopNote h s →
    Runs (.hoopNote h) s h DONE (s.m.rd HOOP_LOG_BASE_BASE + s.m.logUsed)
      (s.m.audit s.hoopSeal.st auNote 0 0 (h.word 1) (h.word 2))) ∧
  (∀ (h : HostCmd) (s : State), Admitted ciHoopLogAck ownHoopLogAck h s →
     ∃ t e, exec (.hoopLogAck h) s = .next t ∧ t.pending = s.pending ∧ t.dram = s.dram ∧ t.hoopSeal.st = s.hoopSeal.st ∧
       t.m.rd HOOP_LOG_BASE_BASE = (s.m.rd HOOP_LOG_BASE_BASE + s.m.ackCount h) % 2 ^ 24 ∧
       t.hoopSeal.fuseUsed = s.hoopSeal.fuseUsed + (if s.hoopSeal.gf then 0 else 1) ∧
       (s.m.logUsed < 8192 + s.m.ackCount h → t.m.hoop.log = s.m.hoop.log.drop (s.m.ackCount h) ++ [e]))

/-- DMA commands (R374, R376): BIND takes the ring and starts the channel IDLE at entry 0, UNBIND returns it to UNBOUND with
the number of entries left, RECOVER ends the halt. -/
def Obligations.DmaCommands : Prop :=
  (∀ (h : HostCmd) (s : State), Admitted ciDmaBind ownDmaBind h s →
    ∃ m : Mach, Runs (.dmaBind h) s h DONE h.tgt m ∧ m.dch h.tgt = {} ∧
      Holds m [(DMA_CH_CFG_BOUND, [h.tgt], 1), (DMA_CH_CFG_LOG2SIZE, [h.tgt], h.f 1 0 4),
        (DMA_CH_CFG_NOSNOOP_OK, [h.tgt], h.f 1 8 1), (DMA_CH_CFG_RELAXED_OK, [h.tgt], h.f 1 9 1),
        (DMA_CH_RING, [h.tgt], h.word 2), (DMA_CH_STAT_HEAD, [h.tgt], 0), (DMA_DB_TAIL, [h.tgt], 0),
        (DMA_CH_STAT_FAULT, [h.tgt], 0), (DMA_CH_STAT_STATE, [h.tgt], dsIdle)]) ∧
  (∀ (h : HostCmd) (s : State), Admitted ciDmaUnbind ownDmaUnbind h s →
    ∃ m : Mach, Runs (.dmaUnbind h) s h DONE
        ((s.m.dmaTail h.tgt + s.m.dmaSize h.tgt - s.m.dmaHead h.tgt) % s.m.dmaSize h.tgt) m ∧ m.dch h.tgt = {} ∧
      Holds m [(DMA_CH_CFG_BOUND, [h.tgt], 0), (DMA_CH_STAT_HEAD, [h.tgt], 0), (DMA_DB_TAIL, [h.tgt], 0),
        (DMA_CH_STAT_FAULT, [h.tgt], 0), (DMA_CH_STAT_STATE, [h.tgt], dsUnbound)]) ∧
  (∀ (h : HostCmd) (s : State), Admitted ciDmaRecover ownDmaRecover h s → h.f 1 0 1 = 0 →
    ∃ m : Mach, Runs (.dmaRecover h) s h DONE 0 m ∧ m.dma = s.m.dma ∧ m.rd DMA_STAT_HALTED = 0)

/-- Housekeeping commands (R274, R279, R280): a sequence waits for the next pass, an urgent conversion is queued or is
lost with BUSY, a snapshot writes 17 entries of two words.  R272, R277, R280, R284, R286: a converter's urgent conversion shows
in its data register; one of the watch counts and keeps the least code of each rail it serves; a self-test sums its conversions
and ends after 32. -/
def Obligations.HousekeepingCommands : Prop :=
  (∀ (h : HostCmd) (s : State), Admitted ciHkSeq ownHkSeq h s → s.m.on HKC_CFG_EN [h.tgt] = true →
    ∃ m : Mach, Becomes (.hkSeq h) s m ∧ (m.hkst h.tgt).next = some h ∧ m.hif.waits = s.m.hif.waits ++ [⟨0xD0, h, 0⟩] ∧
      m.regs = s.m.regs) ∧
  (∀ (h : HostCmd) (s : State), Admitted ciHkConvert ownHkConvert h s →
    if (s.m.hkst h.tgt).urg.isSome then
      ∃ m : Mach, Runs (.hkConvert h) s h BUSY 0 m ∧ m.hk = s.m.hk
    else if (s.m.hkst h.tgt).cur.isSome then
      ∃ m : Mach, Becomes (.hkConvert h) s m ∧ (m.hkst h.tgt).urg = some (h.f 1 0 6, some h) ∧
        Sets { s.m with hk := m.hk } m [(HKC_STAT_URG_PEND, [h.tgt], 1)]
    else ∃ m : Mach, Becomes (.hkConvert h) s m ∧ (m.hkst h.tgt).cur = some (.urg (h.f 1 0 6) (some h))) ∧
  (∀ (h : HostCmd) (s : State), Admitted ciHkSnapshot ownHkSnapshot h s →
    ∃ ws : List Nat, ws.length = 34 ∧ Runs (.hkSnapshot h) s h DONE 17 (s.m.hostWords (h.f 1 0 64) ws 3 h.owner)) ∧
  (∀ (raw : BitVec 16) (s : State) (src : Nat), (s.m.hkst 1).cur = some (.watch src) →
    Gives (.hkConversionEnd 1 raw) s fun t => (t.hkst 1).watchN = (s.m.hkst 1).watchN + 1 ∧
      ∀ r ∈ s.m.warned, src ∈ railSrcs r →
        tget 65535 (t.hkst 1).least r = min (s.m.hkSrcCode 1 src raw.toNat) (tget 65535 (s.m.hkst 1).least r)) ∧
  (∀ (c : Fin 2) (raw : BitVec 16) (s : State), (s.m.hkst c).cur = none → Becomes (.hkConversionEnd c raw) s s.m) ∧
  (∀ (c : Fin 2) (raw : BitVec 16) (s : State) (src : Nat) (cmd : Option HostCmd), (s.m.hkst c).cur = some (.urg src cmd) →
    Gives (.hkConversionEnd c raw) s fun t => Holds t [((dataFlds c).1, [], s.m.hkSrcCode c src raw.toNat),
      ((dataFlds c).2.1, [], src % 64), ((dataFlds c).2.2.2.1, [], 1)]) ∧
  (∀ (c : Fin 2) (raw : BitVec 16) (s : State) (k x a b : Nat), (s.m.hkst c).cur = some (.test k) →
    (s.m.hkst c).test = some (x, a, b) → Gives (.hkConversionEnd c raw) s fun t => (t.hkst c).test =
      some (if k < 16 then (k + 1, a + s.m.hkSrcCode c srcVref raw.toNat, b)
        else (k + 1, a, b + s.m.hkSrcCode c srcAgnd raw.toNat))) ∧
  (∀ (c : Fin 2) (s : State) (a b : Nat), (s.m.hkst c).test = some (32, a, b) →
    Gives (.selftestDone c) s fun t => (t.hkst c).test = none ∧ t.runs actHkTest c = false) ∧
  (∀ (c : Fin 2) (s : State), (s.m.hkst c).test = none → Becomes (.selftestDone c) s s.m)

/-- Admin commands of identity, events, flash and reset (Tables 11.11–11.13, R354): 512 words of identification, the
route of each class named, the bytes of a flash region, an image activated when its check passes, a reset scheduled; NOP
completes with the stitch. -/
def Obligations.AdminCommands : Prop :=
  (∀ (h : HostCmd) (s : State), Admitted ciIdentify ownIdentify h s →
    s.identData.length = 512 ∧ Runs (.identify h) s h DONE 4096 (s.m.hostWords (h.word 1) s.identData 5 h.owner)) ∧
  (∀ (h : HostCmd) (s : State), Admitted ciEventRoute ownEventRoute h s →
    ∃ m : Mach, Runs (.eventRoute h) s h DONE (bitList 13 (h.f 1 0 13)).length m ∧
      ∀ k, k < 13 → m.rd HIF_EVT_ROUTE_QID [k] = if bit (h.f 1 0 13) k then 392 + h.tgt else s.m.rd HIF_EVT_ROUTE_QID [k]) ∧
  (∀ (h : HostCmd) (s : State), Admitted ciSoftReset (fun _ _ => none) h s →
    Runs (.softReset h) s h DONE 0 { s.m with hif := { s.m.hif with resetDue := some rcSoft } }) ∧
  (∀ (h : HostCmd) (s : State), Admitted ciFlashWrite ownFlashWrite h s →
    let m := s.m.hostRead (h.word 2) (h.f 1 32 32)
    ∃ fl, Runs (.flashWrite h) s h DONE (h.f 1 32 32) { m with hif := { m.hif with flash := fl } } ∧
      ∀ a, tget 0 fl a =
        if flashKey h.tgt (h.f 1 0 32) ≤ a ∧ a < flashKey h.tgt (h.f 1 0 32) + h.f 1 32 32 then
          ((h.bytes (h.f 1 32 32)).getD (a - flashKey h.tgt (h.f 1 0 32)) 0).toNat
        else tget 0 s.m.hif.flash a) ∧
  (∀ (h : HostCmd) (s : State), submissionQ h.q = true → commonRefusal ciFlashActivate h s.m = none →
    if s.m.imageOk then
      Runs (.flashActivate h) s h DONE 0 { s.m with hif := { s.m.hif with fwNext := some s.m.imageVer1 } }
    else Runs (.flashActivate h) s h WRONG_STATE 0 s.m) ∧
  (∀ (h : HostCmd) (s : State), Admitted ciNop (fun _ _ => none) h s → Runs (.nop h) s h DONE s.m.stitch s.m)

/-- QUEUE_CREATE and QUEUE_DELETE (Table 11.11): a new queue starts empty at its base with PHASE 1, a pair both its
queues; a deleted queue is created no more, and a queue that does not exist is left alone. -/
def Obligations.QueueCommands : Prop :=
  (∀ (h : HostCmd) (s : State), Admitted ciQueueCreate ownQueueCreate h s →
    ∃ m : Mach, Runs (.queueCreate h) s h DONE h.tgt m ∧
      if h.tgt < 128 then
        Holds m (queueStart h.tgt (h.f 1 0 5) 0 0 (h.word 2) 1 0 ++
          queueStart (h.tgt + 1) (h.f 1 0 5) (h.f 1 8 1) 0 (h.word 3) (h.f 1 16 16) (h.f 1 32 16))
      else if h.tgt < 384 then Holds m (queueStart h.tgt (h.f 1 0 5) (h.f 1 8 1) 0 (h.word 2) 1 0)
      else Holds m (queueStart h.tgt (h.f 1 0 5) (h.f 1 8 1) (h.f 1 9 1) (h.word 2) (h.f 1 16 16) (h.f 1 32 16))) ∧
  (∀ (h : HostCmd) (s : State), Admitted ciQueueDelete ownQueueDelete h s →
    if s.m.qCreated h.tgt then
      ∃ m : Mach, Runs (.queueDelete h) s h DONE h.tgt m ∧ m.qCreated h.tgt = false ∧
        (h.tgt < 128 → m.qCreated (h.tgt + 1) = false)
    else Runs (.queueDelete h) s h DONE h.tgt s.m)

/-- DEVICE_STATE (R461, R466, R469, R470): from full service a request of Retention that nothing excludes is set for the next
boundary; from Retention the exit begins, or waits for the end of the entry, and the command waits; from Selvedge the failure count is cleared and a start
follows; elsewhere the command has no effect. -/
def Obligations.DeviceStateCommand : Prop :=
  ∀ (h : HostCmd) (s : State), Admitted ciDeviceState ownDeviceState h s →
    (h.f 1 0 2 = 1 → s.m.dev = .full → s.m.waiting actRetention 0 = false → s.m.blocker actRetention 0 = none →
      ∃ t, exec (.deviceState h) s = .next t ∧ s.keeps t ∧ t.m.hif.changes = s.m.hif.changes ++ [(s.m.stitch + 1, .other 2 [])] ∧
        t.m.flt.running = s.m.flt.running ++ [request s.m actRetention 0 [] h]) ∧
    (h.f 1 0 2 = 0 → s.m.dev = .retention → s.m.rd PWR_RET_STAT_PHASE ≠ 1 →
      Becomes (.deviceState h) s (s.m.retLeave.wait 0x04 h s.m.dtime)) ∧
    (h.f 1 0 2 = 0 → s.m.dev = .retention → s.m.rd PWR_RET_STAT_PHASE = 1 →
      Becomes (.deviceState h) s (s.m.wait 0x04 h s.m.dtime)) ∧
    (h.f 1 0 2 = 0 → s.m.dev = .selvedge →
      ∃ m : Mach, Runs (.deviceState h) s h DONE s.m.stitch m ∧ m.rd BOOT_FAIL_COUNT = 0 ∧
        m.hif = { s.m.hif with resetDue := some rcPin }) ∧
    ((h.f 1 0 2 = 1 ∧ s.m.dev = .retention) ∨ (h.f 1 0 2 = 0 ∧ (s.m.dev = .full ∨ s.m.dev = .basting)) →
      Runs (.deviceState h) s h DONE s.m.stitch s.m)
/-! ### What scheduled commands do at their boundary -/

/-- A boundary applies the changes that are due and keeps those that are not; shown for a queue of one change. -/
def Obligations.DueChangeIsApplied : Prop :=
  (∀ (m : Mach) (d : Nat) (c : Change), m.hif.changes = [(d, c)] → d ≤ m.stitch → selvedgeSrc c = none →
    m.applyDue = { m with hif := { m.hif with changes := [] } }.applyChange c) ∧
  (∀ (m : Mach) (d : Nat) (c : Change), m.hif.changes = [(d, c)] → m.stitch < d → m.applyDue = m)

/-- The set commands, and those of accumulation and measurement, take their payload into their registers and nothing else
(Tables 5.8 and 7.9); a change of members, a change of PRE or POST, ACC_CONFIG and ACC_BIND make the set's accumulation
INVALID (R217). -/
def Obligations.SetSettingsApply : Prop :=
  (∀ (m : Mach) (h : HostCmd), Sets m (Applies 0x18 h m)
    [(CAP_SET_MEMB, [h.tgt], h.f 1 0 64), (ACC_SET_STAT_STATE, [h.tgt], 2)]) ∧
  (∀ (m : Mach) (h : HostCmd), Sets m (Applies 0x19 h m)
    ([(CAP_SET_CFG_MODE, [h.tgt], h.f 1 0 2), (CAP_SET_CFG_FORMAT, [h.tgt], h.f 1 2 1),
      (CAP_SET_CFG_REARM, [h.tgt], h.f 1 3 1), (CAP_SET_CFG_AUTO_REARM, [h.tgt], h.f 1 4 1),
      (CAP_SET_CFG_PRE_FILL_WAIT, [h.tgt], h.f 1 5 1), (CAP_SET_CFG_LIST, [h.tgt], h.f 1 6 1),
      (CAP_SET_CFG_DELIVER, [h.tgt], h.f 1 7 1), (CAP_SET_PRE_PRE, [h.tgt], h.f 1 32 24),
      (CAP_SET_POST, [h.tgt], h.f 2 0 40), (CAP_SET_LIST_N_VALUE, [h.tgt], h.f 3 0 18),
      (CAP_SET_DUTY_DUTY, [h.tgt], h.f 3 32 17)] ++
     if h.f 1 32 24 = m.rd CAP_SET_PRE_PRE [h.tgt] ∧ h.f 2 0 40 = m.rd CAP_SET_POST [h.tgt] then []
     else [(ACC_SET_STAT_STATE, [h.tgt], 2)])) ∧
  (∀ (m : Mach) (h : HostCmd), Sets m (Applies 0x1A h m)
    [(CAP_SET_BIND_AREA, [h.tgt], h.f 1 0 8), (CAP_SET_BIND_RRING, [h.tgt], h.f 1 16 9),
     (CAP_SET_PRK_BASE_VALUE, [h.tgt], h.f 2 0 17), (CAP_SET_PRK_CNT_VALUE, [h.tgt], h.f 2 32 18),
     (CAP_SET_COAL_COAL_COUNT, [h.tgt], h.f 3 0 16), (CAP_SET_COAL_COAL_TIME, [h.tgt], h.f 3 16 16)]) ∧
  (∀ (m : Mach) (h : HostCmd), Sets m (Applies 0x60 h m)
    [(ACC_SET_CFG_KIND, [h.tgt], h.f 1 0 2), (ACC_SET_CFG_RES, [h.tgt], h.f 1 2 1), (ACC_SET_CFG_LOC, [h.tgt], h.f 1 3 1),
     (ACC_SET_CFG_CONTINUE, [h.tgt], h.f 1 4 1), (ACC_SET_CFG_KEEP_DATA, [h.tgt], h.f 1 5 1),
     (ACC_SET_CFG_HIT, [h.tgt], h.f 1 6 2), (ACC_SET_CFG_TB_LOG2, [h.tgt], h.f 1 8 5),
     (ACC_SET_CFG_AB_LOG2, [h.tgt], h.f 1 13 4), (ACC_SET_TARGET, [h.tgt], h.f 2 0 52), (ACC_SET_STAT_STATE, [h.tgt], 2)]) ∧
  (∀ (m : Mach) (h : HostCmd), Sets m (Applies 0x61 h m)
    [(ACC_SET_BIND_AREA, [h.tgt], h.f 1 0 8), (ACC_SET_BIND_BANK_FIRST, [h.tgt], h.f 1 8 3),
     (ACC_SET_BIND_BANK_CNT, [h.tgt], h.f 1 11 4), (ACC_SET_STAT_STATE, [h.tgt], 2)]) ∧
  (∀ (m : Mach) (h : HostCmd), Sets m (Applies 0x64 h m)
    [(ACC_MSLOT_CFG_EN, [h.tgt, h.f 1 0 3], h.f 2 0 1), (ACC_MSLOT_CFG_TYPE, [h.tgt, h.f 1 0 3], h.f 2 1 5),
     (ACC_MSLOT_CFG_POL, [h.tgt, h.f 1 0 3], h.f 2 6 2), (ACC_MSLOT_CFG_REF_SRC, [h.tgt, h.f 1 0 3], h.f 2 8 1),
     (ACC_MSLOT_CFG_EDGE_FROM, [h.tgt, h.f 1 0 3], h.f 2 9 1), (ACC_MSLOT_CFG_PEER, [h.tgt, h.f 1 0 3], h.f 2 10 6),
     (ACC_MSLOT_CFG_HYST, [h.tgt, h.f 1 0 3], h.f 2 16 16), (ACC_MSLOT_PCT_PCT_LO, [h.tgt, h.f 1 0 3], h.f 2 32 10),
     (ACC_MSLOT_PCT_PCT_MID, [h.tgt, h.f 1 0 3], h.f 2 42 10), (ACC_MSLOT_PCT_PCT_HI, [h.tgt, h.f 1 0 3], h.f 2 52 10),
     (ACC_MSLOT_ABS_ABS_LO, [h.tgt, h.f 1 0 3], h.f 3 0 16), (ACC_MSLOT_ABS_ABS_HI, [h.tgt, h.f 1 0 3], h.f 3 16 16),
     (ACC_MSLOT_MID_ABS_MID, [h.tgt, h.f 1 0 3], h.f 3 32 16), (ACC_MSLOT_GOFS_GATE_OFS, [h.tgt, h.f 1 0 3], h.f 4 0 32),
     (ACC_MSLOT_GLEN_GATE_LEN, [h.tgt, h.f 1 0 3], h.f 4 32 32)]) ∧
  (∀ (m : Mach) (h : HostCmd), Sets m (Applies 0x65 h m)
    [(ACC_MEAS_BASE_MEAS_BASE, [h.tgt], h.f 1 0 16), (ACC_MEAS_LINES_MEAS_LINES, [h.tgt], h.f 1 32 17),
     (ACC_MEAS_MIR, [h.tgt], h.f 2 0 64)])

/-- The trigger commands take their payload into the trigger registers (Table 4.8). -/
def Obligations.TriggerSettingsApply : Prop :=
  (∀ (m : Mach) (h : HostCmd), Sets m (Applies 0x31 h m)
    [(TRG_SET_CFG_MODE, [h.tgt], h.f 1 0 2), (TRG_SET_CFG_HO_MODE, [h.tgt], h.f 1 2 2),
     (TRG_SET_CFG_A_QUAL, [h.tgt], h.f 1 4 2), (TRG_SET_CFG_B_QUAL, [h.tgt], h.f 1 6 2),
     (TRG_SET_CFG_PAT_OP, [h.tgt], h.f 1 8 2),
     (TRG_SET_A01_SID_LOW, [h.tgt], h.f 2 0 10), (TRG_SET_A01_SID_HIGH, [h.tgt], h.f 2 16 10),
     (TRG_SET_A23_SID_LOW, [h.tgt], h.f 2 32 10), (TRG_SET_A23_SID_HIGH, [h.tgt], h.f 2 48 10),
     (TRG_SET_B01_SID_LOW, [h.tgt], h.f 3 0 10), (TRG_SET_B01_SID_HIGH, [h.tgt], h.f 3 16 10),
     (TRG_SET_B23_SID_LOW, [h.tgt], h.f 3 32 10), (TRG_SET_B23_SID_HIGH, [h.tgt], h.f 3 48 10),
     (TRG_SET_RSTN_RESET_SID, [h.tgt], h.f 4 0 10), (TRG_SET_RSTN_N, [h.tgt], h.f 4 16 16),
     (TRG_SET_DMIN, [h.tgt], h.f 5 0 64), (TRG_SET_DMAX, [h.tgt], h.f 6 0 64), (TRG_SET_HO, [h.tgt], h.f 7 0 64)]) ∧
  (∀ (m : Mach) (h : HostCmd), Sets m (Applies 0x34 h m) [(TRG_QSEG_MASK, [h.tgt], h.f 1 0 8)]) ∧
  (∀ (m : Mach) (h : HostCmd), Sets m (Applies 0x36 h m)
    [(TRG_SET_OUT_WIDTH, [h.tgt], h.f 1 0 16), (TRG_SET_OUT_EN, [h.tgt], h.f 1 16 1)]) ∧
  (∀ (m : Mach) (h : HostCmd), Sets { m with trg := (Applies 0x35 h m).trg } (Applies 0x35 h m)
    [(TRG_TMR_PER_PERIOD, [h.tgt], h.f 1 0 32), (TRG_TMR_CTL_EN, [h.tgt], h.f 1 32 1)]) ∧
  (∀ (m : Mach) (h : HostCmd), tfind (Applies 0x35 h m).trg.timers h.tgt =
    if h.b 1 32 then some (h.f 2 0 64 * 256) else none) ∧
  (∀ (m : Mach) (h : HostCmd), h.tgt < 16 → Holds (Applies 0x32 h m) ((TRG_SET_CFG_PAT_OP, [h.tgt], h.f 1 8 2) ::
    (List.range 8).flatMap fun i => [(TRG_PAT_SID, [h.tgt, h.f 1 0 6 + i], h.f (2 + i / 2) (32 * (i % 2)) 10),
      (TRG_PAT_COND, [h.tgt, h.f 1 0 6 + i], h.f (2 + i / 2) (32 * (i % 2) + 10) 2)]))

/-- Generator commands at their boundary (Table 8.12): configuration, skew, guards and a reset of a tripped generator. -/
def Obligations.GeneratorSettingsApply : Prop :=
  (∀ (m : Mach) (h : HostCmd), Sets m (Applies 0x70 h m)
    [(GEN_CFG_PARK, [h.tgt], h.f 1 0 16), (GEN_CFG_UNDERRUN_POLICY, [h.tgt], h.f 1 16 1),
     (GEN_CFG_GUARD_EN, [h.tgt], h.f 1 17 1), (GEN_CFG_TRIG_SID, [h.tgt], h.f 1 18 10),
     (GEN_MK_MK_WIDTH, [h.tgt], h.f 1 32 16), (GEN_STG_AREA_AREA, [h.tgt], h.f 2 0 8),
     (GEN_STG_AREA_BOUND, [h.tgt], 1), (GEN_STG_WMARK_BYTES, [h.tgt], h.f 3 0 23),
     (GEN_STG_RESUME_BYTES, [h.tgt], h.f 3 32 23)]) ∧
  (∀ (m : Mach) (h : HostCmd), Sets m (Applies 0x78 h m)
    [(GEN_SKEW_FRAC, [h.tgt], h.f 1 0 16), (GEN_SKEW_INT, [h.tgt], h.f 1 16 8)]) ∧
  (∀ (m : Mach) (h : HostCmd), Sets m (Applies 0x7B h m)
    [(GEN_SR_GEN_MASK, [h.tgt], h.f 1 0 8), (GEN_SR_REF, [h.tgt], h.f 1 8 3)]) ∧
  (∀ (m : Mach) (h : HostCmd), h.tgt < 8 → Holds (Applies 0x79 h m)
    ([(GEN_GUARD_RAMP_RAMP_US, [h.tgt], h.f 3 0 17), (GEN_CFG_GUARD_EN, [h.tgt], h.f 3 32 1)] ++
     (List.range 8).flatMap fun j =>
       [(GEN_GUARD_SID, [h.tgt, j], bits (h.f (1 + j / 4) (16 * (j % 4)) 12) 0 10),
        (GEN_GUARD_TRIP_LEVEL, [h.tgt, j], bits (h.f (1 + j / 4) (16 * (j % 4)) 12) 10 1),
        (GEN_GUARD_EN, [h.tgt, j], bits (h.f (1 + j / 4) (16 * (j % 4)) 12) 11 1)])) ∧
  (∀ (m : Mach) (h : HostCmd), m.gstate h.tgt = gTripped → Sets m (Applies 0x7A h m) [(GEN_STAT_STATE, [h.tgt], gIdle)]) ∧
  (∀ (m : Mach) (h : HostCmd) (i : Nat), (Applies 0x71 h m).segWords h.tgt i =
    if h.f 1 0 10 ≤ i ∧ i < h.f 1 0 10 + h.f 1 32 11 then (List.range 4).map fun j => h.dat (4 * (i - h.f 1 0 10) + j)
    else m.segWords h.tgt i) ∧
  (∀ (m : Mach) (h : HostCmd) (i : Nat), (Applies 0x72 h m).seqWord h.tgt i =
    if h.f 1 0 12 ≤ i ∧ i < h.f 1 0 12 + h.f 1 32 13 then h.dat (i - h.f 1 0 12) else m.seqWord h.tgt i)

/-- Memory, pair, fault and maintenance settings at their boundary (Tables 10.14, 14.5, 15.9). -/
def Obligations.ServiceSettingsApply : Prop :=
  (∀ (m : Mach) (h : HostCmd), Sets m (Applies 0x90 h m)
    [(MEM_AREA_CFG_TYPE, [h.tgt], h.f 1 0 3), (MEM_AREA_CFG_INVALID, [h.tgt], 0),
     (MEM_AREA_BASE_VALUE, [h.tgt], h.f 2 0 40 / 65536), (MEM_AREA_SIZE_VALUE, [h.tgt], h.f 3 0 41 / 65536),
     (MEM_AREA_PCNT_VALUE, [h.tgt], 0)]) ∧
  (∀ (m : Mach) (h : HostCmd), Sets m (Applies 0x91 h m)
    [(MEM_AREA_CFG_TYPE, [h.tgt], 0), (MEM_AREA_CFG_INVALID, [h.tgt], 0), (MEM_AREA_BASE_VALUE, [h.tgt], 0),
     (MEM_AREA_SIZE_VALUE, [h.tgt], 0), (MEM_AREA_PCNT_VALUE, [h.tgt], 0)]) ∧
  (∀ (m : Mach) (h : HostCmd), Sets m (Applies 0x93 h m) [(MEM_SCRUB_CFG_HOURS, [], h.f 1 8 8)]) ∧
  (∀ (m : Mach) (h : HostCmd), Sets m (Applies 0x96 h m) [(MEM_SR_CFG_IDLE_US, [], h.f 1 0 16)]) ∧
  (∀ (m : Mach) (h : HostCmd), Sets m (Applies 0x97 h m)
    [(MEM_AGE_AGE, [0], h.f 1 0 16), (MEM_AGE_AGE, [1], h.f 1 16 16), (MEM_AGE_AGE, [2], h.f 1 32 16),
     (MEM_AGE_AGE, [3], h.f 1 48 16)]) ∧
  (∀ (m : Mach) (h : HostCmd), Sets m (Applies 0xA6 h m)
    [(TWL_CFG_ALIVE_LINE, [], h.f 1 0 3), (TWL_CFG_SEC_MUTE, [], h.f 1 3 1), (TWL_CFG_TWIN_PERIOD, [], h.f 1 4 8),
     (TWL_CFG_DIV_TOL, [], h.f 1 16 16)]) ∧
  (∀ (m : Mach) (h : HostCmd), Holds (Applies 0xE0 h m)
    [(FLT_SRC_CFG_WLEN, [h.tgt], h.f 1 0 28), (FLT_SRC_CFG_WUNIT, [h.tgt], h.f 1 28 1),
     (FLT_SRC_CFG_LATCH, [h.tgt], h.f 1 29 1), (FLT_SRC_CFG_EN, [h.tgt], h.f 1 30 1),
     (FLT_SRC_ACT_THRESH, [h.tgt], h.f 1 32 16), (FLT_SRC_ACT_ACTION, [h.tgt], h.f 1 48 3),
     (FLT_SRC_STAT_WCOUNT, [h.tgt], 0)]) ∧
  (∀ (m : Mach) (h : HostCmd), Sets m (Applies 0xE4 h m)
    [(FLT_MAINT_CFG_DEFER_LIMIT, [], h.f 1 0 16), (FLT_MAINT_CFG_SS_LOG2, [], h.f 1 16 5)])

/-- Log commands at their boundary (Table 6.12): a stream is configured and bound, and the reserve of its old and new ring
are the streams bound to them; LOG_MD_SET with LEVELS_ONLY changes the comparator alone. -/
def Obligations.LogSettingsApply : Prop :=
  (∀ (m : Mach) (h : HostCmd), h.tgt < 320 → Holds (Applies 0x51 h m)
    [(LOG_STR_CFG_KIND, [h.tgt], h.f 1 1 3), (LOG_STR_CFG_FORMAT, [h.tgt], h.f 1 4 1), (LOG_STR_CFG_RING, [h.tgt], h.f 1 5 7),
     (LOG_STR_CFG_BOUND, [h.tgt], 1), (LOG_STR_RATIO_RATIO, [h.tgt], h.f 2 0 25)]) ∧
  (∀ (m : Mach) (h : HostCmd), h.b 1 32 = true → Sets m (Applies 0x55 h m)
    [(LOG_MD_CFG_CMP_MODE, [h.tgt], h.f 1 22 2), (LOG_MD_CMP_HI, [h.tgt], h.f 2 0 16), (LOG_MD_CMP_LO, [h.tgt], h.f 2 16 16),
     (LOG_MD_HYST_HYST, [h.tgt], h.f 2 32 15)]) ∧
  (∀ (m : Mach) (h : HostCmd), h.b 1 32 = false → Sets m (Applies 0x55 h m)
    [(LOG_MD_CFG_CMP_MODE, [h.tgt], h.f 1 22 2), (LOG_MD_CMP_HI, [h.tgt], h.f 2 0 16), (LOG_MD_CMP_LO, [h.tgt], h.f 2 16 16),
     (LOG_MD_HYST_HYST, [h.tgt], h.f 2 32 15), (LOG_MD_CFG_SINC, [h.tgt], h.f 1 0 2), (LOG_MD_CFG_OSR, [h.tgt], h.f 1 2 11),
     (LOG_MD_CFG_CMP_ORD, [h.tgt], h.f 1 13 2), (LOG_MD_CFG_CMP_OSR, [h.tgt], h.f 1 15 7),
     (LOG_MD_CFG_STUCK, [h.tgt], h.f 1 24 8)])

/-! ### Cycles, stitches and device time -/

/-- R22, R75: a core cycle of a running core counts the cycle and moves DTIME on by what the cycle lasts; at the end of a
stitch, before a slot that is due (assumption 132) and while the core stands, it does nothing.  R90: PPSOUT's time runs out with
DTIME.  R448, Table 15.5: PCIe transmit takes the packets of C1 before those of C3 before those of C5, but eight of C1 in a row let
one of C3 go; a packet of an entry waits for the data it reports (R337, R367); one packet goes in a cycle (assumption 148) while the host can be reached. -/
def Obligations.CoreCycleCountsCycleAndTime : Prop :=
  (∀ (raw : List (Fin 64 × List (BitVec 12))) (s : State), s.m.tb.running = true → s.m.tb.cyc < s.m.cycLimit →
    Gives (.coreCycle raw) s fun t => t.tb.cyc = s.m.tb.cyc + 1 ∧ t.tb.stitch = s.m.tb.stitch ∧
      t.tb.dt = (s.m.tb.dt + s.m.dtStep) % 2 ^ 104 ∧
      t.tb.ppsLeft = (if s.m.tb.ppsLeft = some 0 then none else s.m.tb.ppsLeft.map (· - s.m.dtStep)) ∧
      t.tx = if t.hostUp then (s.m.tx.take t.out).send else s.m.tx.take t.out) ∧
  (∀ (raw : List (Fin 64 × List (BitVec 12))) (s : State), s.m.tb.running = false ∨ s.m.cycLimit ≤ s.m.tb.cyc →
    Becomes (.coreCycle raw) s s.m) ∧
  (∀ (x : Tx) (a : Pkt) (l : List Pkt), let free := firstFree x.late [] x.c1
    (free = some (a, l) → x.c3 = [] ∨ x.run < 8 → x.send.c1 = l ∧ x.send.c3 = x.c3 ∧ x.send.sent = x.sent ++ [a]) ∧
    (free ≠ none → 8 ≤ x.run → x.c3 = a :: l → x.send.c1 = x.c1 ∧ x.send.c3 = l ∧ x.send.sent = x.sent ++ [a] ∧ x.send.run = 0) ∧
    (free = none → x.c3 = a :: l → x.send.c3 = l ∧ x.send.c5 = x.c5 ∧ x.send.sent = x.sent ++ [a]) ∧
    (free = none → x.c3 = [] → x.c5 = a :: l → x.send.c5 = l ∧ x.send.sent = x.sent ++ [a]) ∧
    (x.c1 = a :: l → a.data = .nobody → free = some (a, l)) ∧
    (free = some (a, l) → ∀ p ∈ x.c3 ++ x.c5, p.data = a.data → p.data = .nobody)) ∧
  (∀ x : Tx, x.run ≤ 8 → x.send.run ≤ 8 ∧ x.send.run ≤ x.run + 1)

/-- R22, R25: after its 256 cycles a stitch ends and the next opens; beside its own work and that of the copies of ACC_READ that go
on (R220) a boundary carries out at most one SELVEDGE action.  At any other moment the row does nothing.  R26, R118, R431, R432,
R439–R444: a slot does its work once a stitch, in its turn and in its cycles (assumption 132), and at no other moment. -/
def Obligations.StitchBoundaryOpensTheNextStitch : Prop :=
  (∀ s : State, s.m.tb.running = true → s.m.tb.cyc = 256 →
    let u := (s.upd fun m => m.boundaryWork s.hoopSeal.st s.hoopSeal.brokenInterval).copyAll
    ∃ t, exec .stitchBoundary s = .next t ∧ s.keeps u ∧ u.m.tb.stitch = s.m.tb.stitch + 1 ∧ u.m.tb.cyc = 0 ∧
      u.m.tb.slot = 0 ∧ (t = u ∨ ∃ src, t = u.selvedge src)) ∧
  (∀ s : State, s.m.tb.running = false ∨ s.m.tb.cyc ≠ 256 → Becomes .stitchBoundary s s.m) ∧
  (∀ s : State, if s.m.slotNow 0 then
      Gives .qualificationSlot s fun t =>
        t = each allSets (fun m k => m.qualify k) ({ s.m with tb := { s.m.tb with slot := 1 } } : Mach).pairQual ∧
        t.tb = { s.m.tb with slot := 1 } ∧ t.hoop = s.m.hoop ∧ t.dma = s.m.dma
    else Becomes .qualificationSlot s s.m) ∧
  (∀ (ecc : List RingEcc) (sram : List SramEcc) (s : State), if s.m.slotNow 1 then
      Gives (.bookkeepingSlot ecc sram) s fun t => t.tb = { s.m.tb with slot := 2, lost :=
        match s.m.tb.lost with | some x => if x.1 < s.m.stitch then none else some x | none => none }
    else Becomes (.bookkeepingSlot ecc sram) s s.m) ∧
  (∀ s : State, if s.m.slotNow 2 then
      Gives .measurementClosingSlot s fun t => (∀ c ∈ t.cap.closed, c.measured = true) ∧ t.tb = { s.m.tb with slot := 3 }
    else Becomes .measurementClosingSlot s s.m) ∧
  (∀ s : State, if s.m.slotNow 4 then
      Gives .faultWindowSlot s fun t => t.flt.due = [] ∧ t.tb = { s.m.tb with slot := 5 }
    else Becomes .faultWindowSlot s s.m) ∧
  (∀ (ecc : List SramEcc) (s : State), if s.m.slotNow 5 then
      Gives (.maintenanceSlot ecc) s fun t => t.tb = { s.m.tb with slot := 6 } ∧
        t.rd FLT_MAINT_STAT_RUN = orAll (t.flt.running.map fun r => 2 ^ r.act) % 2 ^ 12 ∧
        t.rd FLT_MAINT_STAT_DEFER = orAll (t.flt.deferred.map fun r => 2 ^ r.act) % 2 ^ 12
    else Becomes (.maintenanceSlot ecc) s s.m)

/-- R81, R87: the loss of the source in use clears its OK bit, counts, and lets TPLL coast with the pull at an end; a source
that is not in use only loses its OK bit.  R82, R83: a source that qualifies gets its OK bit; when every source in use is
good and SPLL is locked, an offset within PBO_THR is pulled in, a larger one is slewed with REALIGN 1, waits for a step with
REALIGN 2, and otherwise goes to TBS_PBO; it lies within half a second under SRC 2 and 3 (R88), and within half a period of
REFIN under SRC 1. -/
def Obligations.ReferencesAreLostAndQualify : Prop :=
  (∀ (pps : Bool) (s : State), s.m.tb.running = true → (if pps then s.m.usesPps else s.m.usesRef) = true →
    s.m.on (if pps then TBS_STATUS_PPS_OK else TBS_STATUS_REF_OK) = true →
    Gives (.refLost pps) s fun t => t.rd (if pps then TBS_STATUS_PPS_OK else TBS_STATUS_REF_OK) = 0 ∧
      t.rd TBS_LOSS_CNT_REF_LOSS = s.m.oneMore TBS_LOSS_CNT_REF_LOSS [] ∧ t.rd TBS_STATUS_TPLL_ST = tpCoasting ∧
      t.tb = { s.m.tb with offset := 0, measured := none, word := s.m.holdWord } ∧ (∃ l, t.flt.pend = s.m.flt.pend ++ l ∧ ⟨3, 1, 0⟩ ∈ l)) ∧
  (∀ (pps : Bool) (s : State), s.m.tb.running = true → (if pps then s.m.usesPps else s.m.usesRef) = false →
    Becomes (.refLost pps) s (s.m.wr (if pps then TBS_STATUS_PPS_OK else TBS_STATUS_REF_OK) [] 0)) ∧
  (∀ (pps : Bool) (phase : Int) (s : State), s.m.tb.running = true →
     s.m.on (if pps then TBS_STATUS_PPS_OK else TBS_STATUS_REF_OK) = false →
     Gives (.refQualified pps phase) s fun t =>
       let m := s.m.wr (if pps then TBS_STATUS_PPS_OK else TBS_STATUS_REF_OK) [] 1
       let off := m.refOffset phase
       t.rd (if pps then TBS_STATUS_PPS_OK else TBS_STATUS_REF_OK) = 1 ∧
       ((if pps then m.usesPps else m.usesRef) = true → m.srcOk = true → (m.spllLocked && !m.fallback) = true →
         if off.natAbs ≤ m.rd TBS_CFG_PBO_THR * 1024 * 2 ^ 40 then t.rd TBS_STATUS_TPLL_ST = tpQualifying ∧ t.tb.offset = off
         else if m.rd TBS_CFG_REALIGN = 1 then t.rd TBS_STATUS_TPLL_ST = tpSlewing ∧ t.tb.offset = off
         else if m.rd TBS_CFG_REALIGN = 2 then t.rd TBS_STATUS_TPLL_ST = tpStepPending ∧ t.tb.offset = off
         else t.rd TBS_STATUS_TPLL_ST = tpQualifying ∧ t.tb.offset = 0 ∧
           t.rd TBS_PBO = enc 64 ((m.rd TBS_PBO : Int) + unitsOf off))) ∧
  (∀ (m : Mach) (phase : Int), m.usesPps = true → 2 * (m.refOffset phase).natAbs ≤ secDt * 2 ^ 40) ∧
  (∀ (m : Mach) (phase : Int), let f := max 1 (m.rd TBS_REF_FREQ_REF_FREQ)
    m.usesPps = false → 2 * f * (m.refOffset phase).natAbs ≤ secDt * 2 ^ 40 + f)

/-- R76, R82, R85: TPLL_LOCKED and SLEW_DONE lock TPLL when their condition holds and else do nothing; a wrap of DTIME
increments EPOCH.  R88, R89: an edge of PPSIN is captured as DTIME less PPS_DELAY; a TB_TOD that waits gives DTIME its value
at that instant and increments EPOCH. -/
def Obligations.TimeLoopLocksAndPpsIsCaptured : Prop :=
  (∀ s : State,
    if s.m.srcOk && s.m.rd TBS_STATUS_TPLL_ST == tpQualifying && s.m.tb.offset == 0 && s.m.spllLocked then
      Becomes .tpllLocked s (s.m.wr TBS_STATUS_TPLL_ST [] tpLocked)
    else Becomes .tpllLocked s s.m) ∧
  (∀ s : State,
    if s.m.rd TBS_STATUS_TPLL_ST == tpSlewing && decide (s.m.tb.offset.natAbs ≤ s.m.rd TBS_CFG_PBO_THR * 1024 * 2 ^ 40)
    then Gives .slewDone s fun t => Sets s.m t [(TBS_STATUS_TPLL_ST, [], tpLocked)]
    else Becomes .slewDone s s.m) ∧
  (∀ s : State, match s.m.tb.wrapped with
    | some c => Gives .dtimeWrap s fun t => Sets { s.m with tb := { s.m.tb with
          wrapped := none, epochs := (c, (s.m.epoch + 1) % 2 ^ 16) :: s.m.tb.epochs } } t
        [(TBS_EPOCH_EPOCH, [], (s.m.epoch + 1) % 2 ^ 16)]
    | none => Becomes .dtimeWrap s s.m) ∧
  (∀ (ofs : Nat) (s : State), s.m.tb.running = true →
     let cap : Int := (s.m.dtime : Int) + (ofs % (s.m.cycInc / 2 ^ 40 + 1) : Nat) - s.m.ppsDelay
     match s.m.tb.tod with
     | none => Gives (.ppsinEdge ofs) s fun t => Sets s.m t [(TBS_PPS_CAP, [], enc 64 cap)]
     | some v => Gives (.ppsinEdge ofs) s fun t => t.rd TBS_PPS_CAP = enc 64 cap ∧
         t.tb.dt = (((v : Int) + (s.m.dtime : Int) - cap) * 2 ^ 40 % (2 ^ 104 : Nat)).toNat ∧ t.tb.tod = none ∧
         t.rd TBS_STATUS_TOD_PENDING = 0 ∧ t.rd TBS_EPOCH_EPOCH = (s.m.epoch + 1) % 2 ^ 16)

/-- R90, R111, R126, R129, R132: PPSOUT rises for 1 ms at a whole second; SYNCIN starts the generators that wait for it; an
input line shows its level and, from a line that stays silent in the pair, its active edge is an event; a timer's event
comes when its period has passed and the next is due a period later; a set's pulses that are due have started, and on the
fallback clock none starts (R131). -/
def Obligations.LinesAndTimers : Prop :=
  (∀ s : State, let ofs := s.m.tb.dt % (secDt * 2 ^ 40)
    if s.m.clockOk && s.m.on TBS_OUT_PPSOUT_EN && s.m.tb.ppsLeft.isNone && decide (ofs < s.m.cycInc) then
      Becomes .ppsoutPulse s ({ s.m with tb := { s.m.tb with ppsLeft := some (msDt * 2 ^ 40 - ofs) } }.pin .ppsout 1)
    else Becomes .ppsoutPulse s s.m) ∧
  (∀ s : State, s.m.tb.running = true → s.m.formed = false → Becomes .syncinPulse s (s.m.genSync s.m.stitch)) ∧
  (∀ (l : Fin 112) (high : Bool) (s : State), s.m.ioOut l = false → s.m.tb.running = true →
    s.m.on TRG_IO_PIN_STATE [l] ≠ high → Gives (.markerInputEdge l high) s fun t =>
      t.on TRG_IO_PIN_STATE [l] = high ∧
      (s.m.aliveLine l = false → high ≠ s.m.on TRG_IO_INV [l] → ∃ e : Ev, t.trg.events = s.m.trg.events ++ [e] ∧
        e.sid = 0x180 + l ∧ e.arrC = s.m.cycles + 4) ∧
      (s.m.aliveLine l = true → t.pair = { s.m.pair with quiet := 0 } ∧ t.trg = s.m.trg)) ∧
  (∀ (r : Fin 4) (s : State) (c : Nat), tfind s.m.trg.timers r = some c → s.m.tb.running = true → c ≤ s.m.cycles →
    Gives (.timerFire r) s fun t => tfind t.trg.timers r = some (c + s.m.rd TRG_TMR_PER_PERIOD [r.val]) ∧
      ∃ e : Ev, t.trg.events = s.m.trg.events ++ [e] ∧ e.sid = 0x218 + r ∧ e.arrC = c) ∧
  (∀ (k : Fin 16) (s : State), if s.m.fallback then Becomes (.trigOutPulse k) s s.m
    else Gives (.trigOutPulse k) s fun t =>
      (∀ p ∈ t.trg.pulses, p.set = k → p.from_ ≤ s.m.cycles → p.started = true) ∧
        t.trg.pulses.length = s.m.trg.pulses.length)

/-! ### Events of the tiles -/

/-- R49, R50: at its stitch a reading of the four tiles shows in their registers, and every slice takes the coefficients
interpolated for it, from the table that a commit has put in place. -/
def Obligations.TemperatureReading : Prop :=
  ∀ (t0 t1 t2 t3 : BitVec 16) (s : State), s.m.stitch % 256 = 0 → s.m.tb.running = true →
    Gives (.tempReading t0 t1 t2 t3) s fun t => ∀ (i : Nat) (r : BitVec 16), (i, r) ∈ [(0, t0), (1, t1), (2, t2), (3, t3)] →
      let x := (gridPos r.toInt (s.m.rdI TIL_TEMP_GRID_BASE [i]) (s.m.rd TIL_TEMP_GRID_STEP [i])).1
      Holds t [(TIL_TILE_STAT_TEMP, [i], r.toNat), (TIL_TILE_STAT_POINT, [i], x / 256), (TIL_TILE_STAT_WEIGHT, [i], x % 256)] ∧
      ∀ j, j < 64 → (t.slice (64 * i + j)).interp = s.m.tableSwap.interpAt (64 * i + j) x

/-- R61: the tolerance is TOL_PCT × 10^-4 × 209 715.2 rounded to the nearest whole number, and TOL_LSB; its defaults give
1 057.  R59, R60, R62, R91: a check sample of a channel in full service is skipped while the channel is looped back or its tile
calibrates, and over a window that settles or carries a flag; compared, it is a mismatch when the window's value is off by more
than the tolerance.  On the fallback clock the converters stand. -/
def Obligations.CheckSampleIsCompared : Prop :=
  (∀ m : Mach, ∃ r : Nat, m.chkTol = r + m.rd TIL_CHK_TOL_TOL_LSB ∧
    2 * ((r : Int) * 100000 - m.rd TIL_CHK_TOL_TOL_PCT * 2097152).natAbs ≤ 100000) ∧
  (State.reset.m.rd TIL_CHK_TOL_TOL_PCT = 50 ∧ State.reset.m.rd TIL_CHK_TOL_TOL_LSB = 8 ∧ State.reset.m.chkTol = 1057) ∧
  ∀ (ch : Fin 64) (code : BitVec 18) (at_ : Nat) (s : State),
    let n := ch.val
    let w := s.m.chkWindow n at_
    let cal := s.m.tileCal (tileOf n) && s.m.on TIL_CH_CFG_ENABLE [n]
    let looped := s.m.on TIL_CH_STAT_LOOPBACK [n] && decide ((s.m.chan n).loopFrom ≤ w.1)
    (s.m.fallback = true → Becomes (.checkSample ch code at_) s s.m) ∧
    ((s.m.chIsOn n || cal) = true → s.m.unused n = false → s.m.fallback = false → s.m.dev = .full → at_ % 2500 = 0 →
      tfind s.m.smp.ccTest n = none →
    ((cal || looped || decide (w.1 + 1 < w.2 + (s.m.chan n).chkSkipTo) || s.m.windowBad n w.1 w.2) = true →
      Gives (.checkSample ch code at_) s fun t => t.rd TIL_CHK_CNT_SKIP [n] = s.m.oneMore TIL_CHK_CNT_SKIP [n] ∧
        t.rd TIL_CHK_CNT_MISMATCH [n] = s.m.rd TIL_CHK_CNT_MISMATCH [n]) ∧
    (∀ v, cal = false → looped = false →
      w.2 + (s.m.chan n).chkSkipTo ≤ w.1 + 1 → s.m.windowBad n w.1 w.2 = false → (s.m.chan n).window w.1 w.2 = some v →
      Gives (.checkSample ch code at_) s fun t => t.rd TIL_CHK_CNT_SKIP [n] = s.m.rd TIL_CHK_CNT_SKIP [n] ∧
        t.rd TIL_CHK_CNT_MISMATCH [n] = if s.m.chkTol < (fastValue v - code.toInt).natAbs then
          s.m.oneMore TIL_CHK_CNT_MISMATCH [n] else s.m.rd TIL_CHK_CNT_MISMATCH [n]))

/-- R39, R51, R54: a channel whose settling stitches are over is ON; an estimator interval of a running channel is counted
as skipped, or as an update, and gives nothing while EST_EN is 0 or was when it began (assumption 130); under a supply warning the
next one is to be discarded too. -/
def Obligations.SettlingAndEstimation : Prop :=
  (∀ (ch : Fin 64) (s : State), let c := s.m.chan ch
    s.m.chState ch = chSettling → c.held = false → c.firstValid ≠ 0 → c.firstValid ≤ s.m.stitch → c.settleFrom ≠ 0 →
    Gives (.channelSettled ch) s fun t => t.rd TIL_CH_STAT_STATE [ch.val] = chOn) ∧
  (∀ (ch : Fin 64) (res : List (List Int)) (s : State), s.m.chIsOn ch = true →
    s.m.dev = .full → s.m.stitch % (512 / s.m.comb ch) = 0 →
    Gives (.estimatorIntervalEnd ch res) s fun t => (t.chan ch).estN = 0 ∧ (t.chan ch).estBad = s.m.supplyWarn ∧
      if s.m.on TIL_CH_CFG_EST_EN [ch.val] = false ∨ s.m.stitch < (s.m.chan ch).estFrom + 512 / s.m.comb ch then
        t.regs = s.m.regs ∧ t.smp.slices = s.m.smp.slices
      else if s.m.estDiscard ch || (s.m.chan ch).estN == 0 then
        t.rd TIL_EST_CNT_SKIPS [ch.val] = s.m.oneMore TIL_EST_CNT_SKIPS [ch.val] ∧ t.smp.slices = s.m.smp.slices
      else t.rd TIL_EST_CNT_UPDATES [ch.val] = s.m.oneMore TIL_EST_CNT_UPDATES [ch.val])

/-- R56–R58, R65, R451: a calibration that has ended gives its tile back; a loopback that has settled and a self-test whose
converters have made their 64 samples leave nothing waiting. -/
def Obligations.CalibrationAndSelfTestEnd : Prop :=
  (∀ (tile : Fin 4) (meas : List (List Int)) (s : State), s.m.runs actFgCal tile = true →
    Gives (.fgCalDone tile meas) s fun t => t.rd TIL_TILE_STAT_FG_ACTIVE [tile.val] = 0 ∧ t.runs actFgCal tile = false ∧
      ∀ n ∈ tileCh tile, t.rd TIL_CH_STAT_FG_ACTIVE [n] = 0 ∧ (t.chan n).held = false) ∧
  (∀ (g : Fin 8) (w : Wait) (l : List Wait) (s : State), s.m.waitsOf 0x14 g = w :: l → w.at_ ≤ s.m.stitch →
    Gives (.loopbackSettled g) s fun t => t.waitsOf 0x14 g = []) ∧
  (∀ (tile : Fin 4) (s : State), s.m.runs actCcTest tile = true →
    (∀ e ∈ s.m.smp.ccTest, tileOf e.1 = tile → 64 ≤ e.2.1) →
    Gives (.ccSelftestDone tile) s fun t => t.runs actCcTest tile = false ∧
      t.smp.ccTest = s.m.smp.ccTest.filter fun e => tileOf e.1 != tile)

/-! ### Losses of the loops -/

/-- R91: while the loops run, a loss of SPLL is shown and counted, the core moves to the fallback clock, running pulses end
and every generator that is ARMED or runs parks; on the fallback clock already, only the loop's state and the count change.
Its lock shows the band and lets the core return.  R93: a loss of CPLL moves the system domains to XTAL and is counted; its
lock moves them back. -/
def Obligations.LoopLossAndLock : Prop :=
  (∀ s : State, s.m.loopsOn = true → s.m.spllLocked = true → s.m.fallback = false →
    Gives .spllLost s fun t => t.rd TBS_STATUS_SPLL_ST = pllLost ∧
      t.rd TBS_LOSS_CNT_SPLL_LOSS = s.m.oneMore TBS_LOSS_CNT_SPLL_LOSS [] ∧ t.fallback = true ∧
      t.tb.lost = some (s.m.stitch, s.m.tb.cyc) ∧ t.tb.backDue = false ∧ t.trg.pulses = [] ∧
      ∀ g, g < 8 → t.gstate g ≠ gArmed ∧ t.gruns g = false) ∧
  (∀ s : State, s.m.loopsOn = true → s.m.spllLocked = true → s.m.fallback = true →
    Gives .spllLost s fun t => Sets { s.m with tb := { s.m.tb with backDue := false } } t
      [(TBS_STATUS_SPLL_ST, [], pllLost), (TBS_LOSS_CNT_SPLL_LOSS, [], s.m.oneMore TBS_LOSS_CNT_SPLL_LOSS [])]) ∧
  (∀ (band : Fin 64) (s : State), s.m.tb.running = true → s.m.spllLocked = false →
    Gives (.spllLocked band) s fun t => Sets { s.m with tb := { s.m.tb with backDue := true } } t
      [(TBS_STATUS_SPLL_ST, [], pllLocked), (TBS_PLL_BAND_SPLL_BAND, [], band.val)]) ∧
  (∀ s : State, s.m.rd TBS_STATUS_CPLL_ST = pllLocked →
    Gives .cpllLost s fun t => Sets s.m t [(TBS_STATUS_CPLL_ST, [], pllLost), (TBS_STATUS_SYS_FALLBACK, [], 1),
      (TBS_LOSS_CNT_CPLL_LOSS, [], s.m.oneMore TBS_LOSS_CNT_CPLL_LOSS [])]) ∧
  (∀ (band : Fin 64) (s : State), s.m.rd TBS_STATUS_CPLL_ST = pllLost →
    Gives (.cpllLocked band) s fun t => Sets s.m t [(TBS_STATUS_CPLL_ST, [], pllLocked), (TBS_STATUS_SYS_FALLBACK, [], 0),
      (TBS_PLL_BAND_CPLL_BAND, [], band.val),
      (TBS_SPREAD_CPLL_ACTIVE, [], (s.m.rd TBS_SPREAD_CPLL_MODE != 0).toNat)])

/-- R92, R318: a loss of MPLL puts every channel of record memory in self-refresh; outside Retention memory becomes
UNAVAILABLE unless it was never initialised, generators park, DMA channels at work pause, what waits to be written for records is
lost, and the write-backs of folds wait (assumption 147).  In Retention the loss waits for the exit. -/
def Obligations.MemoryLoopLoss : Prop :=
  (∀ (late : Bool) (s : State), s.m.loopsOn = true → s.m.rd TBS_STATUS_MPLL_ST = pllLocked → s.m.dev ≠ .retention →
    Gives (.mpllLost late) s fun t => t.rd TBS_STATUS_MPLL_ST = pllLost ∧ t.rd TBS_STATUS_MEM_UNAVAIL = 1 ∧
      t.rd TBS_LOSS_CNT_MPLL_LOSS = s.m.oneMore TBS_LOSS_CNT_MPLL_LOSS [] ∧
      t.rd MEM_STAT_STATE = (if s.m.rd MEM_STAT_STATE = memUninit then memUninit else memUnavailable) ∧
      (∀ mc, mc < 16 → t.rd MEM_MC_STAT_SR [mc] = 1) ∧ t.mem.lateSr = late ∧
      (∀ g, g < 8 → t.gstate g ≠ gArmed ∧ t.gruns g = false) ∧
      (∀ k ∈ allDma, (s.m.dch k).desc.isSome = true → t.rd DMA_CH_STAT_MEM_PAUSE [k] = 1) ∧
      (∀ r ∈ t.mem.queue, ∀ n, r.src ≠ .capture n) ∧
      ∀ r ∈ s.m.mem.queue, (∃ n, r.src = .acc n) → r ∈ t.mem.queue) ∧
  (∀ (late : Bool) (s : State), s.m.loopsOn = true → s.m.rd TBS_STATUS_MPLL_ST = pllLocked → s.m.dev = .retention →
    Gives (.mpllLost late) s fun t => Sets { s.m with mem := { s.m.mem with lateSr := late, retLost := true } } t
      ((TBS_STATUS_MPLL_ST, [], pllLost) :: (List.range 16).map fun mc => (MEM_MC_STAT_SR, [mc], 1)))

/-- R92, R306, R313, R318: MPLL's lock takes every channel out of self-refresh with no refresh owed and starts the
verification of memory that was in service; when all sixteen channels pass it, memory serves again, and else it is FAILED and
stays out of service. -/
def Obligations.MemoryLoopLockAndVerification : Prop :=
  (∀ (band : Fin 64) (s : State), s.m.loopsOn = true → s.m.rd TBS_STATUS_MPLL_ST ≠ pllLocked → s.m.dev ≠ .retention →
    Gives (.mpllLocked band) s fun t => t.rd TBS_STATUS_MPLL_ST = pllLocked ∧ t.rd TBS_PLL_BAND_MPLL_BAND = band.val ∧
      t.mem = { s.m.mem with backlog := [] } ∧
      (∀ mc, mc < 16 → t.rd MEM_MC_STAT_SR [mc] = 0 ∧ t.rd MEM_MC_STAT_BACKLOG [mc] = 0) ∧
      if s.m.rd MEM_STAT_STATE = memUnavailable ∨ s.m.rd MEM_STAT_STATE = memRetention then
        t.rd MEM_STAT_STATE = memVerifying ∧ t.rd TBS_STATUS_MEM_UNAVAIL = s.m.rd TBS_STATUS_MEM_UNAVAIL
      else t.rd MEM_STAT_STATE = s.m.rd MEM_STAT_STATE ∧ t.rd TBS_STATUS_MEM_UNAVAIL = 0) ∧
  (∀ (pass : BitVec 16) (maps : List (Fin 16 × BitVec 32)) (s : State), s.m.rd MEM_STAT_STATE = memVerifying →
    s.m.on TBS_STATUS_MEM_UNAVAIL = true → s.m.dev ≠ .retention →
    Gives (.memReinit pass maps) s fun t =>
      if pass = 0xFFFF then t.rd MEM_STAT_STATE = memAvailable ∧ t.rd TBS_STATUS_MEM_UNAVAIL = 0
      else t.rd MEM_STAT_STATE = memFailed ∧ t.rd TBS_STATUS_MEM_UNAVAIL = 1)

/-! ### Resets, starts, supplies -/

/-- After a reset of class POR or PIN: nothing of acquisition, memory, time and pair is left, record memory is empty, EPOCH
has counted, BOOT_CAUSE says why, and stage S0 runs unless the device is held in reset. -/
def Sys2Proof.Machine.ColdStart (c : Instr) (s : State) (held : Bool) (cls cause data : Nat) : Prop :=
  ∃ t, exec c s = .next t ∧ t.pending = s.pending ∧ t.hoopSeal = s.hoopSeal ∧ t.dram = ⟨[], []⟩ ∧ t.m.tb = {} ∧ t.m.trg = {} ∧
    t.m.cap = {} ∧ t.m.acc = {} ∧ t.m.log = {} ∧ t.m.gen = {} ∧ t.m.dma = {} ∧ t.m.mem = {} ∧ t.m.pair = {} ∧
    t.m.hif.inReset = held ∧ t.m.boot.next = (if held then none else some 0) ∧
    Holds t.m [(BOOT_CAUSE_CLASS, [], cls), (BOOT_CAUSE_CAUSE, [], cause), (BOOT_CAUSE_DATA, [], data),
      (BOOT_CAUSE_SELVEDGE, [], 0), (TBS_EPOCH_EPOCH, [], (s.m.epoch + 1) % 2 ^ 16)]

/-- R95, R455, R463, R491: power-up, the reset pin, a failed crystal, the end of a JTAG test and a supply below its reset
level start the device afresh, with the class and cause Table 16.2 gives; a device is held while its pin is low or its crystal
is out. -/
def Obligations.ColdResets : Prop :=
  (∀ s : State, ColdStart .powerOnReset s (s.m.boot.pinLow || s.m.boot.xtalOut) rcPor 0 0) ∧
  (∀ s : State, ColdStart .resetNPin s true rcPin 0 0) ∧
  (∀ s : State, ColdStart .xtalFail s true rcPin 8 0) ∧
  (∀ s : State, ColdStart .jtagTestExit s (s.m.boot.pinLow || s.m.boot.xtalOut) rcPin 0 0) ∧
  (∀ (r : Rail) (s : State), ColdStart (.supplyReset r) s (s.m.boot.pinLow || s.m.boot.xtalOut)
    (if r = 0 then rcPor else rcPin) 9 r.val) ∧
  (∀ s : State, s.m.hif.inReset = true → s.m.boot.xtalOut = false → Becomes .resetNRelease s
    { s.m with boot := { s.m.boot with pinLow := false, next := some 0 }, hif := { s.m.hif with inReset := false } }) ∧
  (∀ s : State, s.m.hif.inReset = true → s.m.boot.xtalOut = true → s.m.boot.pinLow = false →
    Gives .xtalReturn s fun t => t.hif.inReset = false ∧ t.boot.next = some 0 ∧ t.boot.xtalOut = false ∧
      t.rd BOOT_CAUSE_CAUSE = 8)

/-- After a function restart of a device that is not held in reset: time and record memory are kept, and what acquisition,
generators, DMA and pair held is gone; a device that was not in Selvedge nor starting is in full service. -/
def Sys2Proof.Machine.Restarts (c : Instr) (s : State) (cls : Nat) : Prop :=
  ∃ t, exec c s = .next t ∧ t.pending = s.pending ∧ t.dram = s.dram ∧ t.m.tb = s.m.tb ∧ t.m.trg = {} ∧
    t.m.cap = { ids := t.m.cap.ids } ∧ t.m.acc = {} ∧ t.m.gen = {} ∧ t.m.dma = {} ∧ t.m.pair = {} ∧ t.m.rd BOOT_CAUSE_CLASS = cls ∧
    t.m.hif.linkUp = (s.m.hif.linkUp && cls != rcPerst) ∧
    (s.m.rd HIF_DEV_STATE ≠ 3 → t.hoopSeal = s.hoopSeal ∧ t.m.log = {}) ∧
    (s.m.rd HIF_DEV_STATE ≠ 2 → s.m.boot.next = none → t.m.dev = .full ∧ t.m.rd HIF_DEV_STAGE = 7)

/-- R323, R354, R463, R464, R502: PERST_N, a function-level reset of PF0 and SOFT_RESET restart the functions; the reset after
Selvedge is a cold one; a function-level reset of PF1 touches PF1 alone; the watchdog restarts the device from stage S4 at the
latest, with time kept. -/
def Obligations.RestartsOfAStartedDevice : Prop :=
  (∀ s : State, s.m.hif.inReset = false → Restarts .perst s rcPerst) ∧
  (∀ s : State, s.m.hif.inReset = false → Restarts .flrPf0 s rcFlr) ∧
  (∀ s : State, s.m.hif.inReset = false → s.m.hif.resetDue = some rcSoft → Restarts .resetAfterCompletion s rcSoft) ∧
  (∀ s : State, s.m.hif.resetDue = some rcPin →
    ColdStart .resetAfterCompletion s (s.m.boot.pinLow || s.m.boot.xtalOut) rcPin 0 0) ∧
  (∀ s : State, s.m.hif.resetDue = none → Becomes .resetAfterCompletion s s.m) ∧
  (∀ s : State, Becomes .flrPf1 s { s.m with hif := { s.m.hif with msixTab1 := [], msixPend1 := [] } }) ∧
  (∀ s : State, s.m.hif.inReset = false → s.m.dev ≠ .selvedge →
    ∃ t, exec .watchdogExpiry s = .next t ∧ t.pending = s.pending ∧ t.dram = ⟨[], []⟩ ∧ t.m.mem = {} ∧
      t.m.cap = { ids := s.m.cap.ids } ∧ t.m.acc = {} ∧ t.m.log = {} ∧ t.m.gen = {} ∧ t.m.dma = {} ∧ t.m.pair = {} ∧ t.m.stitch = s.m.stitch ∧
      t.m.dtime = s.m.dtime ∧ t.m.boot.next = some (min 4 (s.m.boot.next.getD 4)) ∧
      Holds t.m [(BOOT_CAUSE_CLASS, [], rcWdog), (BOOT_CAUSE_CAUSE, [], 10)])

/-- A start that ends in Selvedge (R461). -/
def Sys2Proof.Machine.EntersSelvedge (r : BootResult) (s : State) (cause : Nat) : Prop :=
  Gives (.bootStageComplete r) s fun t => t.dev = .selvedge ∧ t.boot.next = none ∧
    Holds t [(BOOT_CAUSE_CAUSE, [], cause), (BOOT_CAUSE_SELVEDGE, [], 1)]

/-- A stage that completes: the next one runs and STAGE shows it. -/
def Sys2Proof.Machine.Stage (n : Nat) (t : Mach) : Prop := t.boot.next = some (n + 1) ∧ t.rd HIF_DEV_STAGE = n

/-- R457–R461: what the stages of a start lead to.  S0 to S2 end in Selvedge for the failure counter, the straps, an image or a
store that does not authenticate; a failed crystal or lock resets; S3 leaves the loops locked and time at stitch 0; S4 gives
Basting; a failed verification in S5 makes the start wait; S7 gives full service. -/
def Obligations.StartStages : Prop :=
  ∀ (r : BootResult) (s : State), s.m.hif.inReset = false →
    let held := s.m.boot.pinLow || s.m.boot.xtalOut
    let n := s.m.rd BOOT_FAIL_COUNT
    (s.m.boot.next = some 0 → r.ok = false → ColdStart (.bootStageComplete r) s true rcPin 8 0) ∧
    (s.m.boot.next = some 0 → r.ok = true → r.bootmode ≠ 2 → 3 ≤ n → EntersSelvedge r s 5) ∧
    (s.m.boot.next = some 0 → r.ok = true → n < 3 → r.bootmode = 1 ∨ r.bootmode = 3 → EntersSelvedge r s 6) ∧
    (s.m.boot.next = some 0 → r.ok = true → (r.bootmode = 0 ∧ n < 3) ∨ r.bootmode = 2 →
      Gives (.bootStageComplete r) s fun t => Stage 0 t ∧ t.boot.mode = r.bootmode.val ∧
        t.rd BOOT_FAIL_STARTS = s.m.oneMore BOOT_FAIL_STARTS [] ∧
        t.rd BOOT_FAIL_COUNT = if r.bootmode = 2 then n else n + 1) ∧
    (s.m.boot.next = some 1 → r.ok = false → EntersSelvedge r s 1) ∧
    (s.m.boot.next = some 1 → r.ok = true → Gives (.bootStageComplete r) s (Stage 1)) ∧
    (s.m.boot.next = some 2 → r.copy = 2 → EntersSelvedge r s 2) ∧
    (s.m.boot.next = some 2 → r.copy ≠ 2 → ∃ t, exec (.bootStageComplete r) s = .next t ∧ t.pending = s.pending ∧
      t.dram = s.dram ∧ Stage 2 t.m) ∧
    (s.m.boot.next = some 3 → r.ok = false → ColdStart (.bootStageComplete r) s held rcPin 3 0) ∧
    (s.m.boot.next = some 3 → r.ok = true → Gives (.bootStageComplete r) s fun t => Stage 3 t ∧ t.tb.running = true ∧
      t.stitch = 0 ∧ Holds t [(TBS_STATUS_SPLL_ST, [], pllLocked), (TBS_STATUS_CPLL_ST, [], pllLocked),
        (TBS_STATUS_MPLL_ST, [], pllLocked)]) ∧
    (s.m.boot.next = some 4 → s.m.tb.planned = false → s.m.tb.oldKhz = none →
      Gives (.bootStageComplete r) s fun t => Stage 4 t ∧ t.rd HIF_DEV_STATE = 1) ∧
    (s.m.boot.next = some 5 → s.m.boot.waitMem = false → s.m.rd TBS_STATUS_MPLL_ST = pllLocked →
      Gives (.bootStageComplete r) s fun t =>
        if r.pass = 0xFFFF then Stage 5 t ∧ t.rd MEM_STAT_STATE = memAvailable
        else t.boot.next = some 5 ∧ t.boot.waitMem = true ∧ t.rd BOOT_CAUSE_CAUSE = 4 ∧ t.rd MEM_STAT_STATE = memFailed) ∧
    (s.m.boot.next = some 6 → if s.m.boot.cal = 4 then Gives (.bootStageComplete r) s (Stage 6)
      else Becomes (.bootStageComplete r) s s.m) ∧
    (s.m.boot.next = some 7 → Gives (.bootStageComplete r) s fun t => t.dev = .full ∧ t.boot.next = none ∧
      Holds t [(HIF_DEV_STAGE, [], 7), (BOOT_FAIL_COUNT, [], 0), (BOOT_TIME_FULL_MS, [], min r.ms 65535)]) ∧
    (s.m.boot.next = none → Becomes (.bootStageComplete r) s s.m)

/-- R455, R456: a supply that falls below its warning level is marked, and one that recovers is recorded with its event
count and fault source.  R466–R470: memory that has entered Retention keeps the segments of the mask and loses the others;
the exit returns to full service with generators IDLE. -/
def Obligations.SuppliesAndRetention : Prop :=
  (∀ (r : Rail) (s : State), s.m.hif.inReset = false → bit (s.m.rd PWR_RAIL_STAT_WARN) r = false →
    Gives (.supplyWarning r) s fun t => bit (t.rd PWR_RAIL_STAT_WARN) r = true ∧
      tfind t.boot.warn r = some (s.m.dtime - 2 * usDt, s.m.epoch)) ∧
  (∀ (r : Rail) (s : State) (x : Nat × Nat), tfind s.m.boot.warn r = some x →
    Gives (.supplyEvent r) s fun t => bit (t.rd PWR_RAIL_STAT_WARN) r = false ∧ bit (t.rd PWR_RAIL_STAT_SEEN) r = true ∧
      tfind t.boot.warn r = none ∧ t.rd PWR_LAST_EVT0_RAIL = r.val ∧ t.rd PWR_LAST_T = x.1 % 2 ^ 64 ∧
      t.rd PWR_EVT_CNT_EVENTS [r.val] = s.m.oneMore PWR_EVT_CNT_EVENTS [r.val] ∧
      ∃ l, t.flt.pend = s.m.flt.pend ++ l ∧ ⟨53 + r.val, 1, 0⟩ ∈ l) ∧
  (∀ s : State, s.m.dev = .retention → s.m.rd PWR_RET_STAT_PHASE = 1 →
    ∃ t, exec .retEntered s = .next t ∧ t.pending = s.pending ∧ t.hoopSeal = s.hoopSeal ∧
      (∀ c ∈ t.dram.cells, s.m.keptByte c.1 = true) ∧ Holds t.m ((PWR_RET_STAT_PHASE, [], if s.m.waitsOf 0x04 0 = [] then 2 else 3) ::
        (TBS_STATUS_MPLL_ST, [], pllSearching) :: (MEM_STAT_STATE, [], memRetention) ::
        (List.range 16).map fun mc => (MEM_MC_STAT_SR, [mc], 1))) ∧
  (∀ (pass : BitVec 16) (maps : List (Fin 16 × BitVec 32)) (s : State), s.m.dev = .retention →
    s.m.rd PWR_RET_STAT_PHASE = 3 → s.m.rd TBS_STATUS_MPLL_ST = pllLocked →
    ∃ t, exec (.retExited pass maps) s = .next t ∧ t.pending = s.pending ∧ t.dram = s.dram ∧
      t.m.rd HIF_DEV_STATE = 0 ∧ t.m.rd PWR_RET_STAT_PHASE = 0 ∧ ∀ g, g < 8 → t.m.gstate g = gIdle)

/-! ### Record memory -/

/-- R295–R297, R309, R312, R315: an access of a channel takes the request that class and age choose: a write puts its line into
memory, a write of a part of a line changes that part of what the line held, and the line stays poisoned where it was or where it
does not read; a line of a migration moves its pointer on; a clear empties its area; with nothing queued it reads the line, whose
uncorrectable error writes it back poisoned and latches its address.  A line that has been written reads back, and every other byte is as it was. -/
def Obligations.MemoryAccesses : Prop :=
  (∀ (mc : Fin 16) (rd : Nat) (ecc : MemEcc) (s : State) (r : MemReq) (bs : List (BitVec 8)), s.m.memOk = true →
    s.m.nextReq mc = some r → r.clear = none → r.data = some bs → r.part = none →
    ∃ t, exec (.memAccess mc rd ecc) s = .next t ∧ t.pending = s.pending ∧ t.hoopSeal = s.hoopSeal ∧
      t.dram = s.dram.writeLine r.line bs r.poison ∧ t.m.mem.queue = s.m.mem.queue.erase r) ∧
  (∀ (mc : Fin 16) (rd : Nat) (ecc : MemEcc) (s : State) (r : MemReq) (bs : List (BitVec 8)) (o : Nat), s.m.memOk = true →
    s.m.nextReq mc = some r → r.clear = none → r.data = some bs → r.part = some o →
    let d := if s.dram.isPoison r.line then s.dram else match ecc with
      | .uncorrectable _ => s.dram.spoil r.line
      | _ => s.dram
    ∃ t, exec (.memAccess mc rd ecc) s = .next t ∧ t.pending = s.pending ∧ t.hoopSeal = s.hoopSeal ∧
      t.dram = d.writeLine r.line (patch (readCells s.dram.cells (64 * r.line) 64) o bs) (d.isPoison r.line)) ∧
  (∀ (mc : Fin 16) (rd : Nat) (ecc : MemEcc) (s : State) (r : MemReq), s.m.memOk = true →
    s.m.nextReq mc = some r → r.clear = none → r.data = none → r.src = .migrate → ecc = .ok → mcOf r.line = mc →
    ∃ t, exec (.memAccess mc rd ecc) s = .next t ∧ t.pending = s.pending ∧ t.hoopSeal = s.hoopSeal ∧ t.dram = s.dram ∧
      t.m.rd MEM_MC_MIG_POINTER [mc.val] = s.m.oneMore MEM_MC_MIG_POINTER [mc.val] ∧
      ∃ l, t.m.mem.queue = s.m.mem.queue.erase r ++ l ∧ ∀ q ∈ l, q.src = .migrate ∧ q.cls = 4 ∧ q.data = none) ∧
  (∀ (mc : Fin 16) (rd : Nat) (ecc : MemEcc) (s : State) (r : MemReq) (a : Nat), s.m.memOk = true →
    s.m.nextReq mc = some r → r.clear = some a →
    ∃ t, exec (.memAccess mc rd ecc) s = .next t ∧ t.pending = s.pending ∧ t.hoopSeal = s.hoopSeal ∧
      t.dram = s.dram.clear (s.m.areaBase a) (s.m.areaBase a + s.m.areaSize a) ∧
      t.m.mem.queue = s.m.mem.queue.erase r ∧ t.m.areaInvalid a = false ∧ t.m.rd MEM_AREA_PCNT_VALUE [a] = 0) ∧
  (∀ (mc : Fin 16) (rd : Nat) (ecc : MemEcc) (s : State), s.m.memOk = true → s.m.nextReq mc = none →
    let line := rd / 16 * 16 + mc.val
    s.m.rankUsable (rankOf line) = true → 64 * line < s.m.rankEnd (rankOf line) →
    ∃ t, exec (.memAccess mc rd ecc) s = .next t ∧ t.pending = s.pending ∧ t.hoopSeal = s.hoopSeal ∧
      match ecc with
      | .uncorrectable _ => s.dram.isPoison line = false →
          t.dram = s.dram.spoil line ∧ t.m.rd MEM_MC_ERR [mc.val] = 64 * line
      | _ => t.dram = s.dram) ∧
  (∀ (mc : Fin 16) (rd : Nat) (ecc : MemEcc) (s : State), s.m.memOk = false → Becomes (.memAccess mc rd ecc) s s.m) ∧
  (∀ (d : Dram) (line : Nat) (bs : List (BitVec 8)) (p : Bool), Memory.wf d.cells = true → bs.length = 64 →
    readCells (d.writeLine line bs p).cells (64 * line) 64 = bs ∧ (d.writeLine line bs p).isPoison line = p ∧
    (∀ a, a < 64 * line ∨ 64 * line + 64 ≤ a → cellAt (d.writeLine line bs p).cells a = cellAt d.cells a) ∧
    ∀ l, l ≠ line → (d.writeLine line bs p).isPoison l = d.isPoison l)

/-- R299–R302, R306, R307, R310, R312, R317: refresh, the poll of the components, the end of the refresh window, scrub steps,
the end of a migration, self-refresh, and the end of a verification that MEM_VERIFY asked for. -/
def Obligations.MemoryControllerEvents : Prop :=
  (∀ (mc : Fin 16) (rk : Fin 4) (s : State), s.m.memOk = true → s.m.on MEM_MC_STAT_SR [mc.val] = false → rk < s.m.ranks →
    let k := rankId mc rk
    let u := { s.m with mem := { s.m.mem with forced := s.m.mem.forced.filter (· != k) } }
    (s.m.rankHasC0 mc rk = true → s.m.backlog k < s.m.postLimit →
      Becomes (.refreshDue mc rk) s (u.setBacklog k (s.m.backlog k + 1))) ∧
    (s.m.rankHasC0 mc rk = true → s.m.postLimit ≤ s.m.backlog k → Gives (.refreshDue mc rk) s fun t =>
      t.rd MEM_MC_FORCED_FORCED [mc.val] = s.m.oneMore MEM_MC_FORCED_FORCED [mc.val] ∧ t.backlog k = s.m.backlog k ∧
      ∃ l, t.flt.pend = s.m.flt.pend ++ l ∧ ⟨37, 1, mc.val⟩ ∈ l) ∧
    (s.m.rankHasC0 mc rk = false → s.m.runs actCatchUp k = false → Becomes (.refreshDue mc rk) s u)) ∧
  (∀ (mc : Fin 16) (rk : Fin 4) (s : State), let k := rankId mc rk
    s.m.memOk = true → s.m.backlog k ≠ 0 → s.m.runs actCatchUp k = false → s.m.waiting actCatchUp k = false →
    s.m.blocker actCatchUp k = none → ((s.m.mcQueue mc).any fun r => s.m.physRank r.line == rk) = false →
    Gives (.refreshCatchUp mc rk) s fun t => t.runs actCatchUp k = true ∧ t.mem = s.m.mem) ∧
  (∀ (ask : BitVec 16) (s : State),
    Becomes (.refreshRatePoll ask) s { s.m with mem := { s.m.mem with doubled := bitList 16 ask.toNat } }) ∧
  (∀ s : State, Becomes .actTableClear s { s.m with mem := { s.m.mem with act := [] } }) ∧
  (∀ (mc : Fin 16) (s : State), s.m.memOk = true → s.m.rd MEM_SCRUB_CFG_HOURS ≠ 0 ∨ tget 0 s.m.mem.fast mc ≠ 0 →
    s.m.runs actScrub mc = false → s.m.waiting actScrub mc = false → s.m.blocker actScrub mc = none →
    let l := s.m.scrubWrap (tget 0 s.m.mem.scrubAt mc)
    Gives (.dramScrubStep mc) s fun t => t.runs actScrub mc = true ∧
      t.mem.queue = s.m.mem.queue ++ (List.range 64).map fun i =>
        { cls := 4, src := .scrub, line := (l + i) * 16 + mc, data := none, since := s.m.dtime }) ∧
  (∀ (mc : Fin 16) (s : State), s.m.memOk = true → s.m.on MEM_MC_STAT_MIG [mc.val] = true →
    Gives (.migDone mc) s fun t => Holds t [(MEM_MC_STAT_MIG, [mc.val], 0), (MEM_MC_STAT_SPARE_USED, [mc.val], 1),
      (MEM_MC_STAT_SPARE_FOR, [mc.val], s.m.rd MEM_MC_STAT_MIG_RANK [mc.val])]) ∧
  (∀ (mc : Fin 16) (s : State), s.m.memOk = true → s.m.rd MEM_SR_CFG_IDLE_US ≠ 0 → s.m.rd CAP_COMMIT_COMMIT = 0 →
    s.m.mirroring = false → s.m.mcQueue mc = [] →
    Gives (.selfRefreshIdle mc) s fun t => t.rd MEM_MC_STAT_SR [mc.val] = 1 ∧ ∀ r, r < 4 → t.backlog (rankId mc r) = 0) ∧
  (∀ (pass : BitVec 16) (maps : List (Fin 16 × BitVec 32)) (s : State), s.m.rd MEM_STAT_STATE = memVerifying →
    s.m.waitsOf 0x98 0 ≠ [] → Gives (.memVerifyDone pass maps) s fun t => t.waitsOf 0x98 0 = [] ∧
      t.rd MEM_STAT_STATE = (if t.rd MEM_STAT_VFAIL = 0 then memAvailable else memFailed) ∧
      (t.rd MEM_STAT_VFAIL = 0 → ∀ a, a < 256 → t.areaType a ≠ 0 → t.areaInvalid a = true))

/-! ### Queues, link and register access -/

/-- The command of each opcode (Table 11.8). -/
def Sys2Proof.Machine.opcodes : List (Nat × (HostCmd → Instr)) :=
  [(0x00, .identify), (0x01, .queueCreate), (0x02, .queueDelete), (0x03, .eventRoute), (0x04, .deviceState),
   (0x05, .softReset), (0x06, .flashWrite), (0x07, .flashActivate), (0x08, .nop), (0x10, .chConfig),
   (0x11, .quadCombine), (0x12, .fgCal), (0x13, .calRelease), (0x14, .loopback), (0x18, .setMembers),
   (0x19, .setConfig), (0x1A, .setBind), (0x1B, .setArm), (0x1C, .setDisarm), (0x1D, .setRearm), (0x30, .trgUnitSet),
   (0x31, .trgProgram), (0x32, .trgPattern), (0x33, .trgIo), (0x34, .trgQseg), (0x35, .trgTimer), (0x36, .trgOut),
   (0x37, .trgSoft), (0x40, .prkExport), (0x41, .basteRead), (0x50, .logRingSet), (0x51, .logStreamCfg),
   (0x52, .logStart), (0x53, .logStop), (0x54, .logMgSet), (0x55, .logMdSet), (0x56, .logFlush), (0x60, .accConfig),
   (0x61, .accBind), (0x62, .accRead), (0x63, .accClear), (0x64, .measSlot), (0x65, .measBind), (0x66, .measExport),
   (0x67, .measStats), (0x70, .genConfig), (0x71, .genSegWrite), (0x72, .genSeqWrite), (0x73, .genArm),
   (0x74, .genStart), (0x75, .genStop), (0x76, .genJump), (0x77, .genNcoSet), (0x78, .genSkew), (0x79, .genGuard),
   (0x7A, .genGuardReset), (0x7B, .genSrBind), (0x7C, .genTrig), (0x80, .tbSource), (0x81, .tbRate), (0x82, .tbTod),
   (0x83, .tbSpread), (0x84, .tbOutputs), (0x85, .tbSync), (0x90, .areaCreate), (0x91, .areaDestroy),
   (0x92, .areaClear), (0x93, .memScrub), (0x94, .memMigrate), (0x95, .memPasrSet), (0x96, .memSrSet),
   (0x97, .memAgeSet), (0x98, .memVerify), (0xA0, .pairForm), (0xA1, .pairDissolve), (0xA2, .pairRoleSwap),
   (0xA3, .pairRejoin), (0xA4, .pairTwinCheck), (0xA5, .pairRetrain), (0xA6, .pairConfig), (0xB0, .hoopUnseal),
   (0xB1, .hoopSeal), (0xB2, .hoopCommit), (0xB3, .hoopLogExport), (0xB4, .hoopLogAck), (0xB5, .hoopFwLoad),
   (0xB6, .hoopDiscard), (0xB7, .hoopNote), (0xC0, .dmaBind), (0xC1, .dmaUnbind), (0xC2, .dmaRecover),
   (0xD0, .hkSeq), (0xD1, .hkConvert), (0xD2, .hkSnapshot), (0xD3, .hkSelftest), (0xE0, .fltConfig),
   (0xE1, .fltClear), (0xE2, .fltInject), (0xE3, .fltHistory), (0xE4, .maintCfg), (0xE5, .ccSelftest),
   (0xE6, .sramScrub), (0xE7, .maintCancel)]

/-- R351 and Table 11.8: the opcode of a fetched entry runs its command; an opcode that is not listed completes with
BAD_OPCODE and has no other effect. -/
def Obligations.OpcodesRunTheirCommands : Prop :=
  (∀ p ∈ opcodes, ∀ (h : HostCmd) (s : State), exec (p.2 h) s = .next (s.runOp p.1 h)) ∧
  (∀ (op : Nat) (h : HostCmd) (s : State), op ∉ opcodes.map Prod.fst → submissionQ h.q = true →
    s.keeps (s.runOp op h) ∧ Quiet [] s.m (s.runOp op h).m ∧ Completes s.m (s.runOp op h).m h BAD_OPCODE 0)

/-- R331, R333, R334, R339, R342, R348, R349: doorbells, the fetch of an entry with its SEQUENCE check, its re-reads and its stall, FENCE,
the delivery of a held event, and the coalescing time of a queue. -/
def Obligations.HostQueueEvents : Prop :=
  (∀ (q : Fin 512) (v : BitVec 32) (s : State), s.m.hostUp = true →
    if s.m.dbValid q (v.toNat % 65536) then
      Gives (.doorbellWrite q v) s fun t => Sets s.m t [(HIF_Q_PTR_HOST_PTR, [q.val], v.toNat % 65536),
        (HIF_Q_STAT_STALLED, [q.val], 0), (HIF_Q_STAT_BUS_ERR, [q.val], 0)]
    else Gives (.doorbellWrite q v) s fun t => Sets s.m t [(HIF_DB_ERR_COUNT, [], s.m.oneMore HIF_DB_ERR_COUNT []),
      (HIF_DB_ERR_QID, [], q.val)]) ∧
  (∀ (q : Fin 512) (v : BitVec 32) (s : State), s.m.hostUp = false → Becomes (.doorbellWrite q v) s s.m) ∧
  (∀ (q : Fin 512) (ws data : List (BitVec 64)) (s : State), s.m.fetchReady q = true → (s.m.qst q).rereads = 0 →
    let w0 := (ws.getD 0 0).toNat
    let m := s.m.emit (.read (s.m.rd HIF_Q_BASE [q.val] + 64 * s.m.qDev q) 64 1 false)
    s.m.on HIF_Q_STAT_STALLED [q.val] = false →
    if bits w0 48 16 ≠ (s.m.qst q).seq then
      Becomes (.commandFetch q ws data []) s (m.setQst q { s.m.qst q with rereads := 1 })
    else if bit w0 8 = true ∧ s.m.outstanding q ≠ 0 then
      Becomes (.commandFetch q ws data []) s (m.setQst q { s.m.qst q with rereads := 0 })
    else exec (.commandFetch q ws data []) s =
      .next (({ s with m := m.qAdvance q } : State).runOp (bits w0 0 8) (entryCmd q ws data))) ∧
  (∀ (m : Mach) (q : Nat), ((m.qAdvance q).qst q).seq = ((m.qst q).seq + 1) % 65536 ∧
    (m.qAdvance q).qDev q = (m.qDev q + 1) % m.qSize q % 2 ^ 16) ∧
  (∀ (q : Fin 512) (ws data : List (BitVec 64)) (ecc : List SramEcc) (s : State), s.m.fetchReady q = false →
    Becomes (.commandFetch q ws data ecc) s s.m) ∧
  (∀ (q : Fin 512) (ws data : List (BitVec 64)) (s : State), q.val < 384 → s.m.fetchReady q = true →
    (s.m.qst q).rereads ≠ 0 → bits (ws.getD 0 0).toNat 48 16 ≠ (s.m.qst q).seq →
    let again := Out.read (s.m.rd HIF_Q_BASE [q.val] + 64 * s.m.qDev q) 64 1 false
    if (s.m.qst q).rereads < 4 then
      Becomes (.sequenceReread q ws data) s ((s.m.emit again).setQst q { s.m.qst q with rereads := (s.m.qst q).rereads + 1 })
    else Gives (.sequenceReread q ws data) s fun t => t.on HIF_Q_STAT_STALLED [q.val] = true ∧ (t.qst q).rereads = 0 ∧
      ∃ l, t.out = s.m.out ++ again :: .entry (q.val + 1) (s.m.qDev (q.val + 1))
        (cplWords ⟨q.val, 0, 0xFFFF, QUEUE_STALE, (s.m.qst q).seq, false, s.m.qDev q⟩ (s.m.rd HIF_Q_STAT_PHASE [q.val + 1])) :: l) ∧
  (∀ s : State, match s.m.hif.evbuf.find? fun e => s.m.qReady (s.m.evQueue e.cls) with
    | none => Becomes .eventDelivery s s.m
    | some e => Gives .eventDelivery s fun t => t.hif.evbuf = s.m.hif.evbuf.erase e ∧
        ∃ l, t.out = s.m.out ++ .entry (s.m.evQueue e.cls) (s.m.qDev (s.m.evQueue e.cls))
          (evWords e (s.m.qst (s.m.evQueue e.cls)).lost (s.m.rd HIF_Q_STAT_PHASE [s.m.evQueue e.cls])) :: l) ∧
  (∀ (q : Fin 512) (s : State), let st := s.m.qst q; let c := (s.m.coal q).2
    if st.unsig ≠ 0 ∧ c ≠ 0 ∧ st.unsigAt + c * usDt ≤ s.m.dtime then
      Gives (.msixCoalTimeout q) s fun t => (t.qst q).unsig = 0 ∧ Quiet [] s.m t
    else Becomes (.msixCoalTimeout q) s s.m)

/-- R322, R324, R334, R373: the link and PF0's power state; a failed request of a queue stalls it, one of the DMA engine
halts it. -/
def Obligations.LinkEvents : Prop :=
  (∀ s : State, s.m.hif.linkUp = true → Gives .pcieLinkDown s fun t => t.hif.linkUp = false ∧
    t.flt.pend = s.m.flt.pend ++ [⟨44, 1, 0⟩]) ∧
  (∀ (speed width : Fin 3) (s : State), s.m.hif.linkUp = false → s.m.hif.inReset = false →
    Gives (.pcieLinkUp speed width) s fun t => t.hif.linkUp = true ∧ t.hif.d3hot = false ∧ t.hif.held = [] ∧
      t.rd HIF_LINK_SPEED = (if s.m.dev = .selvedge then 3 else 3 + speed.val) ∧
      t.rd HIF_LINK_WIDTH = (if s.m.dev = .selvedge then 4 else 4 * 2 ^ width.val)) ∧
  (∀ (d3 : Bool) (s : State), s.m.hif.linkUp = true → Gives (.pf0PowerState d3) s fun t => t.hif.d3hot = d3 ∧
    (d3 = false → t.hif.held = [])) ∧
  (∀ (d3 : Bool) (s : State), s.m.hif.linkUp = false → Becomes (.pf0PowerState d3) s s.m) ∧
  (∀ s : State, Becomes .pcieCorrectableError s (s.m.fault 43)) ∧
  (∀ (q : Fin 512) (poisoned : Bool) (addr : BitVec 64) (s : State), s.m.qCreated q = true → driverQ q = true →
    Gives (.pcieCompletionError (.queue q) poisoned addr) s fun t =>
      Sets s.m t [(HIF_Q_STAT_STALLED, [q.val], 1), (HIF_Q_STAT_BUS_ERR, [q.val], 1)] ∧
      t.flt.pend = s.m.flt.pend ++ (if poisoned then [⟨44, 1, 0⟩] else [])) ∧
  (∀ (ch : Option (Fin 32)) (addr : BitVec 64) (s : State), s.m.dmaHalted = false →
    Gives (.pcieCompletionTimeout (.dmaData ch) addr) s fun t => Holds t [(DMA_STAT_HALTED, [], 1),
      (DMA_STAT_CAUSE, [], dhTimeout), (DMA_STAT_CH, [], (ch.map Fin.val).getD 63), (DMA_STAT_SPACE, [], 0),
      (DMA_ERR, [], addr.toNat), (DMA_HALTS_COUNT, [], s.m.oneMore DMA_HALTS_COUNT [])] ∧
      (∀ k ∈ allDma, t.on DMA_CH_CFG_BOUND [k] = true → t.dmaSt k = dsHalted) ∧
      ∃ l, t.flt.pend = s.m.flt.pend ++ l ∧ ⟨40, 1, (0 : Nat)⟩ ∈ l ∧ ⟨44, 1, (0 : Nat)⟩ ∈ l)

/-- R7–R9, R325–R327, R385, R386, R490, R500: a register access that PF0 answers.  A write that does not enable four bytes is
ignored and counted, and PF1 takes none; the places with a row of their own act as it does; a sealed register is written only
with the Hoop OPEN in full service, from the next boundary on, and marks its region DIRTY; an RC register clears as it is
read; the high half of DTIME is the one latched by the read of the low half; the management interface reads 0 outside its
window. -/
def Obligations.RegisterAccesses : Prop :=
  (∀ (off val : BitVec 32) (be : BitVec 4) (s : State), s.m.hostUp = true → be ≠ 15 →
    Becomes (.registerWrite .pf0Bar0 off val be) s (s.m.wr HIF_ACC_ERR_COUNT [] (s.m.oneMore HIF_ACC_ERR_COUNT []))) ∧
  (∀ (sp : Space) (off val : BitVec 32) (be : BitVec 4) (s : State), s.m.answers sp = false ∨ sp = .pf1Bar0 →
    Becomes (.registerWrite sp off val be) s s.m) ∧
  (∀ (val : BitVec 32) (s : State), exec (.registerWrite .pf0Bar0 0xC val 15) s = exec (.adminEnWrite val) s ∧
    exec (.registerWrite .pf0Bar0 0x204014 val 15) s = exec (.tabStageWrite val) s) ∧
  (∀ (q : Fin 512) (val : BitVec 32) (be : BitVec 4) (s : State), be.toNat % 4 = 3 →
    exec (.registerWrite .pf0Bar2 (.ofNat 32 (64 * q.val)) val be) s = exec (.doorbellWrite q val) s) ∧
  (∀ (val : BitVec 32) (s : State), s.m.hostUp = true → val.getLsbD 0 = true → s.m.on HIF_CTL_ADMIN_EN = false →
    let sq := s.m.rd HIF_ADM_SIZE_SQ_LOG2
    let cq := s.m.rd HIF_ADM_SIZE_CQ_LOG2
    if sq = 0 ∨ 12 < sq ∨ cq = 0 ∨ 12 < cq then
      Becomes (.adminEnWrite val) s (s.m.wr HIF_ACC_ERR_COUNT [] (s.m.oneMore HIF_ACC_ERR_COUNT []))
    else Gives (.adminEnWrite val) s fun t => t.rd HIF_CTL_ADMIN_EN = 1 ∧
      Holds t (queueStart 0 sq 0 0 t.hif.admSq 1 0 ++ queueStart 1 cq 1 0 t.hif.admCq 1 0) ∧
      t.hif.admSq % 4096 = 0 ∧ t.hif.admCq % 4096 = 0) ∧
  (∀ (addr val : BitVec 32) (r : Reg) (ix : List Nat) (s : State), s.m.hostUp = true →
    regAt (addr.toNat / 4 * 4) = some (r, ix) → (r.flds.any fun F => F.acc == .rwh) = true →
    let a := addr.toNat / 4 * 4
    (s.isOpen = true → s.m.dev = .full → rwhBad a val.toNat = false → rwhVoid a val.toNat = false →
      Becomes (.rwhWrite addr val) s ((s.m.at_ (s.m.stitch + 1) (.rwh a val.toNat)).setDirty (rgnOf a) true)) ∧
    (s.isOpen = false ∨ s.m.dev ≠ .full → Gives (.rwhWrite addr val) s fun t =>
      t.hif.changes = s.m.hif.changes ∧ t.smp = s.m.smp ∧ t.tb = s.m.tb ∧ t.rd HOOP_STAT_DIRTY = s.m.rd HOOP_STAT_DIRTY)) ∧
  (∀ (n : Fin 64) (s : State), s.m.hostUp = true →
    Becomes (.readClear .pf0Bar0 (.ofNat 32 (0x200008 + 64 * n.val))) s
      ((s.m.wr TIL_CH_OVR_CNT_OVR_BLOCKS [n.val] 0).emit
        (.reg (0x200008 + 64 * n.val) (s.m.rd TIL_CH_OVR_CNT_OVR_BLOCKS [n.val])))) ∧
  (∀ s : State, s.m.hostUp = true → ∃ t u, exec (.shadowLatchRead .pf0Bar0 0x400020) s = .next t ∧ s.keeps t ∧
    t.m.out = s.m.out ++ [.reg 0x400020 (s.m.dtime % 2 ^ 32)] ∧ exec (.readClear .pf0Bar0 0x400024) t = .next u ∧
    u.m.out = t.m.out ++ [.reg 0x400024 (s.m.dtime / 2 ^ 32)]) ∧
  (∀ (off : BitVec 32) (s : State), off.toNat < 0xA00000 → Becomes (.smbusRead off) s (s.m.emit (.smbus 0))) ∧
  (∀ (val : BitVec 32) (s : State), s.m.hostUp = true → s.m.rd TIL_TAB_ADDR_SRC = 1 → s.m.on TIL_TAB_ADDR_AUTOINC = true →
    Gives (.tabStageWrite val) s fun t =>
      t.rd TIL_TAB_ADDR_INDEX = (s.m.rd TIL_TAB_ADDR_INDEX + 1) % 2 ^ TIL_TAB_ADDR_INDEX.width ∧
      (tget {} t.smp.staging (s.m.rd TIL_TAB_ADDR_INDEX)).bp = sext 16 (bits val.toNat 0 16))

/-! ### DMA and the Hoop -/

/-- R331, R332, R356–R358, R362, R364, R367, R368, R371, R372: a valid doorbell moves the tail; the entry at the head is
taken, refused or read again; a unit advances the channel whose turn it is, a plain copy to host memory writes the bytes it read
with the descriptor's RO, and a read of host memory carries its NS (R335, R359); a finished descriptor leaves its entry; PAUSE holds a channel and its end lets it go on. -/
def Obligations.DmaEvents : Prop :=
  (∀ (k : Fin 32) (v : BitVec 32) (s : State), s.m.hostUp = true →
    if s.m.on DMA_CH_CFG_BOUND [k.val] && dbForward (s.m.dmaSize k) (s.m.dmaHead k) (s.m.dmaTail k) (v.toNat % 4096) then
      Gives (.dmaDoorbellWrite k v) s fun t => t.dmaTail k = v.toNat % 4096 ∧ t.dmaHead k = s.m.dmaHead k ∧
        t.dch k = { s.m.dch k with stalled := false } ∧ t.rd DMA_CH_STAT_FAULT [k.val] = 0 ∧
        t.dmaSt k = if s.m.dmaSt k = dsPausing then dsPausing else t.dmaRest k
    else Gives (.dmaDoorbellWrite k v) s fun t => Sets s.m t [(HIF_DB_ERR_COUNT, [], s.m.oneMore HIF_DB_ERR_COUNT [])]) ∧
  (∀ (k : Fin 32) (ws : List (BitVec 64)) (s : State), let w := ws.map BitVec.toNat
    (s.m.dmaFetches k = false → Becomes (.dmaDescriptorFetch k ws) s s.m) ∧
    (s.m.dmaFetches k = true → bits (w.getD 0 0) 48 16 ≠ (s.m.dch k).seq → (s.m.dch k).rereads < 4 →
      Becomes (.dmaDescriptorFetch k ws) s ((s.m.emit (.read (s.m.rd DMA_CH_RING [k.val] + 64 * s.m.dmaHead k) 64 1 false)).setDch k
        { s.m.dch k with rereads := (s.m.dch k).rereads + 1 })) ∧
    (s.m.dmaFetches k = true → bits (w.getD 0 0) 48 16 = (s.m.dch k).seq →
      match s.m.descRefusal k w with
      | none => Gives (.dmaDescriptorFetch k ws) s fun t => (t.dch k).desc = some w ∧ (t.dch k).pos = 0 ∧
          (t.dch k).seq = (s.m.dch k).seq ∧ t.dmaSt k = dsRunning ∧ t.dmaHead k = s.m.dmaHead k
      | some st => Gives (.dmaDescriptorFetch k ws) s fun t => (t.dch k).desc = (s.m.dch k).desc ∧
          t.dmaHead k = (s.m.dmaHead k + 1) % s.m.dmaSize k % 2 ^ 12 ∧ t.rd DMA_CH_STAT_FAULT [k.val] = st % 2 ^ 16)) ∧
  (∀ (k : Fin 32) (data : List (BitVec 8)) (unc : List Nat) (s : State), s.m.dmaTurn ≠ some k.val →
    Becomes (.dmaTransferUnit k data unc) s s.m) ∧
  (∀ (k : Fin 32) (data : List (BitVec 8)) (unc : List Nat) (s : State) (w : List Nat), s.m.dmaTurn = some k.val →
    (s.m.dch k).desc = some w → dSlot w = false → let c := s.m.dch k
    let n := min 4096 (dLen w - c.pos)
    (dSrcDram w = true → s.dmaBad unc (dSrc w + c.pos) n = none) →
    Gives (.dmaTransferUnit k data unc) s fun t => (t.dch k).pos = c.pos + n ∧ t.dma.last = k.val ∧
      (dShuf w = 0 → dConv w = 0 → dSrcDram w = true → dDstDram w = false → c.bits = 0 → c.held = 0 →
        (s.bytes (dSrc w + c.pos) n).length = n →
        ∃ l, t.out = s.m.out ++ .host (dDst w + c.wr) (s.bytes (dSrc w + c.pos) n) 3 (bit (w.getD 0 0) 11) (.dma k) :: l) ∧
      (dSrcDram w = false →
        ∃ l, t.out = s.m.out ++ .read (dSrc w + c.pos) n 3 (bit (w.getD 0 0) 10) :: l)) ∧
  (∀ (k : Fin 32) (s : State) (w : List Nat), (s.m.dch k).desc = some w → s.m.dmaHalted = false →
    dTotal w ≤ (s.m.dch k).pos → (dDstDram w = true → ∀ r ∈ s.m.mem.queue, r.src ≠ .dma k.val) →
    Gives (.descDone k) s fun t => (t.dch k).desc = none ∧ (t.dch k).seq = ((s.m.dch k).seq + 1) % 65536 ∧
      t.dmaHead k = (s.m.dmaHead k + 1) % s.m.dmaSize k % 2 ^ 12 ∧
      t.rd DMA_CH_CNT_DONE [k.val] = s.m.oneMore DMA_CH_CNT_DONE [k.val]) ∧
  (∀ (k : Fin 32) (s : State), Gives (.dmaPause k) s fun t => Sets s.m t [(DMA_CH_CTL_PAUSE, [k.val], 1),
    (DMA_CH_STAT_STATE, [k.val], if s.m.dmaSt k = dsRunning ∨ s.m.dmaSt k = dsIdle then dsPausing else s.m.dmaSt k)]) ∧
  (∀ (k : Fin 32) (s : State), if s.m.dmaSt k = dsPausing then
      Gives (.dmaPaused k) s fun t => t.dmaSt k = dsPaused ∧ t.dma = s.m.dma
    else Becomes (.dmaPaused k) s s.m) ∧
  (∀ (k : Fin 32) (s : State), Gives (.dmaResume k) s fun t => Sets s.m t [(DMA_CH_CTL_PAUSE, [k.val], 0),
    (DMA_CH_STAT_STATE, [k.val], if s.m.on DMA_CH_STAT_MEM_PAUSE [k.val] then s.m.dmaSt k else t.dmaRest k)])

/-- A transition of the seal by an event: the queue and record memory stay, the state is the new one, and a fuse step burns
where one is left (R394). -/
def Sys2Proof.Machine.Moves (c : Instr) (s : State) (dest : SealSt) : Prop :=
  ∃ t, exec c s = .next t ∧ t.pending = s.pending ∧ t.dram = s.dram ∧ t.hoopSeal.st = dest ∧ t.hoopSeal.gf = s.hoopSeal.gf ∧
    (dest = .broken → t.hoopSeal.cause = 4 ∧ t.hoopSeal.brokenInterval = true) ∧
    t.hoopSeal.fuseUsed = s.hoopSeal.fuseUsed + (if s.hoopSeal.left = 0 then 0 else 1) ∧ t.m.hoop.unflushed = 0

/-- R380–R385, R387, R390, R394: nothing but the rows of Table 13.2 (with the resets, starts and boundaries that carry one
out) changes the seal; what a strap edge does; a lapsed unseal; the record of one region of a commit; the flush; and a command
refused with SEALED is logged and counted. -/
def Obligations.SealIsMovedByItsRows : Prop :=
  (∀ (c : Instr) (s t : State), sealMovers c = false → exec c s = .next t → t.hoopSeal = s.hoopSeal) ∧
  (∀ (high : Bool) (s : State), s.m.dev ≠ .retention → s.hoopSeal.gf = true ∨ s.m.on HOOP_STAT_STRAP = high →
    Becomes (.hoopStrapChange high) s s.m) ∧
  (∀ s : State, s.m.dev ≠ .retention → s.hoopSeal.gf = false → s.m.on HOOP_STAT_STRAP = true → s.hoopSeal.st = .sealed →
    Moves (.hoopStrapChange false) s (if s.m.on HOOP_STAT_UNSEAL_PEND then .opened else .broken)) ∧
  (∀ s : State, s.m.dev ≠ .retention → s.hoopSeal.gf = false → s.m.on HOOP_STAT_STRAP = true → s.hoopSeal.st = .broken →
    s.m.on HOOP_STAT_UNSEAL_PEND = true → Moves (.hoopStrapChange false) s .opened) ∧
  (∀ s : State, s.m.dev ≠ .retention → s.hoopSeal.gf = false → s.m.on HOOP_STAT_STRAP = false → s.hoopSeal.st = .opened →
    s.m.committing = false → s.m.dirtyRgns = [] → Moves (.hoopStrapChange true) s .sealed) ∧
  (∀ (high : Bool) (s : State), s.m.dev = .retention → s.hoopSeal.gf = false → Becomes (.hoopStrapChange high) s
    { s.m with hoop := { s.m.hoop with latched := s.m.hoop.latched ++ [(high, s.m.dtime)] } }) ∧
  (∀ s : State, if s.m.on HOOP_STAT_UNSEAL_PEND then
      Gives .unsealLapsed s fun t => Sets s.m t [(HOOP_STAT_UNSEAL_PEND, [], 0)]
    else Becomes .unsealLapsed s s.m) ∧
  (∀ (s : State) (c : Commit) (rest : List Commit) (r r' : Nat) (rs : List Nat), s.m.hoop.commits = c :: rest →
    c.regions = r :: r' :: rs → c.op ≠ 0x80 → (∀ x ∈ s.m.hif.changes, rwhOf r x = false) →
    Gives .changeDone s fun t => t.hoop.commits = { c with regions := r' :: rs } :: rest ∧ t.dirty r = false ∧
      t.hoop.unflushed = 0 ∧ (s.m.logUsed < 8192 → ∃ e, t.hoop.log = s.m.hoop.log ++ [e])) ∧
  (∀ s : State, s.m.hoop.commits = [] → Becomes .changeDone s s.m) ∧
  (∀ s : State, Gives .auditFlush s fun t => t.hoop.unflushed = 0) ∧
  (∀ (ci : CmdInfo) (own : HostCmd → State → Option Nat) (eff : HostCmd → Nat → State → State) (h : HostCmd) (s : State),
    s.m.hostUp = true → submissionQ h.q = true →
    (commonRefusal ci h s.m = some SEALED ∨ commonRefusal ci h s.m = none ∧ own h s = some SEALED) →
    let t := runCmd ci own eff h s
    s.keeps t ∧ Completes s.m t.m h SEALED 0 ∧ t.m.hif.changes = s.m.hif.changes ∧
      (∃ l, t.m.flt.pend = s.m.flt.pend ++ l ∧ ⟨51, 1, 0⟩ ∈ l) ∧
      (s.m.logUsed < 8192 → ∃ e, t.m.hoop.log = s.m.hoop.log ++ [e]))

/-- R2: on an LQ6420-GF no command leads into SEALED, and a request to seal that no check of R352 turns away completes with
WRONG_STATE, moves nothing, and is recorded as a REFUSED entry with the opcode and the count 1 (R385, Table 13.3). -/
def Obligations.GfIsNeverSealed : Prop :=
  (∀ (c : Instr) (s t : State), s.hoopSeal.gf = true → s.hoopSeal.st ≠ .sealed → exec c s = .next t →
    t.hoopSeal.gf = true ∧ t.hoopSeal.st ≠ .sealed) ∧
  (∀ (h : HostCmd) (s : State), s.hoopSeal.gf = true → submissionQ h.q = true → commonRefusal ciHoopSeal h s.m = none →
    ∃ t, exec (.hoopSeal h) s = .next t ∧ s.keeps t ∧ Completes s.m t.m h WRONG_STATE 0 ∧
      (s.m.logUsed < 8192 → ∃ w0, t.m.hoop.log = s.m.hoop.log ++ [[w0, s.m.dtime % 2 ^ 64, 0xB1, 1]] ∧ w0 % 16 = auRefused))
end

