-- ==== Sys2Proof/Laws/State.lean ====
section
/-! SUPPORT. What each plain update of the state does to each field, by unfolding. -/
namespace Sys2Proof.Machine
open Sys2Proof

@[simp] theorem State.upd_pending (s : State) (f : Mach → Mach) : (s.upd f).pending = s.pending := rfl
@[simp] theorem State.upd_hoopSeal (s : State) (f : Mach → Mach) : (s.upd f).hoopSeal = s.hoopSeal := rfl
@[simp] theorem State.upd_dram (s : State) (f : Mach → Mach) : (s.upd f).dram = s.dram := rfl
@[simp] theorem State.upd_m (s : State) (f : Mach → Mach) : (s.upd f).m = f s.m := rfl
@[simp] theorem lift_pending (f : HostCmd → Nat → State → Mach) (h : HostCmd) (d : Nat) (s : State) :
    (lift f h d s).pending = s.pending := rfl
@[simp] theorem lift_hoopSeal (f : HostCmd → Nat → State → Mach) (h : HostCmd) (d : Nat) (s : State) :
    (lift f h d s).hoopSeal = s.hoopSeal := rfl
@[simp] theorem lift_dram (f : HostCmd → Nat → State → Mach) (h : HostCmd) (d : Nat) (s : State) :
    (lift f h d s).dram = s.dram := rfl
@[simp] theorem lift_m (f : HostCmd → Nat → State → Mach) (h : HostCmd) (d : Nat) (s : State) :
    (lift f h d s).m = f h d s := rfl

@[simp] theorem Mach.wr_smp (m : Mach) (F : Fld) (ix : List Nat) (v : Nat) : (m.wr F ix v).smp = m.smp := rfl
@[simp] theorem Mach.wr_tb (m : Mach) (F : Fld) (ix : List Nat) (v : Nat) : (m.wr F ix v).tb = m.tb := rfl
@[simp] theorem Mach.wr_trg (m : Mach) (F : Fld) (ix : List Nat) (v : Nat) : (m.wr F ix v).trg = m.trg := rfl
@[simp] theorem Mach.wr_cap (m : Mach) (F : Fld) (ix : List Nat) (v : Nat) : (m.wr F ix v).cap = m.cap := rfl
@[simp] theorem Mach.wr_acc (m : Mach) (F : Fld) (ix : List Nat) (v : Nat) : (m.wr F ix v).acc = m.acc := rfl
@[simp] theorem Mach.wr_log (m : Mach) (F : Fld) (ix : List Nat) (v : Nat) : (m.wr F ix v).log = m.log := rfl
@[simp] theorem Mach.wr_gen (m : Mach) (F : Fld) (ix : List Nat) (v : Nat) : (m.wr F ix v).gen = m.gen := rfl
@[simp] theorem Mach.wr_hif (m : Mach) (F : Fld) (ix : List Nat) (v : Nat) : (m.wr F ix v).hif = m.hif := rfl
@[simp] theorem Mach.wr_dma (m : Mach) (F : Fld) (ix : List Nat) (v : Nat) : (m.wr F ix v).dma = m.dma := rfl
@[simp] theorem Mach.wr_mem (m : Mach) (F : Fld) (ix : List Nat) (v : Nat) : (m.wr F ix v).mem = m.mem := rfl
@[simp] theorem Mach.wr_flt (m : Mach) (F : Fld) (ix : List Nat) (v : Nat) : (m.wr F ix v).flt = m.flt := rfl
@[simp] theorem Mach.wr_hk (m : Mach) (F : Fld) (ix : List Nat) (v : Nat) : (m.wr F ix v).hk = m.hk := rfl
@[simp] theorem Mach.wr_hoop (m : Mach) (F : Fld) (ix : List Nat) (v : Nat) : (m.wr F ix v).hoop = m.hoop := rfl
@[simp] theorem Mach.wr_pair (m : Mach) (F : Fld) (ix : List Nat) (v : Nat) : (m.wr F ix v).pair = m.pair := rfl
@[simp] theorem Mach.wr_boot (m : Mach) (F : Fld) (ix : List Nat) (v : Nat) : (m.wr F ix v).boot = m.boot := rfl
@[simp] theorem Mach.wr_out (m : Mach) (F : Fld) (ix : List Nat) (v : Nat) : (m.wr F ix v).out = m.out := rfl
@[simp] theorem Mach.wr_freeCtr (m : Mach) (F : Fld) (ix : List Nat) (v : Nat) : (m.wr F ix v).freeCtr = m.freeCtr := rfl

@[simp] theorem Mach.emit_regs (m : Mach) (o : Out) : (m.emit o).regs = m.regs := rfl
@[simp] theorem Mach.emit_smp (m : Mach) (o : Out) : (m.emit o).smp = m.smp := rfl
@[simp] theorem Mach.emit_tb (m : Mach) (o : Out) : (m.emit o).tb = m.tb := rfl
@[simp] theorem Mach.emit_trg (m : Mach) (o : Out) : (m.emit o).trg = m.trg := rfl
@[simp] theorem Mach.emit_cap (m : Mach) (o : Out) : (m.emit o).cap = m.cap := rfl
@[simp] theorem Mach.emit_acc (m : Mach) (o : Out) : (m.emit o).acc = m.acc := rfl
@[simp] theorem Mach.emit_log (m : Mach) (o : Out) : (m.emit o).log = m.log := rfl
@[simp] theorem Mach.emit_gen (m : Mach) (o : Out) : (m.emit o).gen = m.gen := rfl
@[simp] theorem Mach.emit_hif (m : Mach) (o : Out) : (m.emit o).hif = m.hif := rfl
@[simp] theorem Mach.emit_dma (m : Mach) (o : Out) : (m.emit o).dma = m.dma := rfl
@[simp] theorem Mach.emit_mem (m : Mach) (o : Out) : (m.emit o).mem = m.mem := rfl
@[simp] theorem Mach.emit_flt (m : Mach) (o : Out) : (m.emit o).flt = m.flt := rfl
@[simp] theorem Mach.emit_hk (m : Mach) (o : Out) : (m.emit o).hk = m.hk := rfl
@[simp] theorem Mach.emit_hoop (m : Mach) (o : Out) : (m.emit o).hoop = m.hoop := rfl
@[simp] theorem Mach.emit_pair (m : Mach) (o : Out) : (m.emit o).pair = m.pair := rfl
@[simp] theorem Mach.emit_boot (m : Mach) (o : Out) : (m.emit o).boot = m.boot := rfl
@[simp] theorem Mach.emit_freeCtr (m : Mach) (o : Out) : (m.emit o).freeCtr = m.freeCtr := rfl

@[simp] theorem Mach.faultN_regs (m : Mach) (src n inst : Nat) : (m.faultN src n inst).regs = m.regs := rfl
@[simp] theorem Mach.faultN_smp (m : Mach) (src n inst : Nat) : (m.faultN src n inst).smp = m.smp := rfl
@[simp] theorem Mach.faultN_tb (m : Mach) (src n inst : Nat) : (m.faultN src n inst).tb = m.tb := rfl
@[simp] theorem Mach.faultN_trg (m : Mach) (src n inst : Nat) : (m.faultN src n inst).trg = m.trg := rfl
@[simp] theorem Mach.faultN_cap (m : Mach) (src n inst : Nat) : (m.faultN src n inst).cap = m.cap := rfl
@[simp] theorem Mach.faultN_acc (m : Mach) (src n inst : Nat) : (m.faultN src n inst).acc = m.acc := rfl
@[simp] theorem Mach.faultN_log (m : Mach) (src n inst : Nat) : (m.faultN src n inst).log = m.log := rfl
@[simp] theorem Mach.faultN_gen (m : Mach) (src n inst : Nat) : (m.faultN src n inst).gen = m.gen := rfl
@[simp] theorem Mach.faultN_hif (m : Mach) (src n inst : Nat) : (m.faultN src n inst).hif = m.hif := rfl
@[simp] theorem Mach.faultN_dma (m : Mach) (src n inst : Nat) : (m.faultN src n inst).dma = m.dma := rfl
@[simp] theorem Mach.faultN_mem (m : Mach) (src n inst : Nat) : (m.faultN src n inst).mem = m.mem := rfl
@[simp] theorem Mach.faultN_hk (m : Mach) (src n inst : Nat) : (m.faultN src n inst).hk = m.hk := rfl
@[simp] theorem Mach.faultN_hoop (m : Mach) (src n inst : Nat) : (m.faultN src n inst).hoop = m.hoop := rfl
@[simp] theorem Mach.faultN_pair (m : Mach) (src n inst : Nat) : (m.faultN src n inst).pair = m.pair := rfl
@[simp] theorem Mach.faultN_boot (m : Mach) (src n inst : Nat) : (m.faultN src n inst).boot = m.boot := rfl
@[simp] theorem Mach.faultN_out (m : Mach) (src n inst : Nat) : (m.faultN src n inst).out = m.out := rfl
@[simp] theorem Mach.faultN_freeCtr (m : Mach) (src n inst : Nat) : (m.faultN src n inst).freeCtr = m.freeCtr := rfl

@[simp] theorem Mach.fault_regs (m : Mach) (src inst : Nat) : (m.fault src inst).regs = m.regs := rfl
@[simp] theorem Mach.fault_smp (m : Mach) (src inst : Nat) : (m.fault src inst).smp = m.smp := rfl
@[simp] theorem Mach.fault_tb (m : Mach) (src inst : Nat) : (m.fault src inst).tb = m.tb := rfl
@[simp] theorem Mach.fault_trg (m : Mach) (src inst : Nat) : (m.fault src inst).trg = m.trg := rfl
@[simp] theorem Mach.fault_cap (m : Mach) (src inst : Nat) : (m.fault src inst).cap = m.cap := rfl
@[simp] theorem Mach.fault_acc (m : Mach) (src inst : Nat) : (m.fault src inst).acc = m.acc := rfl
@[simp] theorem Mach.fault_log (m : Mach) (src inst : Nat) : (m.fault src inst).log = m.log := rfl
@[simp] theorem Mach.fault_gen (m : Mach) (src inst : Nat) : (m.fault src inst).gen = m.gen := rfl
@[simp] theorem Mach.fault_hif (m : Mach) (src inst : Nat) : (m.fault src inst).hif = m.hif := rfl
@[simp] theorem Mach.fault_dma (m : Mach) (src inst : Nat) : (m.fault src inst).dma = m.dma := rfl
@[simp] theorem Mach.fault_mem (m : Mach) (src inst : Nat) : (m.fault src inst).mem = m.mem := rfl
@[simp] theorem Mach.fault_hk (m : Mach) (src inst : Nat) : (m.fault src inst).hk = m.hk := rfl
@[simp] theorem Mach.fault_hoop (m : Mach) (src inst : Nat) : (m.fault src inst).hoop = m.hoop := rfl
@[simp] theorem Mach.fault_pair (m : Mach) (src inst : Nat) : (m.fault src inst).pair = m.pair := rfl
@[simp] theorem Mach.fault_boot (m : Mach) (src inst : Nat) : (m.fault src inst).boot = m.boot := rfl
@[simp] theorem Mach.fault_out (m : Mach) (src inst : Nat) : (m.fault src inst).out = m.out := rfl
@[simp] theorem Mach.fault_freeCtr (m : Mach) (src inst : Nat) : (m.fault src inst).freeCtr = m.freeCtr := rfl

@[simp] theorem Mach.setQst_regs (m : Mach) (q : Nat) (v : QSt) : (m.setQst q v).regs = m.regs := rfl
@[simp] theorem Mach.setQst_smp (m : Mach) (q : Nat) (v : QSt) : (m.setQst q v).smp = m.smp := rfl
@[simp] theorem Mach.setQst_tb (m : Mach) (q : Nat) (v : QSt) : (m.setQst q v).tb = m.tb := rfl
@[simp] theorem Mach.setQst_trg (m : Mach) (q : Nat) (v : QSt) : (m.setQst q v).trg = m.trg := rfl
@[simp] theorem Mach.setQst_cap (m : Mach) (q : Nat) (v : QSt) : (m.setQst q v).cap = m.cap := rfl
@[simp] theorem Mach.setQst_acc (m : Mach) (q : Nat) (v : QSt) : (m.setQst q v).acc = m.acc := rfl
@[simp] theorem Mach.setQst_log (m : Mach) (q : Nat) (v : QSt) : (m.setQst q v).log = m.log := rfl
@[simp] theorem Mach.setQst_gen (m : Mach) (q : Nat) (v : QSt) : (m.setQst q v).gen = m.gen := rfl
@[simp] theorem Mach.setQst_dma (m : Mach) (q : Nat) (v : QSt) : (m.setQst q v).dma = m.dma := rfl
@[simp] theorem Mach.setQst_mem (m : Mach) (q : Nat) (v : QSt) : (m.setQst q v).mem = m.mem := rfl
@[simp] theorem Mach.setQst_flt (m : Mach) (q : Nat) (v : QSt) : (m.setQst q v).flt = m.flt := rfl
@[simp] theorem Mach.setQst_hk (m : Mach) (q : Nat) (v : QSt) : (m.setQst q v).hk = m.hk := rfl
@[simp] theorem Mach.setQst_hoop (m : Mach) (q : Nat) (v : QSt) : (m.setQst q v).hoop = m.hoop := rfl
@[simp] theorem Mach.setQst_pair (m : Mach) (q : Nat) (v : QSt) : (m.setQst q v).pair = m.pair := rfl
@[simp] theorem Mach.setQst_boot (m : Mach) (q : Nat) (v : QSt) : (m.setQst q v).boot = m.boot := rfl
@[simp] theorem Mach.setQst_out (m : Mach) (q : Nat) (v : QSt) : (m.setQst q v).out = m.out := rfl
@[simp] theorem Mach.setQst_freeCtr (m : Mach) (q : Nat) (v : QSt) : (m.setQst q v).freeCtr = m.freeCtr := rfl

@[simp] theorem Mach.wait_regs (m : Mach) (op : Nat) (h : HostCmd) (a : Nat) : (m.wait op h a).regs = m.regs := rfl
@[simp] theorem Mach.wait_smp (m : Mach) (op : Nat) (h : HostCmd) (a : Nat) : (m.wait op h a).smp = m.smp := rfl
@[simp] theorem Mach.wait_tb (m : Mach) (op : Nat) (h : HostCmd) (a : Nat) : (m.wait op h a).tb = m.tb := rfl
@[simp] theorem Mach.wait_trg (m : Mach) (op : Nat) (h : HostCmd) (a : Nat) : (m.wait op h a).trg = m.trg := rfl
@[simp] theorem Mach.wait_cap (m : Mach) (op : Nat) (h : HostCmd) (a : Nat) : (m.wait op h a).cap = m.cap := rfl
@[simp] theorem Mach.wait_acc (m : Mach) (op : Nat) (h : HostCmd) (a : Nat) : (m.wait op h a).acc = m.acc := rfl
@[simp] theorem Mach.wait_log (m : Mach) (op : Nat) (h : HostCmd) (a : Nat) : (m.wait op h a).log = m.log := rfl
@[simp] theorem Mach.wait_gen (m : Mach) (op : Nat) (h : HostCmd) (a : Nat) : (m.wait op h a).gen = m.gen := rfl
@[simp] theorem Mach.wait_dma (m : Mach) (op : Nat) (h : HostCmd) (a : Nat) : (m.wait op h a).dma = m.dma := rfl
@[simp] theorem Mach.wait_mem (m : Mach) (op : Nat) (h : HostCmd) (a : Nat) : (m.wait op h a).mem = m.mem := rfl
@[simp] theorem Mach.wait_flt (m : Mach) (op : Nat) (h : HostCmd) (a : Nat) : (m.wait op h a).flt = m.flt := rfl
@[simp] theorem Mach.wait_hk (m : Mach) (op : Nat) (h : HostCmd) (a : Nat) : (m.wait op h a).hk = m.hk := rfl
@[simp] theorem Mach.wait_hoop (m : Mach) (op : Nat) (h : HostCmd) (a : Nat) : (m.wait op h a).hoop = m.hoop := rfl
@[simp] theorem Mach.wait_pair (m : Mach) (op : Nat) (h : HostCmd) (a : Nat) : (m.wait op h a).pair = m.pair := rfl
@[simp] theorem Mach.wait_boot (m : Mach) (op : Nat) (h : HostCmd) (a : Nat) : (m.wait op h a).boot = m.boot := rfl
@[simp] theorem Mach.wait_out (m : Mach) (op : Nat) (h : HostCmd) (a : Nat) : (m.wait op h a).out = m.out := rfl
@[simp] theorem Mach.wait_freeCtr (m : Mach) (op : Nat) (h : HostCmd) (a : Nat) : (m.wait op h a).freeCtr = m.freeCtr := rfl

@[simp] theorem Mach.unwait_regs (m : Mach) (op tgt : Nat) : (m.unwait op tgt).regs = m.regs := rfl
@[simp] theorem Mach.unwait_smp (m : Mach) (op tgt : Nat) : (m.unwait op tgt).smp = m.smp := rfl
@[simp] theorem Mach.unwait_tb (m : Mach) (op tgt : Nat) : (m.unwait op tgt).tb = m.tb := rfl
@[simp] theorem Mach.unwait_trg (m : Mach) (op tgt : Nat) : (m.unwait op tgt).trg = m.trg := rfl
@[simp] theorem Mach.unwait_cap (m : Mach) (op tgt : Nat) : (m.unwait op tgt).cap = m.cap := rfl
@[simp] theorem Mach.unwait_acc (m : Mach) (op tgt : Nat) : (m.unwait op tgt).acc = m.acc := rfl
@[simp] theorem Mach.unwait_log (m : Mach) (op tgt : Nat) : (m.unwait op tgt).log = m.log := rfl
@[simp] theorem Mach.unwait_gen (m : Mach) (op tgt : Nat) : (m.unwait op tgt).gen = m.gen := rfl
@[simp] theorem Mach.unwait_dma (m : Mach) (op tgt : Nat) : (m.unwait op tgt).dma = m.dma := rfl
@[simp] theorem Mach.unwait_mem (m : Mach) (op tgt : Nat) : (m.unwait op tgt).mem = m.mem := rfl
@[simp] theorem Mach.unwait_flt (m : Mach) (op tgt : Nat) : (m.unwait op tgt).flt = m.flt := rfl
@[simp] theorem Mach.unwait_hk (m : Mach) (op tgt : Nat) : (m.unwait op tgt).hk = m.hk := rfl
@[simp] theorem Mach.unwait_hoop (m : Mach) (op tgt : Nat) : (m.unwait op tgt).hoop = m.hoop := rfl
@[simp] theorem Mach.unwait_pair (m : Mach) (op tgt : Nat) : (m.unwait op tgt).pair = m.pair := rfl
@[simp] theorem Mach.unwait_boot (m : Mach) (op tgt : Nat) : (m.unwait op tgt).boot = m.boot := rfl
@[simp] theorem Mach.unwait_out (m : Mach) (op tgt : Nat) : (m.unwait op tgt).out = m.out := rfl
@[simp] theorem Mach.unwait_freeCtr (m : Mach) (op tgt : Nat) : (m.unwait op tgt).freeCtr = m.freeCtr := rfl

@[simp] theorem Mach.atStitch_regs (m : Mach) (due : Nat) (c : Change) : (m.at_ due c).regs = m.regs := rfl
@[simp] theorem Mach.atStitch_smp (m : Mach) (due : Nat) (c : Change) : (m.at_ due c).smp = m.smp := rfl
@[simp] theorem Mach.atStitch_tb (m : Mach) (due : Nat) (c : Change) : (m.at_ due c).tb = m.tb := rfl
@[simp] theorem Mach.atStitch_trg (m : Mach) (due : Nat) (c : Change) : (m.at_ due c).trg = m.trg := rfl
@[simp] theorem Mach.atStitch_cap (m : Mach) (due : Nat) (c : Change) : (m.at_ due c).cap = m.cap := rfl
@[simp] theorem Mach.atStitch_acc (m : Mach) (due : Nat) (c : Change) : (m.at_ due c).acc = m.acc := rfl
@[simp] theorem Mach.atStitch_log (m : Mach) (due : Nat) (c : Change) : (m.at_ due c).log = m.log := rfl
@[simp] theorem Mach.atStitch_gen (m : Mach) (due : Nat) (c : Change) : (m.at_ due c).gen = m.gen := rfl
@[simp] theorem Mach.atStitch_dma (m : Mach) (due : Nat) (c : Change) : (m.at_ due c).dma = m.dma := rfl
@[simp] theorem Mach.atStitch_mem (m : Mach) (due : Nat) (c : Change) : (m.at_ due c).mem = m.mem := rfl
@[simp] theorem Mach.atStitch_flt (m : Mach) (due : Nat) (c : Change) : (m.at_ due c).flt = m.flt := rfl
@[simp] theorem Mach.atStitch_hk (m : Mach) (due : Nat) (c : Change) : (m.at_ due c).hk = m.hk := rfl
@[simp] theorem Mach.atStitch_hoop (m : Mach) (due : Nat) (c : Change) : (m.at_ due c).hoop = m.hoop := rfl
@[simp] theorem Mach.atStitch_pair (m : Mach) (due : Nat) (c : Change) : (m.at_ due c).pair = m.pair := rfl
@[simp] theorem Mach.atStitch_boot (m : Mach) (due : Nat) (c : Change) : (m.at_ due c).boot = m.boot := rfl
@[simp] theorem Mach.atStitch_out (m : Mach) (due : Nat) (c : Change) : (m.at_ due c).out = m.out := rfl
@[simp] theorem Mach.atStitch_freeCtr (m : Mach) (due : Nat) (c : Change) : (m.at_ due c).freeCtr = m.freeCtr := rfl

@[simp] theorem Mach.pin_regs (m : Mach) (p : Pin) (l : Nat) : (m.pin p l).regs = m.regs := rfl
@[simp] theorem Mach.pin_smp (m : Mach) (p : Pin) (l : Nat) : (m.pin p l).smp = m.smp := rfl
@[simp] theorem Mach.pin_tb (m : Mach) (p : Pin) (l : Nat) : (m.pin p l).tb = m.tb := rfl
@[simp] theorem Mach.pin_trg (m : Mach) (p : Pin) (l : Nat) : (m.pin p l).trg = m.trg := rfl
@[simp] theorem Mach.pin_cap (m : Mach) (p : Pin) (l : Nat) : (m.pin p l).cap = m.cap := rfl
@[simp] theorem Mach.pin_acc (m : Mach) (p : Pin) (l : Nat) : (m.pin p l).acc = m.acc := rfl
@[simp] theorem Mach.pin_log (m : Mach) (p : Pin) (l : Nat) : (m.pin p l).log = m.log := rfl
@[simp] theorem Mach.pin_gen (m : Mach) (p : Pin) (l : Nat) : (m.pin p l).gen = m.gen := rfl
@[simp] theorem Mach.pin_hif (m : Mach) (p : Pin) (l : Nat) : (m.pin p l).hif = m.hif := rfl
@[simp] theorem Mach.pin_dma (m : Mach) (p : Pin) (l : Nat) : (m.pin p l).dma = m.dma := rfl
@[simp] theorem Mach.pin_mem (m : Mach) (p : Pin) (l : Nat) : (m.pin p l).mem = m.mem := rfl
@[simp] theorem Mach.pin_flt (m : Mach) (p : Pin) (l : Nat) : (m.pin p l).flt = m.flt := rfl
@[simp] theorem Mach.pin_hk (m : Mach) (p : Pin) (l : Nat) : (m.pin p l).hk = m.hk := rfl
@[simp] theorem Mach.pin_hoop (m : Mach) (p : Pin) (l : Nat) : (m.pin p l).hoop = m.hoop := rfl
@[simp] theorem Mach.pin_pair (m : Mach) (p : Pin) (l : Nat) : (m.pin p l).pair = m.pair := rfl
@[simp] theorem Mach.pin_boot (m : Mach) (p : Pin) (l : Nat) : (m.pin p l).boot = m.boot := rfl
@[simp] theorem Mach.pin_freeCtr (m : Mach) (p : Pin) (l : Nat) : (m.pin p l).freeCtr = m.freeCtr := rfl

@[simp] theorem Mach.wb_smp (m : Mach) (F : Fld) (ix : List Nat) (b : Bool) : (m.wb F ix b).smp = m.smp := rfl
@[simp] theorem Mach.wb_tb (m : Mach) (F : Fld) (ix : List Nat) (b : Bool) : (m.wb F ix b).tb = m.tb := rfl
@[simp] theorem Mach.wb_trg (m : Mach) (F : Fld) (ix : List Nat) (b : Bool) : (m.wb F ix b).trg = m.trg := rfl
@[simp] theorem Mach.wb_cap (m : Mach) (F : Fld) (ix : List Nat) (b : Bool) : (m.wb F ix b).cap = m.cap := rfl
@[simp] theorem Mach.wb_acc (m : Mach) (F : Fld) (ix : List Nat) (b : Bool) : (m.wb F ix b).acc = m.acc := rfl
@[simp] theorem Mach.wb_log (m : Mach) (F : Fld) (ix : List Nat) (b : Bool) : (m.wb F ix b).log = m.log := rfl
@[simp] theorem Mach.wb_gen (m : Mach) (F : Fld) (ix : List Nat) (b : Bool) : (m.wb F ix b).gen = m.gen := rfl
@[simp] theorem Mach.wb_hif (m : Mach) (F : Fld) (ix : List Nat) (b : Bool) : (m.wb F ix b).hif = m.hif := rfl
@[simp] theorem Mach.wb_dma (m : Mach) (F : Fld) (ix : List Nat) (b : Bool) : (m.wb F ix b).dma = m.dma := rfl
@[simp] theorem Mach.wb_mem (m : Mach) (F : Fld) (ix : List Nat) (b : Bool) : (m.wb F ix b).mem = m.mem := rfl
@[simp] theorem Mach.wb_flt (m : Mach) (F : Fld) (ix : List Nat) (b : Bool) : (m.wb F ix b).flt = m.flt := rfl
@[simp] theorem Mach.wb_hk (m : Mach) (F : Fld) (ix : List Nat) (b : Bool) : (m.wb F ix b).hk = m.hk := rfl
@[simp] theorem Mach.wb_hoop (m : Mach) (F : Fld) (ix : List Nat) (b : Bool) : (m.wb F ix b).hoop = m.hoop := rfl
@[simp] theorem Mach.wb_pair (m : Mach) (F : Fld) (ix : List Nat) (b : Bool) : (m.wb F ix b).pair = m.pair := rfl
@[simp] theorem Mach.wb_boot (m : Mach) (F : Fld) (ix : List Nat) (b : Bool) : (m.wb F ix b).boot = m.boot := rfl
@[simp] theorem Mach.wb_out (m : Mach) (F : Fld) (ix : List Nat) (b : Bool) : (m.wb F ix b).out = m.out := rfl
@[simp] theorem Mach.wb_freeCtr (m : Mach) (F : Fld) (ix : List Nat) (b : Bool) : (m.wb F ix b).freeCtr = m.freeCtr := rfl

@[simp] theorem Mach.add_smp (m : Mach) (F : Fld) (ix : List Nat) (n : Nat) : (m.add F ix n).smp = m.smp := rfl
@[simp] theorem Mach.add_tb (m : Mach) (F : Fld) (ix : List Nat) (n : Nat) : (m.add F ix n).tb = m.tb := rfl
@[simp] theorem Mach.add_trg (m : Mach) (F : Fld) (ix : List Nat) (n : Nat) : (m.add F ix n).trg = m.trg := rfl
@[simp] theorem Mach.add_cap (m : Mach) (F : Fld) (ix : List Nat) (n : Nat) : (m.add F ix n).cap = m.cap := rfl
@[simp] theorem Mach.add_acc (m : Mach) (F : Fld) (ix : List Nat) (n : Nat) : (m.add F ix n).acc = m.acc := rfl
@[simp] theorem Mach.add_log (m : Mach) (F : Fld) (ix : List Nat) (n : Nat) : (m.add F ix n).log = m.log := rfl
@[simp] theorem Mach.add_gen (m : Mach) (F : Fld) (ix : List Nat) (n : Nat) : (m.add F ix n).gen = m.gen := rfl
@[simp] theorem Mach.add_hif (m : Mach) (F : Fld) (ix : List Nat) (n : Nat) : (m.add F ix n).hif = m.hif := rfl
@[simp] theorem Mach.add_dma (m : Mach) (F : Fld) (ix : List Nat) (n : Nat) : (m.add F ix n).dma = m.dma := rfl
@[simp] theorem Mach.add_mem (m : Mach) (F : Fld) (ix : List Nat) (n : Nat) : (m.add F ix n).mem = m.mem := rfl
@[simp] theorem Mach.add_flt (m : Mach) (F : Fld) (ix : List Nat) (n : Nat) : (m.add F ix n).flt = m.flt := rfl
@[simp] theorem Mach.add_hk (m : Mach) (F : Fld) (ix : List Nat) (n : Nat) : (m.add F ix n).hk = m.hk := rfl
@[simp] theorem Mach.add_hoop (m : Mach) (F : Fld) (ix : List Nat) (n : Nat) : (m.add F ix n).hoop = m.hoop := rfl
@[simp] theorem Mach.add_pair (m : Mach) (F : Fld) (ix : List Nat) (n : Nat) : (m.add F ix n).pair = m.pair := rfl
@[simp] theorem Mach.add_boot (m : Mach) (F : Fld) (ix : List Nat) (n : Nat) : (m.add F ix n).boot = m.boot := rfl
@[simp] theorem Mach.add_out (m : Mach) (F : Fld) (ix : List Nat) (n : Nat) : (m.add F ix n).out = m.out := rfl
@[simp] theorem Mach.add_freeCtr (m : Mach) (F : Fld) (ix : List Nat) (n : Nat) : (m.add F ix n).freeCtr = m.freeCtr := rfl

@[simp] theorem Mach.inc_smp (m : Mach) (F : Fld) (ix : List Nat) : (m.inc F ix).smp = m.smp := rfl
@[simp] theorem Mach.inc_tb (m : Mach) (F : Fld) (ix : List Nat) : (m.inc F ix).tb = m.tb := rfl
@[simp] theorem Mach.inc_trg (m : Mach) (F : Fld) (ix : List Nat) : (m.inc F ix).trg = m.trg := rfl
@[simp] theorem Mach.inc_cap (m : Mach) (F : Fld) (ix : List Nat) : (m.inc F ix).cap = m.cap := rfl
@[simp] theorem Mach.inc_acc (m : Mach) (F : Fld) (ix : List Nat) : (m.inc F ix).acc = m.acc := rfl
@[simp] theorem Mach.inc_log (m : Mach) (F : Fld) (ix : List Nat) : (m.inc F ix).log = m.log := rfl
@[simp] theorem Mach.inc_gen (m : Mach) (F : Fld) (ix : List Nat) : (m.inc F ix).gen = m.gen := rfl
@[simp] theorem Mach.inc_hif (m : Mach) (F : Fld) (ix : List Nat) : (m.inc F ix).hif = m.hif := rfl
@[simp] theorem Mach.inc_dma (m : Mach) (F : Fld) (ix : List Nat) : (m.inc F ix).dma = m.dma := rfl
@[simp] theorem Mach.inc_mem (m : Mach) (F : Fld) (ix : List Nat) : (m.inc F ix).mem = m.mem := rfl
@[simp] theorem Mach.inc_flt (m : Mach) (F : Fld) (ix : List Nat) : (m.inc F ix).flt = m.flt := rfl
@[simp] theorem Mach.inc_hk (m : Mach) (F : Fld) (ix : List Nat) : (m.inc F ix).hk = m.hk := rfl
@[simp] theorem Mach.inc_hoop (m : Mach) (F : Fld) (ix : List Nat) : (m.inc F ix).hoop = m.hoop := rfl
@[simp] theorem Mach.inc_pair (m : Mach) (F : Fld) (ix : List Nat) : (m.inc F ix).pair = m.pair := rfl
@[simp] theorem Mach.inc_boot (m : Mach) (F : Fld) (ix : List Nat) : (m.inc F ix).boot = m.boot := rfl
@[simp] theorem Mach.inc_out (m : Mach) (F : Fld) (ix : List Nat) : (m.inc F ix).out = m.out := rfl
@[simp] theorem Mach.inc_freeCtr (m : Mach) (F : Fld) (ix : List Nat) : (m.inc F ix).freeCtr = m.freeCtr := rfl

@[simp] theorem Mach.free_fst (m : Mach) (w : Nat) : (m.free w).1 = Config.freeNat m.freeCtr % 2 ^ w := rfl
@[simp] theorem Mach.free_regs (m : Mach) (w : Nat) : (m.free w).2.regs = m.regs := rfl
@[simp] theorem Mach.free_smp (m : Mach) (w : Nat) : (m.free w).2.smp = m.smp := rfl
@[simp] theorem Mach.free_tb (m : Mach) (w : Nat) : (m.free w).2.tb = m.tb := rfl
@[simp] theorem Mach.free_trg (m : Mach) (w : Nat) : (m.free w).2.trg = m.trg := rfl
@[simp] theorem Mach.free_cap (m : Mach) (w : Nat) : (m.free w).2.cap = m.cap := rfl
@[simp] theorem Mach.free_acc (m : Mach) (w : Nat) : (m.free w).2.acc = m.acc := rfl
@[simp] theorem Mach.free_log (m : Mach) (w : Nat) : (m.free w).2.log = m.log := rfl
@[simp] theorem Mach.free_gen (m : Mach) (w : Nat) : (m.free w).2.gen = m.gen := rfl
@[simp] theorem Mach.free_hif (m : Mach) (w : Nat) : (m.free w).2.hif = m.hif := rfl
@[simp] theorem Mach.free_dma (m : Mach) (w : Nat) : (m.free w).2.dma = m.dma := rfl
@[simp] theorem Mach.free_mem (m : Mach) (w : Nat) : (m.free w).2.mem = m.mem := rfl
@[simp] theorem Mach.free_flt (m : Mach) (w : Nat) : (m.free w).2.flt = m.flt := rfl
@[simp] theorem Mach.free_hk (m : Mach) (w : Nat) : (m.free w).2.hk = m.hk := rfl
@[simp] theorem Mach.free_hoop (m : Mach) (w : Nat) : (m.free w).2.hoop = m.hoop := rfl
@[simp] theorem Mach.free_pair (m : Mach) (w : Nat) : (m.free w).2.pair = m.pair := rfl
@[simp] theorem Mach.free_boot (m : Mach) (w : Nat) : (m.free w).2.boot = m.boot := rfl
@[simp] theorem Mach.free_out (m : Mach) (w : Nat) : (m.free w).2.out = m.out := rfl
@[simp] theorem Mach.free_freeCtr (m : Mach) (w : Nat) : (m.free w).2.freeCtr = m.freeCtr + 1 := rfl

@[simp] theorem Mach.emit_out (m : Mach) (o : Out) : (m.emit o).out = m.out ++ [o] := rfl
@[simp] theorem Mach.at_changes (m : Mach) (d : Nat) (c : Change) :
    (m.at_ d c).hif.changes = m.hif.changes ++ [(d, c)] := rfl
@[simp] theorem Mach.wait_waits (m : Mach) (op : Nat) (h : HostCmd) (a : Nat) :
    (m.wait op h a).hif.waits = m.hif.waits ++ [⟨op, h, a⟩] := rfl

end Sys2Proof.Machine
end

