-- ==== Sys2Proof/Laws/Table.lean ====
section
/-! SUPPORT. Sparse tables and register fields: a read after a write. -/
namespace Sys2Proof.Machine
open Sys2Proof

theorem tfind_tdel {α : Type} (t : List (Nat × α)) (k j : Nat) :
    tfind (tdel t k) j = if j = k then none else tfind t j := by
  induction t with
  | nil => simp [tdel, tfind]
  | cons p t ih =>
    obtain ⟨a, v⟩ := p
    unfold tdel at *
    by_cases ha : a = k
    · subst ha
      simp only [List.filter, decide_true, Bool.not_true, tfind]
      rw [ih]
      by_cases hj : j = a <;> simp [hj]
    · simp only [List.filter, ha, decide_false, Bool.not_false, tfind]
      rw [ih]
      by_cases hj : j = a
      · subst hj; simp [ha]
      · simp [hj]

theorem tfind_tins {α : Type} (t : List (Nat × α)) (k j : Nat) (v : α) :
    tfind (tins t k v) j = if j = k then some v else tfind t j := by
  induction t with
  | nil => simp [tins, tfind]
  | cons p t ih =>
    obtain ⟨a, w⟩ := p
    simp only [tins]
    split
    · simp [tfind]
    · split
      · next h => subst h; simp [tfind]; split <;> rfl
      · next h1 h2 =>
        simp only [tfind, ih]
        by_cases hj : j = a
        · subst hj; simp [Ne.symm h2]
        · simp [hj]

/-- What a table holds after an entry is put. -/
theorem tget_tput {α : Type} [DecidableEq α] (d : α) (t : List (Nat × α)) (k j : Nat) (v : α) :
    tget d (tput d t k v) j = if j = k then v else tget d t j := by
  unfold tget tput
  split
  · next h => subst h; rw [tfind_tdel]; split <;> simp_all
  · rw [tfind_tins]; split <;> simp_all

theorem tfind_tput_ne {α : Type} [DecidableEq α] (d : α) (t : List (Nat × α)) (k j : Nat) (v : α) (h : j ≠ k) :
    tfind (tput d t k v) j = tfind t j := by
  unfold tput
  split
  · rw [tfind_tdel, if_neg h]
  · rw [tfind_tins, if_neg h]

/-- A field reads as what was last written to it, cut to its width. -/
@[simp] theorem Mach.rd_wr_same (m : Mach) (F : Fld) (ix : List Nat) (v : Nat) :
    (m.wr F ix v).rd F ix = v % 2 ^ F.width := by
  show tget (F.rst ix) (tput (F.rst ix) m.regs (F.key ix) (v % 2 ^ F.width)) (F.key ix) % 2 ^ F.width = _
  rw [tget_tput, if_pos rfl, Nat.mod_mod]

/-- A write leaves every field at another place. -/
theorem Mach.rd_wr_ne (m : Mach) (F G : Fld) (ix jx : List Nat) (v : Nat) (h : G.key jx ≠ F.key ix) :
    (m.wr F ix v).rd G jx = m.rd G jx := by
  show (tfind (tput _ m.regs _ _) _).getD _ % _ = _
  rw [tfind_tput_ne _ _ _ _ _ h]; rfl

/-- A field lies below 2 to its width. -/
theorem Mach.rd_lt (m : Mach) (F : Fld) (ix : List Nat) : m.rd F ix < 2 ^ F.width :=
  Nat.mod_lt _ (Nat.two_pow_pos _)

/-- Equal entries read equal. -/
theorem Mach.rd_congr {m t : Mach} {F : Fld} {ix : List Nat} (h : tfind t.regs (F.key ix) = tfind m.regs (F.key ix)) :
    t.rd F ix = m.rd F ix := by
  unfold Mach.rd; rw [h]

/-- A write leaves the entries of other places. -/
theorem Mach.wr_regs_ne (m : Mach) (F : Fld) (ix : List Nat) (v k : Nat) (h : k ≠ F.key ix) :
    tfind (m.wr F ix v).regs k = tfind m.regs k := tfind_tput_ne _ _ _ _ _ h

end Sys2Proof.Machine
end

