-- ==== Sys2Proof/Laws/Reports.lean ====
section
/-! SUPPORT. What the shared reporting operations can do: entries, events, alerts, fault counts and completions change
nothing but what `Quiet` names. -/
namespace Sys2Proof.Machine
open Sys2Proof

theorem Quiet.refl (ks : List Nat) (m : Mach) : Quiet ks m m := by
  constructor <;> first | (intros; rfl) | exact ⟨[], by simp⟩

theorem Quiet.trans {ks js : List Nat} {a b c : Mach} (h : Quiet ks a b) (g : Quiet js b c) : Quiet (ks ++ js) a c where
  regs k hr hk := by
    rw [List.mem_append, not_or] at hk
    rw [g.regs k hr hk.2, h.regs k hr hk.1]
  smp := g.smp.trans h.smp
  tb := g.tb.trans h.tb
  trg := g.trg.trans h.trg
  cap := g.cap.trans h.cap
  acc := g.acc.trans h.acc
  log := g.log.trans h.log
  gen := g.gen.trans h.gen
  hif := by rw [g.hif, h.hif]
  dma := g.dma.trans h.dma
  mem := g.mem.trans h.mem
  flt := by rw [g.flt, h.flt]
  hk := g.hk.trans h.hk
  hoop := g.hoop.trans h.hoop
  pair := g.pair.trans h.pair
  boot := g.boot.trans h.boot
  out := by
    obtain ⟨l, hl⟩ := h.out
    obtain ⟨l', hl'⟩ := g.out
    exact ⟨l ++ l', by rw [hl', hl, List.append_assoc]⟩
  tx := g.tx.trans h.tx
  freeCtr := g.freeCtr.trans h.freeCtr

theorem Quiet.mono {ks js : List Nat} {a b : Mach} (h : Quiet ks a b) (hs : ∀ k ∈ ks, k ∈ js) : Quiet js a b :=
  { h with regs := fun k hr hk => h.regs k hr fun hm => hk (hs k hm) }

/-- Two quiet steps under one list of places. -/
theorem Quiet.then {ks : List Nat} {a b c : Mach} (h : Quiet ks a b) (g : Quiet ks b c) : Quiet ks a c :=
  (h.trans g).mono fun k hk => by simpa using hk

/-- A field at a place outside the list and the report registers reads as before. -/
theorem Quiet.rd {ks : List Nat} {a b : Mach} (h : Quiet ks a b) (F : Fld) (ix : List Nat)
    (hr : reportKey (F.key ix) = false) (hk : F.key ix ∉ ks) : b.rd F ix = a.rd F ix := Mach.rd_congr (h.regs _ hr hk)

theorem Quiet.hostUp {ks : List Nat} {a b : Mach} (h : Quiet ks a b) : b.hostUp = a.hostUp := by
  unfold Mach.hostUp; rw [h.hif]

theorem quiet_wr (m : Mach) (F : Fld) (ix : List Nat) (v : Nat) : Quiet [F.key ix] m (m.wr F ix v) := by
  constructor <;> first | rfl | (exact ⟨[], by simp⟩) | skip
  intro k _ hk
  exact Mach.wr_regs_ne _ _ _ _ _ (by simpa using hk)

theorem quiet_wr_report (m : Mach) (F : Fld) (ix : List Nat) (v : Nat) (h : reportKey (F.key ix) = true) :
    Quiet [] m (m.wr F ix v) := by
  constructor <;> first | rfl | (exact ⟨[], by simp⟩) | skip
  intro k hr _
  refine Mach.wr_regs_ne _ _ _ _ _ ?_
  rintro rfl
  rw [h] at hr; cases hr

theorem quiet_emit (m : Mach) (o : Out) : Quiet [] m (m.emit o) := by
  constructor <;> first | (intros; rfl) | exact ⟨[o], rfl⟩

theorem quiet_pin (m : Mach) (p : Pin) (l : Nat) : Quiet [] m (m.pin p l) := quiet_emit m _

theorem quiet_faultN (m : Mach) (src n inst : Nat) : Quiet [] m (m.faultN src n inst) := by
  constructor <;> first | (intros; rfl) | exact ⟨[], by simp⟩

theorem quiet_fault (m : Mach) (src inst : Nat) : Quiet [] m (m.fault src inst) := quiet_faultN m _ _ _

theorem quiet_setQst (m : Mach) (q : Nat) (v : QSt) : Quiet [] m (m.setQst q v) := by
  constructor <;> first | (intros; rfl) | exact ⟨[], by simp⟩

theorem quiet_alertEval (m : Mach) : Quiet [] m m.alertEval := by
  unfold Mach.alertEval
  dsimp only
  split
  · exact Quiet.refl _ _
  · refine Quiet.then (b := { m with hif := { m.hif with alert := m.alertWanted } }) ?_ (quiet_pin _ _ _)
    constructor <;> first | (intros; rfl) | exact ⟨[], by simp⟩

theorem quiet_alert (m : Mach) (F : Fld) (h : reportKey (F.key []) = true) : Quiet [] m (m.alert F) :=
  (quiet_wr_report m F [] 1 h).then (quiet_alertEval _)

theorem quiet_msix (m : Mach) (v : Nat) : Quiet [] m (m.msix v) := by
  unfold Mach.msix
  split
  · constructor <;> first | (intros; rfl) | exact ⟨[], by simp⟩
  · split
    · constructor <;> first | (intros; rfl) | exact ⟨[], by simp⟩
    · exact quiet_emit _ _

theorem quiet_msix1 (m : Mach) (v : Nat) : Quiet [] m (m.msix1 v) := by
  unfold Mach.msix1
  split
  · constructor <;> first | (intros; rfl) | exact ⟨[], by simp⟩
  · exact quiet_emit _ _

theorem quiet_signal (m : Mach) (q : Nat) : Quiet [] m (m.signal q) := by
  unfold Mach.signal
  dsimp only
  split
  · exact (quiet_setQst _ _ _).then (quiet_msix _ _)
  · exact quiet_setQst _ _ _

theorem quiet_coalesce (m : Mach) (q : Nat) (now : Bool) : Quiet [] m (m.coalesce q now) := by
  unfold Mach.coalesce
  dsimp only
  split
  · exact quiet_signal _ _
  · exact quiet_setQst _ _ _

/-- The registers of queues 0 to 511 stand where reports write. -/
theorem reportKey_queue (q a l : Nat) (hq : q < 512) (ha : 0x1000 ≤ a) (ha' : a ≤ 0x101C) (hl : l < 32) :
    reportKey ((a + (64 * q + 0)) * 32 + l) = true := by
  simp only [reportKey, Bool.or_eq_true, Bool.and_eq_true, decide_eq_true_eq]
  exact Or.inr ⟨by omega, by omega⟩

theorem quiet_produce (m : Mach) (q : Nat) (ws : Nat → List Nat) (now : Bool) (hq : q < 512) :
    Quiet [] m (m.produce q ws now) := by
  have k1 : reportKey (HIF_Q_PTR_DEV_PTR.key [q]) = true := reportKey_queue q 0x100C 0 hq (by decide) (by decide) (by decide)
  have k2 : reportKey (HIF_Q_STAT_PHASE.key [q]) = true := reportKey_queue q 0x1010 4 hq (by decide) (by decide) (by decide)
  have k3 : reportKey (HIF_Q_CNT_ENTRIES.key [q]) = true := reportKey_queue q 0x1018 0 hq (by decide) (by decide) (by decide)
  have k4 : reportKey (HIF_Q_STAT_FULL.key [q]) = true := reportKey_queue q 0x1010 3 hq (by decide) (by decide) (by decide)
  unfold Mach.produce
  dsimp only
  refine Quiet.then ?_ (quiet_coalesce _ _ _)
  refine Quiet.then ?_ (quiet_wr_report _ _ _ _ k4)
  refine Quiet.then ?_ (quiet_wr_report _ _ _ _ k3)
  split
  · exact ((quiet_emit m _).then (quiet_wr_report _ _ _ _ k1)).then (quiet_wr_report _ _ _ _ k2)
  · exact (quiet_emit m _).then (quiet_wr_report _ _ _ _ k1)

theorem evQueue_lt (m : Mach) (c : Nat) : m.evQueue c < 512 := Mach.rd_lt m HIF_EVT_ROUTE_QID [c]

theorem quiet_evWrite (m : Mach) (q : Nat) (e : EvRec) (hq : q < 512) : Quiet [] m (m.evWrite q e) :=
  (quiet_setQst _ _ _).then (quiet_produce _ _ _ _ hq)

/-- The events of a class below 13 drop into the counter of that class. -/
theorem quiet_evPut (m : Mach) (e : EvRec) (he : e.cls < 13) : Quiet [] m (m.evPut e) := by
  have k1 : reportKey (HIF_EVT_ROUTE_DROPPED.key [e.cls]) = true := by
    show reportKey ((0x100 + (4 * e.cls + 0)) * 32 + 16) = true
    simp only [reportKey, Bool.or_eq_true, Bool.and_eq_true, decide_eq_true_eq]
    exact Or.inl (Or.inr ⟨by omega, by omega⟩)
  have k2 : reportKey (HIF_Q_LOST_LOST.key [m.evQueue e.cls]) = true :=
    reportKey_queue _ 0x101C 0 (evQueue_lt m _) (by decide) (by decide) (by decide)
  unfold Mach.evPut
  dsimp only
  split
  · exact quiet_evWrite _ _ _ (evQueue_lt m _)
  · split
    · constructor <;> first | (intros; rfl) | exact ⟨[], by simp⟩
    · exact (((quiet_wr_report _ _ _ _ k1).then (quiet_wr_report _ _ _ _ k2)).then (quiet_setQst _ _ _)).then
        (quiet_fault _ _ _)

theorem quiet_raiseAt (m : Mach) (t cls code src : Nat) (w sh : List Nat) (h : cls < 13) :
    Quiet [] m (m.raiseAt t cls code src w sh) := quiet_evPut _ _ h

theorem quiet_raise (m : Mach) (cls code src : Nat) (w sh : List Nat) (h : cls < 13) :
    Quiet [] m (m.raise cls code src w sh) := quiet_raiseAt _ _ _ _ _ _ _ h

theorem quiet_putCpl (m : Mach) (c : Cpl) (hq : c.q < 511) : Quiet [] m (m.putCpl c) := by
  unfold Mach.putCpl
  split
  · exact quiet_produce _ _ _ _ (by omega)
  · constructor <;> first | (intros; rfl) | exact ⟨[], by simp⟩

theorem quiet_complete (m : Mach) (h : HostCmd) (st r : Nat) (hq : submissionQ h.q = true) :
    Quiet [] m (m.complete h st r) := by
  simp only [submissionQ, Bool.and_eq_true, decide_eq_true_eq] at hq
  exact quiet_putCpl _ _ (by show h.q.val < 511; omega)

theorem quiet_done (m : Mach) (h : HostCmd) (r : Nat) (hq : submissionQ h.q = true) : Quiet [] m (m.done h r) :=
  quiet_complete _ _ _ _ hq

/-- An entry written to a queue leaves first, then at most its message. -/
theorem produce_out (m : Mach) (q : Nat) (ws : Nat → List Nat) (now : Bool) :
    ∃ l, (m.produce q ws now).out = m.out ++ .entry q (m.qDev q) (ws (m.rd HIF_Q_STAT_PHASE [q])) :: l := by
  unfold Mach.produce
  dsimp only
  obtain ⟨l, hl⟩ := (quiet_coalesce _ q now).out
  refine ⟨l, ?_⟩
  rw [hl]
  split <;> simp

/-- A command that completes leaves its entry, or its completion is held. -/
theorem completes_complete (m : Mach) (h : HostCmd) (st r : Nat) : Completes m (m.complete h st r) h st r := by
  unfold Completes Mach.complete Mach.putCpl
  split
  · exact produce_out _ _ _ _
  · exact ⟨rfl, rfl⟩

theorem completes_done (m : Mach) (h : HostCmd) (r : Nat) : Completes m (m.done h r) h 0 r := completes_complete _ _ _ _

end Sys2Proof.Machine
end

