-- ==== Sys2Proof/Laws/Commands.lean ====
section
/-! SUPPORT. What the shared processing of host commands does: an admitted command has its effect, a refused one only its
completion. -/
namespace Sys2Proof.Machine
open Sys2Proof

variable {ci : CmdInfo} {own : HostCmd → State → Option Nat} {eff : HostCmd → Nat → State → State} {h : HostCmd} {s : State}

/-- An admitted command has its effect, with its stitch of application and after it was noted for the partner. -/
theorem runCmd_admitted (ha : Admitted ci own h s) :
    runCmd ci own eff h s = eff h (s.due ci.op) { s with m := s.m.forward ci.op h } := by
  unfold runCmd
  rw [ha.2.1]
  simp only [ha.2.2]
  rfl

/-- A command that a check refuses is completed with the status of that check. -/
theorem runCmd_refused {st : Nat} (hr : commonRefusal ci h s.m = some st ∨ commonRefusal ci h s.m = none ∧ own h s = some st) :
    runCmd ci own eff h s = { s with m := s.m.refuse s.hoopSeal.st ci.op h st } := by
  unfold runCmd
  rcases hr with hr | ⟨hr, ho⟩
  · rw [hr]
  · rw [hr]; simp only [ho]

/-- An opcode that is not forwarded leaves the pair state alone. -/
theorem forward_none (m : Mach) (op : Nat) (h : HostCmd) (hf : forwarded op = false) : m.forward op h = m := by
  unfold Mach.forward
  simp [hf]

theorem forward_quiet (m : Mach) (op : Nat) (h : HostCmd) (hf : (forwarded op && m.mirroring) = false) : m.forward op h = m := by
  unfold Mach.forward
  simp [hf]

/-- An effect that ends in a completion, on top of a machine `m`. -/
theorem runs_of_complete {c : Instr} {m : Mach} {st r : Nat} (hq : submissionQ h.q = true)
    (he : exec c s = .next { s with m := m.complete h st r }) : Runs c s h st r m :=
  ⟨_, he, ⟨rfl, rfl, rfl⟩, quiet_complete _ _ _ _ hq, completes_complete _ _ _ _⟩

/-- An effect that touches neither the seal nor memory. -/
theorem runCmd_lift {f : HostCmd → Nat → State → Mach} (ha : Admitted ci own h s) :
    runCmd ci own (lift f) h s = { s with m := f h (s.due ci.op) { s with m := s.m.forward ci.op h } } := by
  rw [runCmd_admitted ha]; rfl

/-- A row whose meaning schedules the command and completes it. -/
theorem scheduled_of_later {row : HostCmd → Instr}
    (he : ∀ h s, exec (row h) s = .next (runCmd ci own (lift fun h d s => (s.m.at_ d (.cmd ci.op h)).done h d) h s)) :
    Scheduled row ci own := by
  intro h s ha
  refine runs_of_complete ha.1 ?_
  rw [he, runCmd_lift ha]
  rfl

/-- The same for any effect that completes the command on top of `m`. -/
theorem runs_of_lift {c : Instr} {f : HostCmd → Nat → State → Mach} {m : Mach} {st r : Nat} (ha : Admitted ci own h s)
    (he : exec c s = .next (runCmd ci own (lift f) h s))
    (hf : f h (s.due ci.op) { s with m := s.m.forward ci.op h } = m.complete h st r) : Runs c s h st r m := by
  refine runs_of_complete ha.1 ?_
  rw [he, runCmd_lift ha, hf]

/-- An effect that leaves the command waiting. -/
theorem becomes_of_lift {c : Instr} {f : HostCmd → Nat → State → Mach} {m : Mach} (ha : Admitted ci own h s)
    (he : exec c s = .next (runCmd ci own (lift f) h s))
    (hf : f h (s.due ci.op) { s with m := s.m.forward ci.op h } = m) : Becomes c s m := by
  unfold Becomes
  rw [he, runCmd_lift ha, hf]

theorem quiet_refuse (m : Mach) (sl : SealSt) (op : Nat) (h : HostCmd) (st : Nat) (hq : submissionQ h.q = true)
    (hs : st ≠ SEALED) : Quiet [] m (m.refuse sl op h st) := by
  unfold Mach.refuse
  dsimp only
  rw [if_neg hs]
  exact quiet_complete _ _ _ _ hq

/-- Writing a list of fields leaves the entries of other places. -/
theorem wrs_regs_ne (m : Mach) (l : List (Fld × List Nat × Nat)) (k : Nat) (hk : k ∉ l.map fun p => p.1.key p.2.1) :
    tfind (m.wrs l).regs k = tfind m.regs k := by
  induction l generalizing m with
  | nil => rfl
  | cons a l ih =>
    simp only [List.map_cons, List.mem_cons, not_or] at hk
    show tfind (Mach.wrs (m.wr a.1 a.2.1 a.2.2) l).regs k = _
    rw [ih _ hk.2, Mach.wr_regs_ne _ _ _ _ _ hk.1]

/-- Writing a list of fields at different places sets exactly those fields. -/
theorem sets_wrs (m : Mach) (l : List (Fld × List Nat × Nat)) (hd : (l.map fun p => p.1.key p.2.1).Nodup)
    (hv : ∀ p ∈ l, p.2.2 < 2 ^ p.1.width) : Sets m (m.wrs l) l := by
  induction l generalizing m with
  | nil => exact ⟨Quiet.refl _ _, fun p hp => absurd hp (List.not_mem_nil)⟩
  | cons a l ih =>
    simp only [List.map_cons, List.nodup_cons] at hd
    obtain ⟨hq, hh⟩ := ih (m.wr a.1 a.2.1 a.2.2) hd.2 fun p hp => hv p (List.mem_cons_of_mem _ hp)
    refine ⟨((quiet_wr m a.1 a.2.1 a.2.2).trans hq).mono (by simp), fun p hp => ?_⟩
    rcases List.mem_cons.mp hp with rfl | hp
    · have hk := hq.regs (p.1.key p.2.1)
      by_cases hr : reportKey (p.1.key p.2.1) = false
      · show Mach.rd (Mach.wrs (Mach.wr m _ _ _) l) _ _ = _
        rw [Mach.rd_congr (hk hr hd.1), Mach.rd_wr_same, Nat.mod_eq_of_lt (hv p (List.mem_cons_self ..))]
      · show Mach.rd (Mach.wrs (Mach.wr m _ _ _) l) _ _ = _
        rw [Mach.rd_congr (wrs_regs_ne _ _ _ hd.1), Mach.rd_wr_same, Nat.mod_eq_of_lt (hv p (List.mem_cons_self ..))]
    · exact hh p hp

/-- A field of a payload lies below 2 to its width. -/
theorem HostCmd_f_lt (h : HostCmd) (w l n : Nat) : h.f w l n < 2 ^ n := by
  unfold HostCmd.f bits
  exact Nat.mod_lt _ (Nat.two_pow_pos _)

end Sys2Proof.Machine
end

