-- ==== Sys2Proof/Laws/Memory.lean ====
section
/-! SUPPORT. Record memory: every operation keeps the canonical form, a read after a write gives the bytes written, and a
write leaves the other bytes alone. -/
namespace Sys2Proof.Machine
open Sys2Proof

/-- The canonical form, as a property of the cells and of their order. -/
theorem cellsWfFrom_iff (l : List Host.Cell) : ∀ lo, cellsWfFrom lo l = true ↔
    (∀ c ∈ l, lo ≤ c.1 ∧ c.2 ≠ emptyByte) ∧ l.Pairwise (fun a b => a.1 < b.1) := by
  induction l with
  | nil => simp [cellsWfFrom]
  | cons p t ih =>
    obtain ⟨a, b⟩ := p
    intro lo
    simp only [cellsWfFrom, Bool.and_eq_true, decide_eq_true_eq, ih, List.mem_cons, List.pairwise_cons, forall_eq_or_imp]
    constructor
    · rintro ⟨⟨h1, h2⟩, h3, h4⟩
      exact ⟨⟨⟨h1, h2⟩, fun c hc => ⟨by have := (h3 c hc).1; omega, (h3 c hc).2⟩⟩, fun c hc => by have := (h3 c hc).1; omega, h4⟩
    · rintro ⟨⟨⟨h1, h2⟩, h3⟩, h4, h5⟩
      exact ⟨⟨h1, h2⟩, fun c hc => ⟨h4 c hc, (h3 c hc).2⟩, h5⟩

theorem wf_iff (l : List Host.Cell) : Memory.wf l = true ↔
    (∀ c ∈ l, c.2 ≠ emptyByte) ∧ l.Pairwise (fun a b => a.1 < b.1) := by
  unfold Memory.wf
  rw [cellsWfFrom_iff]
  exact and_congr_left' ⟨fun h c hc => (h c hc).2, fun h c hc => ⟨Nat.zero_le _, h c hc⟩⟩

theorem cellsOf_wfFrom (bs : List (BitVec 8)) : ∀ a, cellsWfFrom a (cellsOf a bs) = true := by
  induction bs with
  | nil => intro a; rfl
  | cons b bs ih =>
    intro a
    unfold cellsOf
    split
    · have h := (cellsWfFrom_iff _ _).mp (ih (a + 1))
      exact (cellsWfFrom_iff _ _).mpr ⟨fun c hc => ⟨by have := (h.1 c hc).1; omega, (h.1 c hc).2⟩, h.2⟩
    · next hb => simp [cellsWfFrom, hb, ih]

theorem cellsOf_lt (bs : List (BitVec 8)) : ∀ a, ∀ c ∈ cellsOf a bs, c.1 < a + bs.length := by
  induction bs with
  | nil => intro a c hc; simp [cellsOf] at hc
  | cons b bs ih =>
    intro a c hc
    unfold cellsOf at hc
    split at hc
    · have := ih _ c hc; simp only [List.length_cons]; omega
    · rcases List.mem_cons.mp hc with rfl | hc
      · simp only [List.length_cons]; omega
      · have := ih _ c hc; simp only [List.length_cons]; omega

/-- In a rising list, what follows the entries below a bound lies at or above it. -/
theorem dropWhile_ge {l : List Host.Cell} (h : l.Pairwise fun a b => a.1 < b.1) (k : Nat) :
    ∀ c ∈ l.dropWhile (fun c => decide (c.1 < k)), k ≤ c.1 := by
  induction l with
  | nil => intro c hc; simp at hc
  | cons p t ih =>
    rw [List.pairwise_cons] at h
    intro c hc
    rw [List.dropWhile_cons] at hc
    split at hc
    · exact ih h.2 c hc
    · next hp =>
      rw [decide_eq_true_eq, Nat.not_lt] at hp
      rcases List.mem_cons.mp hc with rfl | hc
      · exact hp
      · have := h.1 c hc; omega

theorem takeWhile_lt {l : List Host.Cell} (k : Nat) : ∀ c ∈ l.takeWhile (fun c => decide (c.1 < k)), c.1 < k := by
  induction l with
  | nil => intro c hc; simp at hc
  | cons p t ih =>
    intro c hc
    rw [List.takeWhile_cons] at hc
    split at hc
    · next hp =>
      rcases List.mem_cons.mp hc with rfl | hc
      · simpa using hp
      · exact ih c hc
    · simp at hc

/-- A write keeps the canonical form. -/
theorem wf_writeCells {l : List Host.Cell} (h : Memory.wf l = true) (a : Nat) (bs : List (BitVec 8)) :
    Memory.wf (writeCells l a bs) = true := by
  rw [wf_iff] at h ⊢
  have hc := (cellsWfFrom_iff _ _).mp (cellsOf_wfFrom bs a)
  have hlt := cellsOf_lt bs a
  refine ⟨?_, ?_⟩
  · intro c hm
    simp only [writeCells, List.mem_append] at hm
    rcases hm with (hm | hm) | hm
    · exact h.1 c ((List.takeWhile_sublist _).subset hm)
    · exact (hc.1 c hm).2
    · exact h.1 c ((List.dropWhile_sublist _).subset hm)
  · unfold writeCells
    rw [List.pairwise_append, List.pairwise_append]
    refine ⟨⟨h.2.sublist (List.takeWhile_sublist _), hc.2, fun x hx y hy => ?_⟩, h.2.sublist (List.dropWhile_sublist _),
      fun x hx y hy => ?_⟩
    · have := takeWhile_lt _ x hx; have := (hc.1 y hy).1; omega
    · have hy := dropWhile_ge h.2 _ y hy
      rcases List.mem_append.mp hx with hx | hx
      · have := takeWhile_lt _ x hx; omega
      · have := hlt x hx; omega

/-- Forgetting cells keeps the canonical form. -/
theorem wf_filter {l : List Host.Cell} (h : Memory.wf l = true) (p : Host.Cell → Bool) : Memory.wf (l.filter p) = true := by
  rw [wf_iff] at h ⊢
  exact ⟨fun c hc => h.1 c ((List.mem_filter.mp hc).1), h.2.sublist List.filter_sublist⟩

theorem wf_clearCells {l : List Host.Cell} (h : Memory.wf l = true) (lo hi : Nat) : Memory.wf (clearCells l lo hi) = true :=
  wf_filter h _

theorem wf_writeLine {d : Dram} (h : Memory.wf d.cells = true) (line : Nat) (bs : List (BitVec 8)) (p : Bool) :
    Memory.wf (d.writeLine line bs p).cells = true := wf_writeCells h _ _

theorem wf_clear {d : Dram} (h : Memory.wf d.cells = true) (lo hi : Nat) : Memory.wf (d.clear lo hi).cells = true :=
  wf_clearCells h _ _

@[simp] theorem spoil_cells (d : Dram) (line : Nat) : (d.spoil line).cells = d.cells := rfl
@[simp] theorem wf_nil : Memory.wf [] = true := rfl

/-- Memory after reset has the canonical form. -/
theorem wf_reset : Memory.wf State.reset.dram.cells = true := rfl

/-! ### Reading -/

theorem cellAt_of_mem {l : List Host.Cell} (h : Memory.wf l = true) {a : Nat} {b : BitVec 8} (hm : (a, b) ∈ l) :
    cellAt l a = b := by
  replace h := ((wf_iff l).mp h).2
  revert hm
  induction l with
  | nil => intro hm; simp at hm
  | cons p t ih =>
    obtain ⟨a', b'⟩ := p
    rw [List.pairwise_cons] at h
    intro hm
    rcases List.mem_cons.mp hm with he | ht
    · obtain ⟨rfl, rfl⟩ := Prod.mk.inj he
      simp [cellAt]
    · have := h.1 _ ht
      simp only at this
      simp only [cellAt]
      rw [if_neg (by omega), if_neg (by omega)]
      exact ih h.2 ht

theorem cellAt_of_not_mem {l : List Host.Cell} {a : Nat} (hm : ∀ c ∈ l, c.1 ≠ a) : cellAt l a = emptyByte := by
  induction l with
  | nil => rfl
  | cons p t ih =>
    obtain ⟨a', b'⟩ := p
    simp only [cellAt]
    rw [if_neg (fun e => hm (a', b') (List.mem_cons_self ..) e.symm)]
    split
    · rfl
    · exact ih fun c hc => hm c (List.mem_cons_of_mem _ hc)

/-- Two canonical memories that list the same cell at an address, or none, read the same there. -/
theorem cellAt_congr {l t : List Host.Cell} (hl : Memory.wf l = true) (ht : Memory.wf t = true) {a : Nat}
    (h : ∀ b, (a, b) ∈ l ↔ (a, b) ∈ t) : cellAt l a = cellAt t a := by
  by_cases hb : ∃ b, (a, b) ∈ l
  · obtain ⟨b, hb⟩ := hb
    rw [cellAt_of_mem hl hb, cellAt_of_mem ht ((h b).mp hb)]
  · have hn : ∀ b, (a, b) ∉ l := fun b hm => hb ⟨b, hm⟩
    rw [cellAt_of_not_mem (l := l), cellAt_of_not_mem (l := t)]
    · rintro ⟨a', b⟩ hm rfl; exact hn b ((h b).mpr hm)
    · rintro ⟨a', b⟩ hm rfl; exact hn b hm

theorem mem_takeWhile_lt {l : List Host.Cell} (h : l.Pairwise fun a b => a.1 < b.1) (k : Nat) (c : Host.Cell) :
    c ∈ l.takeWhile (fun c => decide (c.1 < k)) ↔ c ∈ l ∧ c.1 < k := by
  constructor
  · exact fun hc => ⟨(List.takeWhile_sublist _).subset hc, takeWhile_lt _ c hc⟩
  · rintro ⟨hc, hk⟩
    have := List.takeWhile_append_dropWhile (p := fun c : Host.Cell => decide (c.1 < k)) (l := l)
    rw [← this] at hc
    rcases List.mem_append.mp hc with hc | hc
    · exact hc
    · have := dropWhile_ge h k c hc; omega

theorem mem_dropWhile_ge {l : List Host.Cell} (h : l.Pairwise fun a b => a.1 < b.1) (k : Nat) (c : Host.Cell) :
    c ∈ l.dropWhile (fun c => decide (c.1 < k)) ↔ c ∈ l ∧ k ≤ c.1 := by
  constructor
  · exact fun hc => ⟨(List.dropWhile_sublist _).subset hc, dropWhile_ge h _ c hc⟩
  · rintro ⟨hc, hk⟩
    have := List.takeWhile_append_dropWhile (p := fun c : Host.Cell => decide (c.1 < k)) (l := l)
    rw [← this] at hc
    rcases List.mem_append.mp hc with hc | hc
    · have := takeWhile_lt k c hc; omega
    · exact hc

/-- A write leaves every byte outside its range alone. -/
theorem cellAt_writeCells_out {l : List Host.Cell} (h : Memory.wf l = true) (a : Nat) (bs : List (BitVec 8)) {k : Nat}
    (hk : k < a ∨ a + bs.length ≤ k) : cellAt (writeCells l a bs) k = cellAt l k := by
  refine cellAt_congr (wf_writeCells h a bs) h fun b => ?_
  have hr := ((wf_iff l).mp h).2
  simp only [writeCells, List.mem_append, mem_takeWhile_lt hr, mem_dropWhile_ge hr]
  constructor
  · rintro ((⟨hm, -⟩ | hm) | ⟨hm, -⟩)
    · exact hm
    · have h1 := ((cellsWfFrom_iff _ _).mp (cellsOf_wfFrom bs a)).1 _ hm
      have h2 := cellsOf_lt bs a _ hm
      dsimp only at h1 h2; omega
    · exact hm
  · intro hm
    rcases hk with hk | hk
    · exact .inl (.inl ⟨hm, hk⟩)
    · exact .inr ⟨hm, hk⟩

theorem mem_cellsOf (bs : List (BitVec 8)) : ∀ (a i : Nat) (b : BitVec 8), i < bs.length → bs.getD i 0 = b → b ≠ emptyByte →
    (a + i, b) ∈ cellsOf a bs := by
  induction bs with
  | nil => intro a i b hi; simp at hi
  | cons x bs ih =>
    intro a i b hi hb hne
    rcases i with _ | i
    · simp only [List.getD_cons_zero] at hb
      subst hb
      simp [cellsOf, hne]
    · have := ih (a + 1) i b (by simpa using hi) (by simpa using hb) hne
      rw [show a + 1 + i = a + (i + 1) by omega] at this
      unfold cellsOf
      split
      · exact this
      · exact List.mem_cons_of_mem _ this

theorem cellsOf_spec (bs : List (BitVec 8)) : ∀ (a : Nat), ∀ c ∈ cellsOf a bs, bs.getD (c.1 - a) 0 = c.2 := by
  induction bs with
  | nil => intro a c hc; simp [cellsOf] at hc
  | cons x bs ih =>
    intro a c hc
    have hs : ∀ c ∈ cellsOf (a + 1) bs, (x :: bs).getD (c.1 - a) 0 = c.2 := by
      intro c hc
      have h1 := (((cellsWfFrom_iff _ _).mp (cellsOf_wfFrom bs (a + 1))).1 c hc).1
      rw [show c.1 - a = c.1 - (a + 1) + 1 by omega]
      simpa using ih (a + 1) c hc
    unfold cellsOf at hc
    split at hc
    · exact hs c hc
    · rcases List.mem_cons.mp hc with rfl | hc
      · simp
      · exact hs c hc

/-- A read after a write gives the byte written. -/
theorem cellAt_writeCells_in {l : List Host.Cell} (h : Memory.wf l = true) (a : Nat) (bs : List (BitVec 8)) {i : Nat}
    (hi : i < bs.length) : cellAt (writeCells l a bs) (a + i) = bs.getD i 0 := by
  have hw := wf_writeCells h a bs
  have hr := ((wf_iff l).mp h).2
  by_cases hb : bs.getD i 0 = emptyByte
  · rw [hb]
    refine cellAt_of_not_mem ?_
    rintro ⟨k, b⟩ hm rfl
    simp only [writeCells, List.mem_append, mem_takeWhile_lt hr, mem_dropWhile_ge hr] at hm
    rcases hm with (⟨-, hm⟩ | hm) | ⟨-, hm⟩
    · omega
    · have h1 := cellsOf_spec bs a _ hm
      have h2 := (((cellsWfFrom_iff _ _).mp (cellsOf_wfFrom bs a)).1 _ hm).2
      simp only [Nat.add_sub_cancel_left] at h1
      exact h2 (h1 ▸ hb)
    · omega
  · refine cellAt_of_mem hw ?_
    simp only [writeCells, List.mem_append]
    exact .inl (.inr (mem_cellsOf bs a i _ hi rfl hb))

/-! ### Lines -/

/-- A line write leaves the bytes of every other line alone. -/
theorem cellAt_writeLine_out {d : Dram} (h : Memory.wf d.cells = true) (line : Nat) (bs : List (BitVec 8)) (p : Bool) {k : Nat}
    (hk : k / 64 ≠ line) : cellAt (d.writeLine line bs p).cells k = cellAt d.cells k := by
  refine cellAt_writeCells_out h _ _ ?_
  have : (bs.take 64).length ≤ 64 := by rw [List.length_take]; omega
  omega

/-- Clearing leaves the bytes outside its range alone. -/
theorem cellAt_clearCells_out {l : List Host.Cell} (h : Memory.wf l = true) (lo hi : Nat) {k : Nat} (hk : k < lo ∨ hi ≤ k) :
    cellAt (clearCells l lo hi) k = cellAt l k := by
  refine cellAt_congr (wf_clearCells h lo hi) h fun b => ?_
  simp only [clearCells, List.mem_filter, Bool.not_eq_true', Bool.and_eq_false_iff, decide_eq_false_iff_not]
  exact ⟨fun h => h.1, fun h => ⟨h, by omega⟩⟩

/-- A cleared byte reads as an unlisted one. -/
theorem cellAt_clearCells_in {l : List Host.Cell} (lo hi : Nat) {k : Nat} (h1 : lo ≤ k) (h2 : k < hi) :
    cellAt (clearCells l lo hi) k = emptyByte := by
  refine cellAt_of_not_mem ?_
  rintro ⟨k', b⟩ hm rfl
  simp only [clearCells, List.mem_filter, Bool.not_eq_true', Bool.and_eq_false_iff, decide_eq_false_iff_not] at hm
  omega

/-! ### A read of a line -/

/-- A read changes no byte of memory. -/
@[simp] theorem readLine_cells (s : State) (line : Nat) (ecc : MemEcc) : (s.readLine line ecc).dram.cells = s.dram.cells := by
  unfold State.readLine
  split
  · rfl
  · cases ecc <;> rfl

/-- An issued request keeps the canonical form. -/
theorem wf_issue {s : State} (h : Memory.wf s.dram.cells = true) (r : MemReq) (ecc : MemEcc) :
    Memory.wf (s.issue r ecc).dram.cells = true := by
  unfold State.issue
  dsimp only
  split
  · exact wf_clear h _ _
  · split
    · refine wf_writeLine ?_ _ _ _
      rw [readLine_cells]; exact h
    · split
      · split <;> exact wf_writeLine h _ _ _
      · exact wf_writeLine h _ _ _
  · split <;> exact (congrArg Memory.wf (readLine_cells _ _ _)).trans h

/-- A line access keeps the canonical form. -/
theorem wf_memAccess {s : State} (h : Memory.wf s.dram.cells = true) (mc rd : Nat) (ecc : MemEcc) :
    Memory.wf (s.memAccess mc rd ecc).dram.cells = true := by
  have hk : ∀ m : Mach, Memory.wf ({ s with m := m } : State).dram.cells = true := fun _ => h
  unfold State.memAccess
  split
  · exact h
  · split
    · exact wf_issue (hk _) _ _
    · dsimp only
      split
      · exact (congrArg Memory.wf (readLine_cells _ _ _)).trans h
      · exact h

end Sys2Proof.Machine
end

