-- ==== Sys2Proof/Laws/PerInstr.lean ====
section
/-! SUPPORT. Per constructor: the entry of the driver that a command carries, and the queue it stands in (R321, R350). -/
namespace Sys2Proof.Laws

/-- The entry of the driver that a command carries; an event carries none. -/
def Operands.entry : Instr → Option HostCmd
  | .coreCycle _ => none
  | .stitchBoundary => none
  | .qualificationSlot => none
  | .bookkeepingSlot _ _ => none
  | .measurementClosingSlot => none
  | .mirrorFrameSlot => none
  | .faultWindowSlot => none
  | .maintenanceSlot _ => none
  | .maintStepEnd _ _ => none
  | .maintLong _ _ => none
  | .checkSample _ _ _ => none
  | .tempReading _ _ _ _ => none
  | .estimatorIntervalEnd _ _ => none
  | .channelSettled _ => none
  | .fgCalDone _ _ => none
  | .loopbackSettled _ => none
  | .spllLost => none
  | .spllLocked _ => none
  | .mpllLost _ => none
  | .mpllLocked _ => none
  | .memReinit _ _ => none
  | .cpllLost => none
  | .cpllLocked _ => none
  | .xtalFail => none
  | .xtalReturn => none
  | .refLost _ => none
  | .refQualified _ _ => none
  | .slewDone => none
  | .dtimeWrap => none
  | .ppsinEdge _ => none
  | .ppsoutPulse => none
  | .syncinPulse => none
  | .markerInputEdge _ _ => none
  | .timerFire _ => none
  | .trigOutPulse _ => none
  | .comparatorActivate _ => none
  | .modLost _ => none
  | .modRestored _ => none
  | .logFlushTimeout _ => none
  | .logBlockDelivery _ => none
  | .gapClose _ => none
  | .recordRingDelivery _ => none
  | .msixCoalTimeout _ => none
  | .eventDelivery => none
  | .accFold _ _ => none
  | .genFrame _ _ => none
  | .underrunEnd _ => none
  | .stagingFeed _ _ _ => none
  | .guardTrip _ => none
  | .guardZero _ => none
  | .hkConversionEnd _ _ => none
  | .selftestDone _ => none
  | .ccSelftestDone _ => none
  | .supplyWarning _ => none
  | .supplyEvent _ => none
  | .supplyReset _ => none
  | .memAccess _ _ _ => none
  | .refreshDue _ _ => none
  | .refreshCatchUp _ _ => none
  | .refreshRatePoll _ => none
  | .actTableClear => none
  | .dramScrubStep _ => none
  | .migDone _ => none
  | .selfRefreshIdle _ => none
  | .memVerifyDone _ _ => none
  | .doorbellWrite _ _ => none
  | .commandFetch _ _ _ _ => none
  | .sequenceReread _ _ _ => none
  | .adminEnWrite _ => none
  | .rwhWrite _ _ => none
  | .tabStageWrite _ => none
  | .shadowLatchRead _ _ => none
  | .readClear _ _ => none
  | .registerWrite _ _ _ _ => none
  | .smbusRead _ => none
  | .pf0PowerState _ => none
  | .pcieLinkDown => none
  | .pcieLinkUp _ _ => none
  | .pcieCompletionError _ _ _ => none
  | .pcieCompletionTimeout _ _ => none
  | .dmaDoorbellWrite _ _ => none
  | .dmaDescriptorFetch _ _ => none
  | .dmaTransferUnit _ _ _ => none
  | .descDone _ => none
  | .dmaPause _ => none
  | .dmaPaused _ => none
  | .dmaResume _ => none
  | .hoopStrapChange _ => none
  | .unsealLapsed => none
  | .changeDone => none
  | .auditFlush => none
  | .mirrorFrameReceived _ => none
  | .frameMissed => none
  | .twlTrainingDone _ => none
  | .twlTrainingTimeout => none
  | .powerOnReset => none
  | .resetNPin => none
  | .perst => none
  | .flrPf0 => none
  | .flrPf1 => none
  | .watchdogExpiry => none
  | .resetAfterCompletion => none
  | .jtagTestExit => none
  | .bootStageComplete _ => none
  | .retEntered => none
  | .retExited _ _ => none
  | .identify h => some h
  | .queueCreate h => some h
  | .queueDelete h => some h
  | .eventRoute h => some h
  | .deviceState h => some h
  | .softReset h => some h
  | .flashWrite h => some h
  | .flashActivate h => some h
  | .nop h => some h
  | .chConfig h => some h
  | .quadCombine h => some h
  | .fgCal h => some h
  | .calRelease h => some h
  | .loopback h => some h
  | .setMembers h => some h
  | .setConfig h => some h
  | .setBind h => some h
  | .setArm h => some h
  | .setDisarm h => some h
  | .setRearm h => some h
  | .trgUnitSet h => some h
  | .trgProgram h => some h
  | .trgPattern h => some h
  | .trgIo h => some h
  | .trgQseg h => some h
  | .trgTimer h => some h
  | .trgOut h => some h
  | .trgSoft h => some h
  | .prkExport h => some h
  | .basteRead h => some h
  | .logRingSet h => some h
  | .logStreamCfg h => some h
  | .logStart h => some h
  | .logStop h => some h
  | .logMgSet h => some h
  | .logMdSet h => some h
  | .logFlush h => some h
  | .accConfig h => some h
  | .accBind h => some h
  | .accRead h => some h
  | .accClear h => some h
  | .measSlot h => some h
  | .measBind h => some h
  | .measExport h => some h
  | .measStats h => some h
  | .genConfig h => some h
  | .genSegWrite h => some h
  | .genSeqWrite h => some h
  | .genArm h => some h
  | .genStart h => some h
  | .genStop h => some h
  | .genJump h => some h
  | .genNcoSet h => some h
  | .genSkew h => some h
  | .genGuard h => some h
  | .genGuardReset h => some h
  | .genSrBind h => some h
  | .genTrig h => some h
  | .tbSource h => some h
  | .tbRate h => some h
  | .tbTod h => some h
  | .tbSpread h => some h
  | .tbOutputs h => some h
  | .tbSync h => some h
  | .areaCreate h => some h
  | .areaDestroy h => some h
  | .areaClear h => some h
  | .memScrub h => some h
  | .memMigrate h => some h
  | .memPasrSet h => some h
  | .memSrSet h => some h
  | .memAgeSet h => some h
  | .memVerify h => some h
  | .pairForm h => some h
  | .pairDissolve h => some h
  | .pairRoleSwap h => some h
  | .pairRejoin h => some h
  | .pairTwinCheck h => some h
  | .pairRetrain h => some h
  | .pairConfig h => some h
  | .hoopUnseal h => some h
  | .hoopSeal h => some h
  | .hoopCommit h => some h
  | .hoopLogExport h => some h
  | .hoopLogAck h => some h
  | .hoopFwLoad h => some h
  | .hoopDiscard h => some h
  | .hoopNote h => some h
  | .dmaBind h => some h
  | .dmaUnbind h => some h
  | .dmaRecover h => some h
  | .hkSeq h => some h
  | .hkConvert h => some h
  | .hkSnapshot h => some h
  | .hkSelftest h => some h
  | .fltConfig h => some h
  | .fltClear h => some h
  | .fltInject h => some h
  | .fltHistory h => some h
  | .maintCfg h => some h
  | .ccSelftest h => some h
  | .sramScrub h => some h
  | .maintCancel h => some h
  | .mclkEdge _ _ _ _ => none
  | .twlInvalidSyncHeader _ => none
  | .pcieCorrectableError => none
  | .resetNRelease => none
  | .tpllLocked => none

/-- A well-formed command of the driver stands in a submission queue: the admin queue or one of a command pair. -/
def Operands.Statement (i : Instr) : Prop := i.wf = true → ∀ h, Operands.entry i = some h → submissionQ h.q = true

theorem Operands.coreCycle (raw : List (Fin 64 × List (BitVec 12))) : Operands.Statement (.coreCycle raw) := fun _ _ e => nomatch e
theorem Operands.stitchBoundary : Operands.Statement .stitchBoundary := fun _ _ e => nomatch e
theorem Operands.qualificationSlot : Operands.Statement .qualificationSlot := fun _ _ e => nomatch e
theorem Operands.bookkeepingSlot (ecc : List RingEcc) (sram : List SramEcc) : Operands.Statement (.bookkeepingSlot ecc sram) := fun _ _ e => nomatch e
theorem Operands.measurementClosingSlot : Operands.Statement .measurementClosingSlot := fun _ _ e => nomatch e
theorem Operands.mirrorFrameSlot : Operands.Statement .mirrorFrameSlot := fun _ _ e => nomatch e
theorem Operands.faultWindowSlot : Operands.Statement .faultWindowSlot := fun _ _ e => nomatch e
theorem Operands.maintenanceSlot (ecc : List SramEcc) : Operands.Statement (.maintenanceSlot ecc) := fun _ _ e => nomatch e
theorem Operands.maintStepEnd (act : Fin 12) (inst : Nat) : Operands.Statement (.maintStepEnd act inst) := fun _ _ e => nomatch e
theorem Operands.maintLong (act : Fin 12) (inst : Nat) : Operands.Statement (.maintLong act inst) := fun _ _ e => nomatch e
theorem Operands.checkSample (ch : Fin 64) (code : BitVec 18) (at_ : Nat) : Operands.Statement (.checkSample ch code at_) := fun _ _ e => nomatch e
theorem Operands.tempReading (t0 : BitVec 16) (t1 : BitVec 16) (t2 : BitVec 16) (t3 : BitVec 16) : Operands.Statement (.tempReading t0 t1 t2 t3) := fun _ _ e => nomatch e
theorem Operands.estimatorIntervalEnd (ch : Fin 64) (res : List (List Int)) : Operands.Statement (.estimatorIntervalEnd ch res) := fun _ _ e => nomatch e
theorem Operands.channelSettled (ch : Fin 64) : Operands.Statement (.channelSettled ch) := fun _ _ e => nomatch e
theorem Operands.fgCalDone (tile : Fin 4) (meas : List (List Int)) : Operands.Statement (.fgCalDone tile meas) := fun _ _ e => nomatch e
theorem Operands.loopbackSettled (gen : Fin 8) : Operands.Statement (.loopbackSettled gen) := fun _ _ e => nomatch e
theorem Operands.spllLost : Operands.Statement .spllLost := fun _ _ e => nomatch e
theorem Operands.spllLocked (band : Fin 64) : Operands.Statement (.spllLocked band) := fun _ _ e => nomatch e
theorem Operands.mpllLost (late : Bool) : Operands.Statement (.mpllLost late) := fun _ _ e => nomatch e
theorem Operands.mpllLocked (band : Fin 64) : Operands.Statement (.mpllLocked band) := fun _ _ e => nomatch e
theorem Operands.memReinit (pass : BitVec 16) (maps : List (Fin 16 × BitVec 32)) : Operands.Statement (.memReinit pass maps) := fun _ _ e => nomatch e
theorem Operands.cpllLost : Operands.Statement .cpllLost := fun _ _ e => nomatch e
theorem Operands.cpllLocked (band : Fin 64) : Operands.Statement (.cpllLocked band) := fun _ _ e => nomatch e
theorem Operands.xtalFail : Operands.Statement .xtalFail := fun _ _ e => nomatch e
theorem Operands.xtalReturn : Operands.Statement .xtalReturn := fun _ _ e => nomatch e
theorem Operands.refLost (pps : Bool) : Operands.Statement (.refLost pps) := fun _ _ e => nomatch e
theorem Operands.refQualified (pps : Bool) (off : Int) : Operands.Statement (.refQualified pps off) := fun _ _ e => nomatch e
theorem Operands.slewDone : Operands.Statement .slewDone := fun _ _ e => nomatch e
theorem Operands.dtimeWrap : Operands.Statement .dtimeWrap := fun _ _ e => nomatch e
theorem Operands.ppsinEdge (ofs : Nat) : Operands.Statement (.ppsinEdge ofs) := fun _ _ e => nomatch e
theorem Operands.ppsoutPulse : Operands.Statement .ppsoutPulse := fun _ _ e => nomatch e
theorem Operands.syncinPulse : Operands.Statement .syncinPulse := fun _ _ e => nomatch e
theorem Operands.markerInputEdge (line : Fin 112) (high : Bool) : Operands.Statement (.markerInputEdge line high) := fun _ _ e => nomatch e
theorem Operands.timerFire (r : Fin 4) : Operands.Statement (.timerFire r) := fun _ _ e => nomatch e
theorem Operands.trigOutPulse (t : Fin 16) : Operands.Statement (.trigOutPulse t) := fun _ _ e => nomatch e
theorem Operands.comparatorActivate (d : Fin 256) : Operands.Statement (.comparatorActivate d) := fun _ _ e => nomatch e
theorem Operands.modLost (d : Fin 256) : Operands.Statement (.modLost d) := fun _ _ e => nomatch e
theorem Operands.modRestored (d : Fin 256) : Operands.Statement (.modRestored d) := fun _ _ e => nomatch e
theorem Operands.logFlushTimeout (n : Fin 320) : Operands.Statement (.logFlushTimeout n) := fun _ _ e => nomatch e
theorem Operands.logBlockDelivery (r : Fin 128) : Operands.Statement (.logBlockDelivery r) := fun _ _ e => nomatch e
theorem Operands.gapClose (n : Fin 320) : Operands.Statement (.gapClose n) := fun _ _ e => nomatch e
theorem Operands.recordRingDelivery (t : Fin 16) : Operands.Statement (.recordRingDelivery t) := fun _ _ e => nomatch e
theorem Operands.msixCoalTimeout (q : Fin 512) : Operands.Statement (.msixCoalTimeout q) := fun _ _ e => nomatch e
theorem Operands.eventDelivery : Operands.Statement .eventDelivery := fun _ _ e => nomatch e
theorem Operands.accFold (t : Fin 16) (unc : List Nat) : Operands.Statement (.accFold t unc) := fun _ _ e => nomatch e
theorem Operands.genFrame (g : Fin 8) (unc : Bool) : Operands.Statement (.genFrame g unc) := fun _ _ e => nomatch e
theorem Operands.underrunEnd (g : Fin 8) : Operands.Statement (.underrunEnd g) := fun _ _ e => nomatch e
theorem Operands.stagingFeed (g : Fin 8) (ws : List (BitVec 64)) (data : List (BitVec 8)) : Operands.Statement (.stagingFeed g ws data) := fun _ _ e => nomatch e
theorem Operands.guardTrip (g : Fin 8) : Operands.Statement (.guardTrip g) := fun _ _ e => nomatch e
theorem Operands.guardZero (g : Fin 8) : Operands.Statement (.guardZero g) := fun _ _ e => nomatch e
theorem Operands.hkConversionEnd (c : Fin 2) (raw : BitVec 16) : Operands.Statement (.hkConversionEnd c raw) := fun _ _ e => nomatch e
theorem Operands.selftestDone (c : Fin 2) : Operands.Statement (.selftestDone c) := fun _ _ e => nomatch e
theorem Operands.ccSelftestDone (tile : Fin 4) : Operands.Statement (.ccSelftestDone tile) := fun _ _ e => nomatch e
theorem Operands.supplyWarning (rail : Rail) : Operands.Statement (.supplyWarning rail) := fun _ _ e => nomatch e
theorem Operands.supplyEvent (rail : Rail) : Operands.Statement (.supplyEvent rail) := fun _ _ e => nomatch e
theorem Operands.supplyReset (rail : Rail) : Operands.Statement (.supplyReset rail) := fun _ _ e => nomatch e
theorem Operands.memAccess (mc : Fin 16) (rd : Nat) (ecc : MemEcc) : Operands.Statement (.memAccess mc rd ecc) := fun _ _ e => nomatch e
theorem Operands.refreshDue (mc : Fin 16) (rank : Fin 4) : Operands.Statement (.refreshDue mc rank) := fun _ _ e => nomatch e
theorem Operands.refreshCatchUp (mc : Fin 16) (rank : Fin 4) : Operands.Statement (.refreshCatchUp mc rank) := fun _ _ e => nomatch e
theorem Operands.refreshRatePoll (ask : BitVec 16) : Operands.Statement (.refreshRatePoll ask) := fun _ _ e => nomatch e
theorem Operands.actTableClear : Operands.Statement .actTableClear := fun _ _ e => nomatch e
theorem Operands.dramScrubStep (mc : Fin 16) : Operands.Statement (.dramScrubStep mc) := fun _ _ e => nomatch e
theorem Operands.migDone (mc : Fin 16) : Operands.Statement (.migDone mc) := fun _ _ e => nomatch e
theorem Operands.selfRefreshIdle (mc : Fin 16) : Operands.Statement (.selfRefreshIdle mc) := fun _ _ e => nomatch e
theorem Operands.memVerifyDone (pass : BitVec 16) (maps : List (Fin 16 × BitVec 32)) : Operands.Statement (.memVerifyDone pass maps) := fun _ _ e => nomatch e
theorem Operands.doorbellWrite (q : Fin 512) (v : BitVec 32) : Operands.Statement (.doorbellWrite q v) := fun _ _ e => nomatch e
theorem Operands.commandFetch (q : Fin 512) (ws : List (BitVec 64)) (data : List (BitVec 64)) (ecc : List SramEcc) : Operands.Statement (.commandFetch q ws data ecc) := fun _ _ e => nomatch e
theorem Operands.sequenceReread (q : Fin 512) (ws : List (BitVec 64)) (data : List (BitVec 64)) : Operands.Statement (.sequenceReread q ws data) := fun _ _ e => nomatch e
theorem Operands.adminEnWrite (val : BitVec 32) : Operands.Statement (.adminEnWrite val) := fun _ _ e => nomatch e
theorem Operands.rwhWrite (addr : BitVec 32) (val : BitVec 32) : Operands.Statement (.rwhWrite addr val) := fun _ _ e => nomatch e
theorem Operands.tabStageWrite (val : BitVec 32) : Operands.Statement (.tabStageWrite val) := fun _ _ e => nomatch e
theorem Operands.shadowLatchRead (sp : Space) (off : BitVec 32) : Operands.Statement (.shadowLatchRead sp off) := fun _ _ e => nomatch e
theorem Operands.readClear (sp : Space) (off : BitVec 32) : Operands.Statement (.readClear sp off) := fun _ _ e => nomatch e
theorem Operands.registerWrite (sp : Space) (off : BitVec 32) (val : BitVec 32) (be : BitVec 4) : Operands.Statement (.registerWrite sp off val be) := fun _ _ e => nomatch e
theorem Operands.smbusRead (off : BitVec 32) : Operands.Statement (.smbusRead off) := fun _ _ e => nomatch e
theorem Operands.pf0PowerState (d3 : Bool) : Operands.Statement (.pf0PowerState d3) := fun _ _ e => nomatch e
theorem Operands.pcieLinkDown : Operands.Statement .pcieLinkDown := fun _ _ e => nomatch e
theorem Operands.pcieLinkUp (speed : Fin 3) (width : Fin 3) : Operands.Statement (.pcieLinkUp speed width) := fun _ _ e => nomatch e
theorem Operands.pcieCompletionError (req : BusReq) (poisoned : Bool) (addr : BitVec 64) : Operands.Statement (.pcieCompletionError req poisoned addr) := fun _ _ e => nomatch e
theorem Operands.pcieCompletionTimeout (req : BusReq) (addr : BitVec 64) : Operands.Statement (.pcieCompletionTimeout req addr) := fun _ _ e => nomatch e
theorem Operands.dmaDoorbellWrite (k : Fin 32) (v : BitVec 32) : Operands.Statement (.dmaDoorbellWrite k v) := fun _ _ e => nomatch e
theorem Operands.dmaDescriptorFetch (k : Fin 32) (ws : List (BitVec 64)) : Operands.Statement (.dmaDescriptorFetch k ws) := fun _ _ e => nomatch e
theorem Operands.dmaTransferUnit (k : Fin 32) (data : List (BitVec 8)) (unc : List Nat) : Operands.Statement (.dmaTransferUnit k data unc) := fun _ _ e => nomatch e
theorem Operands.descDone (k : Fin 32) : Operands.Statement (.descDone k) := fun _ _ e => nomatch e
theorem Operands.dmaPause (k : Fin 32) : Operands.Statement (.dmaPause k) := fun _ _ e => nomatch e
theorem Operands.dmaPaused (k : Fin 32) : Operands.Statement (.dmaPaused k) := fun _ _ e => nomatch e
theorem Operands.dmaResume (k : Fin 32) : Operands.Statement (.dmaResume k) := fun _ _ e => nomatch e
theorem Operands.hoopStrapChange (high : Bool) : Operands.Statement (.hoopStrapChange high) := fun _ _ e => nomatch e
theorem Operands.unsealLapsed : Operands.Statement .unsealLapsed := fun _ _ e => nomatch e
theorem Operands.changeDone : Operands.Statement .changeDone := fun _ _ e => nomatch e
theorem Operands.auditFlush : Operands.Statement .auditFlush := fun _ _ e => nomatch e
theorem Operands.mirrorFrameReceived (frame : MirrorFrame) : Operands.Statement (.mirrorFrameReceived frame) := fun _ _ e => nomatch e
theorem Operands.frameMissed : Operands.Statement .frameMissed := fun _ _ e => nomatch e
theorem Operands.twlTrainingDone (p : Partner) : Operands.Statement (.twlTrainingDone p) := fun _ _ e => nomatch e
theorem Operands.twlTrainingTimeout : Operands.Statement .twlTrainingTimeout := fun _ _ e => nomatch e
theorem Operands.powerOnReset : Operands.Statement .powerOnReset := fun _ _ e => nomatch e
theorem Operands.resetNPin : Operands.Statement .resetNPin := fun _ _ e => nomatch e
theorem Operands.perst : Operands.Statement .perst := fun _ _ e => nomatch e
theorem Operands.flrPf0 : Operands.Statement .flrPf0 := fun _ _ e => nomatch e
theorem Operands.flrPf1 : Operands.Statement .flrPf1 := fun _ _ e => nomatch e
theorem Operands.watchdogExpiry : Operands.Statement .watchdogExpiry := fun _ _ e => nomatch e
theorem Operands.resetAfterCompletion : Operands.Statement .resetAfterCompletion := fun _ _ e => nomatch e
theorem Operands.jtagTestExit : Operands.Statement .jtagTestExit := fun _ _ e => nomatch e
theorem Operands.bootStageComplete (r : BootResult) : Operands.Statement (.bootStageComplete r) := fun _ _ e => nomatch e
theorem Operands.retEntered : Operands.Statement .retEntered := fun _ _ e => nomatch e
theorem Operands.retExited (pass : BitVec 16) (maps : List (Fin 16 × BitVec 32)) : Operands.Statement (.retExited pass maps) := fun _ _ e => nomatch e
theorem Operands.identify (h : HostCmd) : Operands.Statement (.identify h) := fun w _ e => Option.some.inj e ▸ w
theorem Operands.queueCreate (h : HostCmd) : Operands.Statement (.queueCreate h) := fun w _ e => Option.some.inj e ▸ w
theorem Operands.queueDelete (h : HostCmd) : Operands.Statement (.queueDelete h) := fun w _ e => Option.some.inj e ▸ w
theorem Operands.eventRoute (h : HostCmd) : Operands.Statement (.eventRoute h) := fun w _ e => Option.some.inj e ▸ w
theorem Operands.deviceState (h : HostCmd) : Operands.Statement (.deviceState h) := fun w _ e => Option.some.inj e ▸ w
theorem Operands.softReset (h : HostCmd) : Operands.Statement (.softReset h) := fun w _ e => Option.some.inj e ▸ w
theorem Operands.flashWrite (h : HostCmd) : Operands.Statement (.flashWrite h) := fun w _ e => Option.some.inj e ▸ w
theorem Operands.flashActivate (h : HostCmd) : Operands.Statement (.flashActivate h) := fun w _ e => Option.some.inj e ▸ w
theorem Operands.nop (h : HostCmd) : Operands.Statement (.nop h) := fun w _ e => Option.some.inj e ▸ w
theorem Operands.chConfig (h : HostCmd) : Operands.Statement (.chConfig h) := fun w _ e => Option.some.inj e ▸ w
theorem Operands.quadCombine (h : HostCmd) : Operands.Statement (.quadCombine h) := fun w _ e => Option.some.inj e ▸ w
theorem Operands.fgCal (h : HostCmd) : Operands.Statement (.fgCal h) := fun w _ e => Option.some.inj e ▸ w
theorem Operands.calRelease (h : HostCmd) : Operands.Statement (.calRelease h) := fun w _ e => Option.some.inj e ▸ w
theorem Operands.loopback (h : HostCmd) : Operands.Statement (.loopback h) := fun w _ e => Option.some.inj e ▸ w
theorem Operands.setMembers (h : HostCmd) : Operands.Statement (.setMembers h) := fun w _ e => Option.some.inj e ▸ w
theorem Operands.setConfig (h : HostCmd) : Operands.Statement (.setConfig h) := fun w _ e => Option.some.inj e ▸ w
theorem Operands.setBind (h : HostCmd) : Operands.Statement (.setBind h) := fun w _ e => Option.some.inj e ▸ w
theorem Operands.setArm (h : HostCmd) : Operands.Statement (.setArm h) := fun w _ e => Option.some.inj e ▸ w
theorem Operands.setDisarm (h : HostCmd) : Operands.Statement (.setDisarm h) := fun w _ e => Option.some.inj e ▸ w
theorem Operands.setRearm (h : HostCmd) : Operands.Statement (.setRearm h) := fun w _ e => Option.some.inj e ▸ w
theorem Operands.trgUnitSet (h : HostCmd) : Operands.Statement (.trgUnitSet h) := fun w _ e => Option.some.inj e ▸ w
theorem Operands.trgProgram (h : HostCmd) : Operands.Statement (.trgProgram h) := fun w _ e => Option.some.inj e ▸ w
theorem Operands.trgPattern (h : HostCmd) : Operands.Statement (.trgPattern h) := fun w _ e => Option.some.inj e ▸ w
theorem Operands.trgIo (h : HostCmd) : Operands.Statement (.trgIo h) := fun w _ e => Option.some.inj e ▸ w
theorem Operands.trgQseg (h : HostCmd) : Operands.Statement (.trgQseg h) := fun w _ e => Option.some.inj e ▸ w
theorem Operands.trgTimer (h : HostCmd) : Operands.Statement (.trgTimer h) := fun w _ e => Option.some.inj e ▸ w
theorem Operands.trgOut (h : HostCmd) : Operands.Statement (.trgOut h) := fun w _ e => Option.some.inj e ▸ w
theorem Operands.trgSoft (h : HostCmd) : Operands.Statement (.trgSoft h) := fun w _ e => Option.some.inj e ▸ w
theorem Operands.prkExport (h : HostCmd) : Operands.Statement (.prkExport h) := fun w _ e => Option.some.inj e ▸ w
theorem Operands.basteRead (h : HostCmd) : Operands.Statement (.basteRead h) := fun w _ e => Option.some.inj e ▸ w
theorem Operands.logRingSet (h : HostCmd) : Operands.Statement (.logRingSet h) := fun w _ e => Option.some.inj e ▸ w
theorem Operands.logStreamCfg (h : HostCmd) : Operands.Statement (.logStreamCfg h) := fun w _ e => Option.some.inj e ▸ w
theorem Operands.logStart (h : HostCmd) : Operands.Statement (.logStart h) := fun w _ e => Option.some.inj e ▸ w
theorem Operands.logStop (h : HostCmd) : Operands.Statement (.logStop h) := fun w _ e => Option.some.inj e ▸ w
theorem Operands.logMgSet (h : HostCmd) : Operands.Statement (.logMgSet h) := fun w _ e => Option.some.inj e ▸ w
theorem Operands.logMdSet (h : HostCmd) : Operands.Statement (.logMdSet h) := fun w _ e => Option.some.inj e ▸ w
theorem Operands.logFlush (h : HostCmd) : Operands.Statement (.logFlush h) := fun w _ e => Option.some.inj e ▸ w
theorem Operands.accConfig (h : HostCmd) : Operands.Statement (.accConfig h) := fun w _ e => Option.some.inj e ▸ w
theorem Operands.accBind (h : HostCmd) : Operands.Statement (.accBind h) := fun w _ e => Option.some.inj e ▸ w
theorem Operands.accRead (h : HostCmd) : Operands.Statement (.accRead h) := fun w _ e => Option.some.inj e ▸ w
theorem Operands.accClear (h : HostCmd) : Operands.Statement (.accClear h) := fun w _ e => Option.some.inj e ▸ w
theorem Operands.measSlot (h : HostCmd) : Operands.Statement (.measSlot h) := fun w _ e => Option.some.inj e ▸ w
theorem Operands.measBind (h : HostCmd) : Operands.Statement (.measBind h) := fun w _ e => Option.some.inj e ▸ w
theorem Operands.measExport (h : HostCmd) : Operands.Statement (.measExport h) := fun w _ e => Option.some.inj e ▸ w
theorem Operands.measStats (h : HostCmd) : Operands.Statement (.measStats h) := fun w _ e => Option.some.inj e ▸ w
theorem Operands.genConfig (h : HostCmd) : Operands.Statement (.genConfig h) := fun w _ e => Option.some.inj e ▸ w
theorem Operands.genSegWrite (h : HostCmd) : Operands.Statement (.genSegWrite h) := fun w _ e => Option.some.inj e ▸ w
theorem Operands.genSeqWrite (h : HostCmd) : Operands.Statement (.genSeqWrite h) := fun w _ e => Option.some.inj e ▸ w
theorem Operands.genArm (h : HostCmd) : Operands.Statement (.genArm h) := fun w _ e => Option.some.inj e ▸ w
theorem Operands.genStart (h : HostCmd) : Operands.Statement (.genStart h) := fun w _ e => Option.some.inj e ▸ w
theorem Operands.genStop (h : HostCmd) : Operands.Statement (.genStop h) := fun w _ e => Option.some.inj e ▸ w
theorem Operands.genJump (h : HostCmd) : Operands.Statement (.genJump h) := fun w _ e => Option.some.inj e ▸ w
theorem Operands.genNcoSet (h : HostCmd) : Operands.Statement (.genNcoSet h) := fun w _ e => Option.some.inj e ▸ w
theorem Operands.genSkew (h : HostCmd) : Operands.Statement (.genSkew h) := fun w _ e => Option.some.inj e ▸ w
theorem Operands.genGuard (h : HostCmd) : Operands.Statement (.genGuard h) := fun w _ e => Option.some.inj e ▸ w
theorem Operands.genGuardReset (h : HostCmd) : Operands.Statement (.genGuardReset h) := fun w _ e => Option.some.inj e ▸ w
theorem Operands.genSrBind (h : HostCmd) : Operands.Statement (.genSrBind h) := fun w _ e => Option.some.inj e ▸ w
theorem Operands.genTrig (h : HostCmd) : Operands.Statement (.genTrig h) := fun w _ e => Option.some.inj e ▸ w
theorem Operands.tbSource (h : HostCmd) : Operands.Statement (.tbSource h) := fun w _ e => Option.some.inj e ▸ w
theorem Operands.tbRate (h : HostCmd) : Operands.Statement (.tbRate h) := fun w _ e => Option.some.inj e ▸ w
theorem Operands.tbTod (h : HostCmd) : Operands.Statement (.tbTod h) := fun w _ e => Option.some.inj e ▸ w
theorem Operands.tbSpread (h : HostCmd) : Operands.Statement (.tbSpread h) := fun w _ e => Option.some.inj e ▸ w
theorem Operands.tbOutputs (h : HostCmd) : Operands.Statement (.tbOutputs h) := fun w _ e => Option.some.inj e ▸ w
theorem Operands.tbSync (h : HostCmd) : Operands.Statement (.tbSync h) := fun w _ e => Option.some.inj e ▸ w
theorem Operands.areaCreate (h : HostCmd) : Operands.Statement (.areaCreate h) := fun w _ e => Option.some.inj e ▸ w
theorem Operands.areaDestroy (h : HostCmd) : Operands.Statement (.areaDestroy h) := fun w _ e => Option.some.inj e ▸ w
theorem Operands.areaClear (h : HostCmd) : Operands.Statement (.areaClear h) := fun w _ e => Option.some.inj e ▸ w
theorem Operands.memScrub (h : HostCmd) : Operands.Statement (.memScrub h) := fun w _ e => Option.some.inj e ▸ w
theorem Operands.memMigrate (h : HostCmd) : Operands.Statement (.memMigrate h) := fun w _ e => Option.some.inj e ▸ w
theorem Operands.memPasrSet (h : HostCmd) : Operands.Statement (.memPasrSet h) := fun w _ e => Option.some.inj e ▸ w
theorem Operands.memSrSet (h : HostCmd) : Operands.Statement (.memSrSet h) := fun w _ e => Option.some.inj e ▸ w
theorem Operands.memAgeSet (h : HostCmd) : Operands.Statement (.memAgeSet h) := fun w _ e => Option.some.inj e ▸ w
theorem Operands.memVerify (h : HostCmd) : Operands.Statement (.memVerify h) := fun w _ e => Option.some.inj e ▸ w
theorem Operands.pairForm (h : HostCmd) : Operands.Statement (.pairForm h) := fun w _ e => Option.some.inj e ▸ w
theorem Operands.pairDissolve (h : HostCmd) : Operands.Statement (.pairDissolve h) := fun w _ e => Option.some.inj e ▸ w
theorem Operands.pairRoleSwap (h : HostCmd) : Operands.Statement (.pairRoleSwap h) := fun w _ e => Option.some.inj e ▸ w
theorem Operands.pairRejoin (h : HostCmd) : Operands.Statement (.pairRejoin h) := fun w _ e => Option.some.inj e ▸ w
theorem Operands.pairTwinCheck (h : HostCmd) : Operands.Statement (.pairTwinCheck h) := fun w _ e => Option.some.inj e ▸ w
theorem Operands.pairRetrain (h : HostCmd) : Operands.Statement (.pairRetrain h) := fun w _ e => Option.some.inj e ▸ w
theorem Operands.pairConfig (h : HostCmd) : Operands.Statement (.pairConfig h) := fun w _ e => Option.some.inj e ▸ w
theorem Operands.hoopUnseal (h : HostCmd) : Operands.Statement (.hoopUnseal h) := fun w _ e => Option.some.inj e ▸ w
theorem Operands.hoopSeal (h : HostCmd) : Operands.Statement (.hoopSeal h) := fun w _ e => Option.some.inj e ▸ w
theorem Operands.hoopCommit (h : HostCmd) : Operands.Statement (.hoopCommit h) := fun w _ e => Option.some.inj e ▸ w
theorem Operands.hoopLogExport (h : HostCmd) : Operands.Statement (.hoopLogExport h) := fun w _ e => Option.some.inj e ▸ w
theorem Operands.hoopLogAck (h : HostCmd) : Operands.Statement (.hoopLogAck h) := fun w _ e => Option.some.inj e ▸ w
theorem Operands.hoopFwLoad (h : HostCmd) : Operands.Statement (.hoopFwLoad h) := fun w _ e => Option.some.inj e ▸ w
theorem Operands.hoopDiscard (h : HostCmd) : Operands.Statement (.hoopDiscard h) := fun w _ e => Option.some.inj e ▸ w
theorem Operands.hoopNote (h : HostCmd) : Operands.Statement (.hoopNote h) := fun w _ e => Option.some.inj e ▸ w
theorem Operands.dmaBind (h : HostCmd) : Operands.Statement (.dmaBind h) := fun w _ e => Option.some.inj e ▸ w
theorem Operands.dmaUnbind (h : HostCmd) : Operands.Statement (.dmaUnbind h) := fun w _ e => Option.some.inj e ▸ w
theorem Operands.dmaRecover (h : HostCmd) : Operands.Statement (.dmaRecover h) := fun w _ e => Option.some.inj e ▸ w
theorem Operands.hkSeq (h : HostCmd) : Operands.Statement (.hkSeq h) := fun w _ e => Option.some.inj e ▸ w
theorem Operands.hkConvert (h : HostCmd) : Operands.Statement (.hkConvert h) := fun w _ e => Option.some.inj e ▸ w
theorem Operands.hkSnapshot (h : HostCmd) : Operands.Statement (.hkSnapshot h) := fun w _ e => Option.some.inj e ▸ w
theorem Operands.hkSelftest (h : HostCmd) : Operands.Statement (.hkSelftest h) := fun w _ e => Option.some.inj e ▸ w
theorem Operands.fltConfig (h : HostCmd) : Operands.Statement (.fltConfig h) := fun w _ e => Option.some.inj e ▸ w
theorem Operands.fltClear (h : HostCmd) : Operands.Statement (.fltClear h) := fun w _ e => Option.some.inj e ▸ w
theorem Operands.fltInject (h : HostCmd) : Operands.Statement (.fltInject h) := fun w _ e => Option.some.inj e ▸ w
theorem Operands.fltHistory (h : HostCmd) : Operands.Statement (.fltHistory h) := fun w _ e => Option.some.inj e ▸ w
theorem Operands.maintCfg (h : HostCmd) : Operands.Statement (.maintCfg h) := fun w _ e => Option.some.inj e ▸ w
theorem Operands.ccSelftest (h : HostCmd) : Operands.Statement (.ccSelftest h) := fun w _ e => Option.some.inj e ▸ w
theorem Operands.sramScrub (h : HostCmd) : Operands.Statement (.sramScrub h) := fun w _ e => Option.some.inj e ▸ w
theorem Operands.maintCancel (h : HostCmd) : Operands.Statement (.maintCancel h) := fun w _ e => Option.some.inj e ▸ w
theorem Operands.mclkEdge (g : Fin 16) (e : Nat) (lead : BitVec 16) (trail : BitVec 16) : Operands.Statement (.mclkEdge g e lead trail) := fun _ _ e => nomatch e
theorem Operands.twlInvalidSyncHeader (lane : Fin 4) : Operands.Statement (.twlInvalidSyncHeader lane) := fun _ _ e => nomatch e
theorem Operands.pcieCorrectableError : Operands.Statement .pcieCorrectableError := fun _ _ e => nomatch e
theorem Operands.resetNRelease : Operands.Statement .resetNRelease := fun _ _ e => nomatch e
theorem Operands.tpllLocked : Operands.Statement .tpllLocked := fun _ _ e => nomatch e

end Sys2Proof.Laws
end

