-- ==== Sys2Proof/Laws/Seal.lean ====
section
/-! SUPPORT. What a transition of the Hoop does to the seal, and what it leaves alone (R380–R394). -/
namespace Sys2Proof.Machine
open Sys2Proof

/-- A burn writes nothing of the seal but the count of burnt steps. -/
theorem burn_seal (s : State) : s.burn.hoopSeal = { s.hoopSeal with fuseUsed := s.burn.hoopSeal.fuseUsed } := by
  unfold State.burn; split <;> rfl
@[simp] theorem burn_pending (s : State) : s.burn.pending = s.pending := by unfold State.burn; split <;> rfl
@[simp] theorem burn_dram (s : State) : s.burn.dram = s.dram := by unfold State.burn; split <;> rfl
@[simp] theorem burn_gf (s : State) : s.burn.hoopSeal.gf = s.hoopSeal.gf := by rw [burn_seal]
@[simp] theorem burn_st (s : State) : s.burn.hoopSeal.st = s.hoopSeal.st := by rw [burn_seal]

/-- Fuse steps only ever burn. -/
theorem burn_used_le (s : State) : s.hoopSeal.fuseUsed ≤ s.burn.hoopSeal.fuseUsed := by
  unfold State.burn
  split
  · exact Nat.le_refl _
  · exact Nat.le_succ _

variable (s : State) (dest : SealSt) (cause source t : Nat) (rv : Bool)

@[simp] theorem sealTo_pending : (s.sealTo dest cause source t rv).pending = s.pending := by
  unfold State.sealTo; exact burn_pending s
@[simp] theorem sealTo_dram : (s.sealTo dest cause source t rv).dram = s.dram := by
  unfold State.sealTo; exact burn_dram s
@[simp] theorem sealTo_gf : (s.sealTo dest cause source t rv).hoopSeal.gf = s.hoopSeal.gf := by
  unfold State.sealTo; exact burn_gf s
@[simp] theorem sealTo_st : (s.sealTo dest cause source t rv).hoopSeal.st = dest := rfl

/-- A transition keeps the seal legal, unless it seals an LQ6420-GF. -/
theorem legal_sealTo (h : dest = .sealed → s.hoopSeal.gf = false) : (s.sealTo dest cause source t rv).hoopSeal.legal = true := by
  unfold Seal.legal
  rw [sealTo_gf, sealTo_st]
  cases dest
  · cases s.hoopSeal.gf <;> rfl
  · rw [h rfl]; rfl
  · cases s.hoopSeal.gf <;> rfl

/-- A seal by strap leaves memory and the queue alone, and keeps the variant. -/
theorem strapSeal_keeps (source t : Nat) : (s.strapSeal source t).pending = s.pending ∧ (s.strapSeal source t).dram = s.dram ∧
    (s.strapSeal source t).hoopSeal.gf = s.hoopSeal.gf := by
  unfold State.strapSeal
  dsimp only
  split
  · simp
  · split
    · exact ⟨rfl, rfl, rfl⟩
    · simp

/-- A seal by strap of a device that can be sealed leaves the seal legal. -/
theorem legal_strapSeal (source t : Nat) (h : s.hoopSeal.gf = false) : (s.strapSeal source t).hoopSeal.legal = true := by
  unfold Seal.legal
  rw [(strapSeal_keeps s source t).2.2, h]
  rfl

/-- The strap leaves memory and the queue alone, and keeps the variant. -/
theorem strap_keeps (high : Bool) (t : Nat) : (s.strap high t).pending = s.pending ∧ (s.strap high t).dram = s.dram ∧
    (s.strap high t).hoopSeal.gf = s.hoopSeal.gf := by
  unfold State.strap
  split
  · exact ⟨rfl, rfl, rfl⟩
  · dsimp only
    split
    · simp
    · simp
    · simp
    · split
      · exact ⟨rfl, rfl, rfl⟩
      · exact strapSeal_keeps _ _ _
    · exact ⟨rfl, rfl, rfl⟩

/-- The strap keeps the seal legal: an LQ6420-GF ignores it. -/
theorem legal_strap (high : Bool) (t : Nat) (h : s.hoopSeal.legal = true) : (s.strap high t).hoopSeal.legal = true := by
  by_cases hg : s.hoopSeal.gf = true
  · unfold State.strap
    rw [if_pos (by simp [hg])]
    exact h
  · unfold Seal.legal
    rw [(strap_keeps s high t).2.2, Bool.eq_false_iff.mpr hg]
    rfl

end Sys2Proof.Machine
end

