-- ==== Sys2Proof/Tests/Slice0.lean ====
section
/-! SUPPORT. Tests: ill-formed terms, small steps with results taken from the spec, and states that meet the hypotheses of
the obligations. -/
namespace Sys2Proof.Tests
open Sys2Proof Sys2Proof.Machine

/-- A device in full service: loops locked, core running, memory in service with a record area, a spool and a staging area,
and channel 0 ON. -/
def dev (l : List (Fld × List Nat × Nat)) : Mach :=
  { ({} : Mach).wrs ([(HIF_DEV_STAGE, [], 7), (TBS_STATUS_SPLL_ST, [], pllLocked), (TBS_STATUS_MPLL_ST, [], pllLocked),
      (MEM_STAT_STATE, [], memAvailable), (TIL_CH_CFG_ENABLE, [0], 1), (TIL_CH_STAT_STATE, [0], chOn),
      (MEM_AREA_CFG_TYPE, [0], areaRecord), (MEM_AREA_SIZE_VALUE, [0], 64), (MEM_AREA_CFG_TYPE, [1], areaSpool),
      (MEM_AREA_BASE_VALUE, [1], 64), (MEM_AREA_SIZE_VALUE, [1], 64), (MEM_AREA_CFG_TYPE, [2], areaStaging),
      (MEM_AREA_BASE_VALUE, [2], 128), (MEM_AREA_SIZE_VALUE, [2], 64)] ++ l) with tb := { running := true } }

/-- The state around a device: the Hoop OPEN, memory empty, nothing pending. -/
def st (m : Mach) : State := ⟨[], ⟨false, .opened, 0, false, 0⟩, ⟨[], []⟩, m⟩

/-- Channel 0 in set 0, which makes a list of one record of one block. -/
def setOn : List (Fld × List Nat × Nat) :=
  [(CAP_SET_MEMB, [0], 1), (CAP_SET_CFG_LIST, [0], 1), (CAP_SET_CFG_DELIVER, [0], 0), (CAP_SET_LIST_N_VALUE, [0], 1),
   (CAP_SET_PRK_CNT_VALUE, [0], 1), (CAP_SET_POST, [0], 2048)]
def genRuns : List (Fld × List Nat × Nat) := [(GEN_STAT_STATE, [0], gRunning)]
def pri : List (Fld × List Nat × Nat) := [(TWL_STAT_ROLE, [], rolePrimary), (TWL_STAT_LINK_UP, [], 1)]
def tileBusy : List (Fld × List Nat × Nat) := [(TIL_TILE_STAT_FG_ACTIVE, [0], 1)]
def logBound : List (Fld × List Nat × Nat) := [(LOG_STR_CFG_BOUND, [0], 1), (LOG_RING_CFG_AREA, [0], 1), (LOG_RING_SLOTS_VALUE, [0], 8)]
def logRuns : List (Fld × List Nat × Nat) := [(LOG_STR_STAT_STATE, [0], lsRunning)]
def logGap : List (Fld × List Nat × Nat) := [(LOG_STR_STAT_STATE, [0], lsGap)]
def refGood : List (Fld × List Nat × Nat) := [(TBS_CFG_SRC, [], 1), (TBS_STATUS_REF_OK, [], 1)]
def ppsGood : List (Fld × List Nat × Nat) := [(TBS_CFG_SRC, [], 2), (TBS_STATUS_PPS_OK, [], 1)]
def locking : List (Fld × List Nat × Nat) := refGood ++ [(TBS_STATUS_TPLL_ST, [], tpQualifying)]
def spare : List (Fld × List Nat × Nat) := [(MEM_CFG_RANKS, [], 1), (MEM_CFG_SPARE_EN, [], 1), (MEM_MC_STAT_RANK_ST, [0], 1)]
def fitted : List (Fld × List Nat × Nat) := [(HOOP_STAT_STRAP, [], 0)]
def unsealing : List (Fld × List Nat × Nat) := [(HOOP_STAT_UNSEAL_PEND, [], 1)]
def dirty1 : List (Fld × List Nat × Nat) := [(HOOP_STAT_DIRTY, [], 1)]
def retained (phase : Nat) : List (Fld × List Nat × Nat) := [(HIF_DEV_STATE, [], 3), (PWR_RET_STAT_PHASE, [], phase)]
def est : List (Fld × List Nat × Nat) := [(TIL_CH_CFG_EST_EN, [0], 1)]
def fellBack : List (Fld × List Nat × Nat) := [(TBS_STATUS_ACQ_FALLBACK, [], 1)]
def memLost : List (Fld × List Nat × Nat) := [(TBS_STATUS_MPLL_ST, [], pllLost), (MEM_STAT_STATE, [], memUnavailable)]
def verifying : List (Fld × List Nat × Nat) := [(MEM_STAT_STATE, [], memVerifying), (TBS_STATUS_MEM_UNAVAIL, [], 1)]
def scrubs : List (Fld × List Nat × Nat) := [(MEM_SCRUB_CFG_HOURS, [], 24)]
def tabled : List (Fld × List Nat × Nat) := [(TIL_TAB_ADDR_SRC, [], 1), (TIL_TAB_ADDR_AUTOINC, [], 1)]
def guarded : List (Fld × List Nat × Nat) := genRuns ++ [(GEN_CFG_GUARD_EN, [0], 1)]
def waits0 : Mach := { dev [] with flt := { deferred := [{ act := 0, inst := 0, since := 0 }] } }
def runs1 : Mach := { dev [] with flt := { running := [{ act := actRetention, inst := 0, since := 0 }] } }
def running (a : Nat) : Mach := { dev [] with flt := { running := [{ act := a, inst := 0, since := 0 }] } }
def dueAt (k : Nat) : Mach := { dev [] with hif := { changes := [(k, .other 1 [])] } }
def lastCycle : Mach := { dev [] with tb := { running := true, cyc := 256 } }
def timed : Mach := { dev [] with trg := { timers := [(0, 0)] } }
def settling : Mach :=
  { dev [(TIL_CH_STAT_STATE, [0], chSettling)] with
    smp := { chans := [(0, { firstValid := 1, settleFrom := 1 })] }, tb := { running := true, stitch := 1 } }
def looped : Mach := { dev [] with hif := { waits := [⟨0x14, {}, 0⟩] } }
def held : State := { State.reset with m := { State.reset.m with hif := { inReset := true }, boot := { pinLow := true } } }
def dry : State := { State.reset with m := { State.reset.m with hif := { inReset := true }, boot := { xtalOut := true } } }
def resetDue (c : Nat) : Mach := { dev [] with hif := { resetDue := some c } }
def stage (n : Nat) (l : List (Fld × List Nat × Nat)) : Mach := { dev l with boot := { next := some n } }
def warned : Mach := { dev [] with boot := { warn := [(3, (0, 0))] } }
def request0 (data : Option (List (BitVec 8))) (clear : Option Nat) : MemReq :=
  { cls := 3, src := .other, line := 0, data := data, since := 0, clear := clear }
def queued (data : Option (List (BitVec 8))) (clear : Option Nat) : Mach := { dev [] with mem := { queue := [request0 data clear] } }
def urgent (backlog : List (Nat × Nat)) : Mach :=
  { dev [] with mem := { queue := [{ request0 none none with cls := 0 }], backlog := backlog } }
def verified : Mach := { dev [(MEM_STAT_STATE, [], memVerifying)] with hif := { waits := [⟨0x98, {}, 0⟩] } }
/-- The link is up, and the admin queue of four entries holds one. -/
def linked0 : Mach :=
  { dev [(HIF_Q_CFG_CREATED, [0], 1), (HIF_Q_CFG_LOG2SIZE, [0], 2), (HIF_Q_CFG_CREATED, [1], 1), (HIF_Q_CFG_LOG2SIZE, [1], 2),
         (HIF_Q_PTR_HOST_PTR, [0], 1), (HIF_CTL_ADMIN_EN, [], 1)] with hif := { linkUp := true } }
def linked1 : Mach := { dev [] with hif := { linkUp := true } }
def reread (n : Nat) : Mach := { linked0 with hif := { linkUp := true, queues := [(0, { rereads := n })] } }
def unsignalled : Mach := { dev [(HIF_Q_COAL_COAL_TIME, [1], 1)] with hif := { queues := [(1, { unsig := 1 })] } }
def dmaAt (s : Nat) : Mach :=
  { dev [(DMA_CH_CFG_BOUND, [0], 1), (DMA_CH_CFG_LOG2SIZE, [0], 2), (DMA_DB_TAIL, [0], 1), (DMA_CH_STAT_STATE, [0], s)] with
    hif := { linkUp := true } }
/-- A descriptor that copies the first line of the record area to host memory. -/
def copy64 : List Nat := [0x20, 0, 0x1000, 64, 0, 0, 0, 0]
def dmaBusy : Mach := { dmaAt dsRunning with dma := { ch := [(0, { desc := some copy64 })] } }
def dmaDone : Mach := { dmaAt dsRunning with dma := { ch := [(0, { desc := some copy64, pos := 64 })] } }
/-- The stitch when slot `i` is next, at cycle `c`. -/
def slotAtCyc (i c : Nat) (l : List (Fld × List Nat × Nat)) : Mach := { dev l with tb := { running := true, slot := i, cyc := c } }
/-- A TB_SOURCE to another frequency whose commit runs. -/
def sourcing : Mach := { dev [] with hoop := { commits := [⟨[6], 0x80, some { w2 := 25000000 }⟩] } }
def committing2 : Mach := { dev [] with hoop := { commits := [⟨[1, 2], 0xB2, none⟩] } }
def modin (v : ModIn) : Mach := { dev [] with log := { inp := [(0, v)] } }
def modLostOk : Mach := { dev [(LOG_MG_STAT_LOST, [0], 1)] with log := { inp := [(0, { okAt := some 0 })] } }
def spooled : Mach :=
  { dev [(HIF_Q_CFG_CREATED, [256], 1), (HIF_Q_CFG_LOG2SIZE, [256], 2)] with
    hif := { linkUp := true }, log := { ring := [(0, { blocks := [⟨0, 0, 0, 1, 0⟩] })] } }
def closed1 : Mach :=
  { dev [] with tb := { running := true, stitch := 2 }, cap := { closed := [⟨0, default, 0, 0, 0, 0, 0, false, true, false⟩] } }
def genUnder (policy : Nat) : Mach :=
  { dev (genRuns ++ [(GEN_CFG_UNDERRUN_POLICY, [0], policy)]) with gen := { g := [(0, { under := some 0 })] } }
def fed : Mach :=
  { dev [(HIF_Q_CFG_CREATED, [384], 1), (HIF_Q_CFG_LOG2SIZE, [384], 2), (HIF_Q_PTR_HOST_PTR, [384], 1), (GEN_STG_AREA_BOUND, [0], 1)] with
    hif := { linkUp := true } }
def ramping : Mach := { dev genRuns with gen := { g := [(0, { ramp := some (0, 1), n := 32 })] } }
def hkCur (c : HkConv) (t : Option (Nat × Nat × Nat)) : Mach := { dev [] with hk := { c := [(0, { cur := some c, test := t })] } }
def late : Mach := { dev pri with tb := { running := true, stitch := 3 } }
def training (n : Nat) : Mach := { dev [] with pair := { training := n } }
/-- The command passes all its checks, as a truth value. -/
def admits (ci : CmdInfo) (own : HostCmd → State → Option Nat) (h : HostCmd) (s : State) : Bool :=
  submissionQ h.q && decide (commonRefusal ci h s.m = none) && decide (own h s = none)

theorem admitted {ci : CmdInfo} {own : HostCmd → State → Option Nat} {h : HostCmd} {s : State}
    (e : admits ci own h s = true) : Admitted ci own h s := by
  simp only [admits, Bool.and_eq_true, decide_eq_true_eq] at e
  exact ⟨e.1.1, e.1.2, e.2⟩

/-- An LQ6420-GF in full service. -/
def gfSt : State := { st (dev []) with hoopSeal := ⟨true, .opened, 0, false, 0⟩ }

/-- A scrub request that has waited ten seconds. -/
def longWait : Mach := { dev [] with
  flt := { deferred := [{ act := 4, inst := 0, since := 0 }] }, tb := { dt := (10000 * msDt) * 2 ^ 40 } }

/-- Samples enough for the check sample at base sample `watchAt`. -/
def watched : Mach := { dev [] with smp := { chans := [(0, { s3 := List.replicate 2501 0, s3Next := 2501 })] } }
def watchAt : Nat := 2500 * ((dev []).rd TIL_CHK_ALIGN_ALIGN [0] / 2500 + 1)
/-- An estimator interval with samples over the range and no reason to discard it. -/
def estimated : Mach := { dev est with
  smp := { chans := [(0, { estN := 512, estSq := 32768 * 32768 })] }, tb := { running := true, stitch := 512 } }
def scrubbing : Mach := { dev [] with mem := { queue := [{ request0 none none with src := .scrub }] } }
def stepped (a : Nat) : Mach := { dev [] with
  flt := { running := [{ act := a, inst := 0, since := 0, args := [1] }], scrub := some ⟨0, 0, true, false⟩ }
  pair := { twinOn := true } }
/-- A watch on the housekeeping converter B while rail 3 is below its warning level. -/
def watching : Mach := { dev [(PWR_RAIL_STAT_WARN, [], 8)] with
  hk := { c := [(1, { cur := some (.watch 28) })] }, boot := { warn := [(3, (0, 0))] } }
/-- An NCO pass of 128 samples, and a generator that plays it. -/
def nco : Play := { idx := 0, e := 0, si := 0, seg := [2, 128, 0, 0], start := 0 }
def playing : Mach := { dev genRuns with gen := { g := [(0, { play := some nco })] } }
def notDue : Mach := { dev genRuns with gen := { g := [(0, { n := 64 })] } }
def rereadGen : Mach := { dev [] with hif := { queues := [(genQ 0, { rereads := 1 })] } }
/-- A completion entry of the admin queue waits for the link, and some data. -/
def tx1 (c3 : List Pkt) : Tx := { c1 := [⟨1, 2, 2, .cmd 0 7⟩], c3 := c3 }
/-! ### Ill-formed terms: each check of `Instr.wf` refuses one -/

theorem test_wf_events :
    (Instr.coreCycle [(0, List.replicate 33 0)]).wf = false ∧ (Instr.coreCycle [(0, List.replicate 32 0)]).wf = true ∧
    (Instr.bookkeepingSlot [] [⟨0, .acc 16 0, none, true⟩]).wf = false ∧
    (Instr.maintenanceSlot [⟨0, .prk 131072, none, true⟩]).wf = false ∧
    (Instr.maintenanceSlot [⟨0, .queue 512, none, true⟩]).wf = false ∧
    (Instr.maintStepEnd 0 4).wf = false ∧ (Instr.maintLong 5 64).wf = false ∧
    (Instr.estimatorIntervalEnd 0 (List.replicate 17 [0, 0, 0, 0, 0])).wf = false ∧
    (Instr.estimatorIntervalEnd 0 [[0]]).wf = false ∧ (Instr.fgCalDone 0 []).wf = false ∧
    (Instr.fgCalDone 0 (List.replicate 64 [])).wf = false ∧ (Instr.stagingFeed 0 [0] []).wf = false ∧
    (Instr.memAccess 0 (2 ^ 34) .ok).wf = false ∧ (Instr.bootStageComplete { meas := [[]] }).wf = false := by decide

theorem test_wf_queues :
    (Instr.commandFetch 1 (List.replicate 8 0) [] []).wf = false ∧ (Instr.commandFetch 0 [0] [] []).wf = false ∧
    (Instr.commandFetch 0 (List.replicate 8 0) [] [⟨0, .acc 16 0, none, true⟩]).wf = false ∧
    (Instr.commandFetch 0 (List.replicate 8 0) [] []).wf = true ∧
    (Instr.sequenceReread 0 [0, 0] []).wf = false ∧ (Instr.sequenceReread 384 [0] []).wf = false ∧
    (Instr.sequenceReread 384 [0, 0] []).wf = true ∧ (Instr.dmaDescriptorFetch 0 [0]).wf = false ∧
    (Instr.nop { q := 1 }).wf = false ∧ (Instr.nop { q := 128 }).wf = false ∧ (Instr.nop { q := 126 }).wf = true := by decide

/-- A unit carries at most 4 096 bytes (R364); the list is as long as its length says, without being written out. -/
theorem test_wf_unit (data : List (BitVec 8)) (h : data.length = 4097) : (Instr.dmaTransferUnit 0 data []).wf = false := by
  simp [Instr.wf, h]

theorem test_wf_feed (data : List (BitVec 8)) (h : data.length = 1048577) : (Instr.stagingFeed 0 [0, 0] data).wf = false := by
  simp [Instr.wf, h]

theorem test_wf_frames :
    (Instr.mirrorFrameReceived { trigs := [{ (default : FrTrig) with set := 16 }] }).wf = false ∧
    (Instr.mirrorFrameReceived { closes := [⟨16, 0, 0, 0⟩] }).wf = false ∧
    (Instr.mirrorFrameReceived { arms := [⟨16, 0⟩] }).wf = false ∧
    (Instr.mirrorFrameReceived { gens := [⟨8, 0, 0, 0⟩] }).wf = false ∧
    (Instr.mirrorFrameReceived { cmds := List.replicate 25 default }).wf = false ∧
    (Instr.mirrorFrameReceived {}).wf = true ∧
    (Instr.twlTrainingDone { dly := List.replicate 18 0 }).wf = false := by decide

/-- No row of the table gives bits, so no word spells a command. -/
theorem test_decode_none (n w : Nat) : decodeTableWord n w = none := rfl

/-! ### Worked examples of the spec, and published check values -/

/-- The nine bytes "123456789". -/
def digits : List (BitVec 8) := [0x31, 0x32, 0x33, 0x34, 0x35, 0x36, 0x37, 0x38, 0x39]

/-- The published check values of CRC-16 (0x1021, initial value 0xFFFF) and CRC-32C, and of CRC-32C over 32 zero bytes. -/
theorem test_crc_check_values : crc16 digits = 0x29B1 ∧ crc32c digits = 0xE3069283 ∧
    crc32c (List.replicate 32 0) = 0x8A9136AA := by decide +kernel

/-- The first 64 bits of the published SHA-256 digest of "abc". -/
theorem test_sha256_abc : digest64 [0x61, 0x62, 0x63] = 0xBA7816BF8F01CFEA := by decide +kernel

/-- The example of R49: 47.3125 °C on the default grid gives p = 16, w = 199, and OFFSET −387 between −412 and −380. -/
theorem test_interpolation_example :
    gridPos 757 ((dev []).rdI TIL_TEMP_GRID_BASE [1]) ((dev []).rd TIL_TEMP_GRID_STEP [1]) = (16 * 256 + 199, false) ∧
    lerp (-412) (-380) 199 = -387 := by decide

/-- R61: the default tolerance is 1 057 check LSB. -/
theorem test_check_tolerance : (dev []).chkTol = 1057 := by decide

/-- The example of R292: address 0x41_2345_6780. -/
theorem test_address_map_example : let line := 0x4123456780 / 64
    mcOf line = 14 ∧ bankOf line = 3 * 8 + 1 ∧ rowOf line = 2330 ∧ rankOf line = 1 := by decide

/-- The example of Table 5.3: L = 499 712 and M = 1 in P12 make slots of 752 640 bytes. -/
theorem test_slot_size_example :
    (dev [(CAP_SET_MEMB, [2], 0x20), (CAP_SET_PRE_PRE, [2], 98304), (CAP_SET_POST, [2], 401408)]).slotSize 2 = 752640 := by decide

/-- Set AS5 of Table 5.6: eight members at DUTY 6 372 are charged 5 834 MB/s. -/
theorem test_charge_example :
    (dev [(CAP_SET_MEMB, [5], 0xFF0000), (CAP_SET_DUTY_DUTY, [5], 6372)]).chargeOf 5 = 5834 := by decide

/-- Set AS0 of the survey in chapter 7: an accumulation of 4 GiB in eight sets, charged 839 MB/s each. -/
theorem test_histogram_charge_example :
    (dev ([(CAP_SET_MEMB, [0], 0xFF), (CAP_SET_CFG_MODE, [0], 2), (CAP_SET_DUTY_DUTY, [0], 2749), (ACC_SET_CFG_KIND, [0], 2),
      (ACC_SET_CFG_LOC, [0], 1), (ACC_SET_CFG_TB_LOG2, [0], 4), (ACC_SET_CFG_HIT, [0], 1), (ACC_SET_CFG_KEEP_DATA, [0], 0)] ++
      (List.range 8).map fun n => (TIL_CH_CFG_DEC_LOG2, [n], 4))).chargeOf 0 = 839 := by decide

/-- The streams of the example in chapter 6: a HIRES stream of 100 kS/s in S32 is charged 1 MB/s. -/
theorem test_stream_charge_example :
    (dev [(LOG_STR_CFG_KIND, [0], 2), (LOG_STR_RATIO_RATIO, [0], 50000)]).lcharge 0 = 1 := by decide

/-- A streaming generator is charged 2 500 MB/s (chapter 7, "G0 adds 2 500 MB/s"). -/
theorem test_generator_charge_example : (dev []).gcharge = 2500 := by decide

/-- The example of chapter 11: queue 10 of 256 entries; index 17 of lap 300 carries SEQUENCE 0x2C11. -/
theorem test_sequence_example :
    ((({ dev [(HIF_Q_CFG_LOG2SIZE, [10], 8), (HIF_Q_PTR_DEV_PTR, [10], 16)] with
      hif := { queues := [(10, { seq := 0x2C10 })] } } : Mach).qAdvance 10).qst 10).seq = 0x2C11 := by decide

/-- The example of R363: eight members of 256 samples from P12 to planes of S16: 4 096 bytes in planes of 512, from the
eight row blocks of two rows. -/
theorem test_record_slot_example : let w := [0x29, 0, 0, 0, 8 + 64 * 2 ^ 8 + 256 * 2 ^ 24, 512, 0, 0]
    dSlot w = true ∧ dMembers w = 8 ∧ dFirst w = 64 ∧ dNsamp w = 256 ∧ dSpan w = 4096 ∧ dSrcSpan w = 2 * 8 * 3072 := by decide

/-- Rounding half to even (chapter 0). -/
theorem test_round_half_even :
    roundHalfEven 5 2 = 2 ∧ roundHalfEven 7 2 = 4 ∧ roundHalfEven (-5) 2 = -2 ∧ roundHalfEven 9 4 = 2 ∧
    p12 24 = 2 ∧ p12 40 = 2 ∧ p12 (-32768) = -2048 ∧ p12 32767 = 2047 := by decide

/-! ### One step of a small state -/

/-- The register a step reads after a command. -/
def after (c : Instr) (s : State) (F : Fld) (ix : List Nat) : Option Nat :=
  match exec c s with
  | .next t => some (t.m.rd F ix)
  | _ => none

/-- Right after reset stage S0 runs, and EPOCH has counted (R76). -/
theorem test_reset : State.reset.m.boot.next = some 0 ∧ State.reset.m.epoch = 1 ∧ State.reset.hoopSeal.st = .opened := by decide

/-- R22: a cycle counts; R25: a boundary opens the next stitch. -/
theorem test_cycle : (match exec (.coreCycle []) (st (dev [])) with | .next t => t.m.tb.cyc | _ => 0) = 1 := by decide +kernel
theorem test_boundary : (match exec .stitchBoundary (st lastCycle) with | .next t => t.m.tb.stitch | _ => 0) = 1 := by decide +kernel

/-- R352, R340: a NOP of the admin queue leaves one completion entry with status DONE, and the completion queue moves on. -/
theorem test_nop_completes : after (.nop { tag := 7 }) (st linked0) HIF_Q_PTR_DEV_PTR [1] = some 1 := by decide +kernel

/-- R352 check 2: reserved bits set refuse a command, which then schedules nothing. -/
theorem test_reserved_refused : (match exec (.setMembers { rsv := 1, w1 := 1 }) (st linked0) with
    | .next t => t.m.hif.changes.length | _ => 9) = 0 := by decide +kernel
theorem test_set_members_scheduled : (match exec (.setMembers { w1 := 1 }) (st linked0) with
    | .next t => t.m.hif.changes.map Prod.fst | _ => []) = [1] := by decide +kernel

/-- A SET_BIND that is due at stitch 1, in stitch 1. -/
def dueLater : Mach :=
  { dev [] with hif := { changes := [(1, .cmd 0x1A { w2 := 5 })] }, tb := { running := true, stitch := 1 } }
/-- R145: a scheduled change is in force at its boundary and not before. -/
theorem test_change_applies :
    (dueLater.applyDue).rd CAP_SET_PRK_BASE_VALUE [0] = 5 ∧
    ({ dueLater with tb := {} } : Mach).applyDue.rd CAP_SET_PRK_BASE_VALUE [0] = 0 := by decide +kernel

/-- R380, R381: the strap leaves while the Hoop is SEALED and no unseal is pending: BROKEN, cause 4; fitted again with none
pending it stays so. -/
theorem test_strap_breaks : (match exec (.hoopStrapChange false) { st (dev []) with hoopSeal := ⟨false, .sealed, 0, false, 0⟩ } with
    | .next t => (t.hoopSeal.st, t.hoopSeal.cause, t.hoopSeal.fuseUsed) | _ => (.opened, 0, 0)) = (.broken, 4, 1) := by
  decide +kernel

/-- R85: a wrap increments EPOCH. -/
theorem test_epoch : after .dtimeWrap (st { dev [] with tb := { running := true, wrapped := some 0 } }) TBS_EPOCH_EPOCH [] = some 1 := by
  decide +kernel

/-- R309: an uncorrectable line is written back poisoned, and its address latched. -/
theorem test_poison : (match exec (.memAccess 3 3 (.uncorrectable 7)) (st (dev [])) with
    | .next t => (t.dram.poison, t.m.rd MEM_MC_ERR [3]) | _ => ([], 0)) = ([3], 192) := by decide +kernel

/-- R295: a queued write reaches memory with the next access of its channel. -/
theorem test_memory_write : (match exec (.memAccess 0 0 .ok) (st (queued (some (5 :: List.replicate 63 0)) none)) with
    | .next t => t.dram.cells | _ => []) = [(0, 5)] := by decide +kernel

/-- R331: a doorbell that moves the tail past the ring is refused and counted. -/
theorem test_doorbell : after (.doorbellWrite 0 2) (st linked0) HIF_Q_PTR_HOST_PTR [0] = some 2 ∧
    after (.doorbellWrite 0 4) (st linked0) HIF_DB_ERR_COUNT [] = some 1 := by decide +kernel

/-- R432: an injected count enters its window with the next fault-window slot. -/
theorem test_fault_window : after .faultWindowSlot (st { slotAtCyc 4 192 [] with flt := { due := [⟨10, 3, 0⟩] } }) FLT_SRC_STAT_WCOUNT [10] =
    some 3 := by decide +kernel

/-- R81: the loss of the reference in use lets TPLL coast. -/
theorem test_reference_lost : after (.refLost false) (st (dev refGood)) TBS_STATUS_TPLL_ST [] = some tpCoasting := by decide +kernel

/-- R236: a generator that does not run gives frames of PARK. -/
theorem test_idle_generator : (match exec (.genFrame 0 false) (st (dev [])) with | .next t => t.m.out.length | _ => 9) = 1 := by
  decide +kernel

/-- R277: a converter's urgent conversion ends in its data register with its source. -/
theorem test_conversion : after (.hkConversionEnd 0 0) (st (hkCur (.urg 5 none) none)) (dataFlds 0).2.1 [] = some 5 := by
  decide +kernel

/-- R411: a frame that arrives in its stitch moves the awaited number on. -/
theorem test_frame : (match exec (.mirrorFrameReceived {}) (st (dev pri)) with | .next t => t.m.pair.rxNext | _ => 0) = 1 := by
  decide +kernel

/-- R374: a bound DMA channel is IDLE; R202: a count of SKIP starts at 0. -/
theorem test_dma_bind : after (.dmaBind { w1 := 1 }) (st linked0) DMA_CH_STAT_STATE [0] = some dsIdle := by decide +kernel

/-- R469: in Retention a write of a sealed register is refused; in full service with the Hoop OPEN it marks its region
DIRTY. -/
theorem test_rwh : after (.rwhWrite 0x400000 0) (st linked1) HOOP_STAT_DIRTY [] = some 0x20 ∧
    after (.rwhWrite 0x400000 0) { st linked1 with hoopSeal := ⟨false, .sealed, 0, false, 0⟩ } HOOP_STAT_DIRTY [] = some 0 := by
  decide +kernel

/-- R2: a request to seal an LQ6420-GF is refused and recorded, and the Hoop stays OPEN. -/
theorem test_gf_seal : (match exec (.hoopSeal {}) gfSt with
    | .next t => (t.hoopSeal.st, t.m.hoop.log.map fun e => e.drop 2) | _ => (.broken, [])) = (.opened, [[0xB1, 1]]) := by
  decide +kernel

/-- A step that finds no command leaves the state as it is. -/
theorem test_idle : step State.reset = .next State.reset := rfl

/-- R443: a request deferred for DEFER_LIMIT counts source 52, and goes on waiting. -/
theorem test_defer_limit : (match exec (.maintLong 4 0) (st longWait) with
    | .next t => (t.m.flt.pend, t.m.flt.deferred.map MReq.said) | _ => ([], [])) = ([⟨52, 1, 4⟩], [true]) := by decide +kernel
/-! ### The hypotheses of the obligations can be met -/

/-- The hypotheses of `AcquisitionSettingsAreScheduled` can be met. -/
theorem meets_AcquisitionSettingsAreScheduled :
    Admitted ciCalRelease (fun _ _ => none) {} (st (dev [])) ∧
    Admitted ciSetMembers ownSetMembers {} (st (dev [])) ∧
    Admitted ciSetConfig ownSetConfig { w1 := 0xC0, w2 := 1, w3 := 0x100000001 } (st (dev [])) ∧
    Admitted ciSetBind ownSetBind {} (st (dev [])) ∧
    Admitted ciUnitSet ownUnitSet {} (st (dev [])) ∧
    Admitted ciProgram ownProgram { w4 := 0x10000 } (st (dev [])) ∧
    Admitted ciPattern ownPattern {} (st (dev [])) ∧
    Admitted ciIo ownIo {} (st (dev [])) ∧
    Admitted ciQseg (fun _ _ => none) {} (st (dev [])) ∧
    Admitted ciOut ownOut { w1 := 1 } (st (dev [])) ∧
    Admitted ciLogStreamCfg ownLogStreamCfg { w2 := 2 } (st (dev [])) ∧
    Admitted ciLogMgSet ownLogMgSet { w1 := 50 } (st (dev [])) ∧
    Admitted ciLogMdSet ownLogMdSet { w1 := 0x100000000 } (st (dev [])) ∧
    Admitted ciAccConfig ownAccConfig { w1 := 0x2000 } (st (dev [])) ∧
    Admitted ciAccBind ownAccBind {} (st (dev [])) ∧
    Admitted ciMeasSlot ownMeasSlot { w3 := 0x100020000 } (st (dev [])) ∧
    Admitted ciMeasBind ownMeasBind {} (st (dev [])) :=
  ⟨admitted (by decide), admitted (by decide), admitted (by decide), admitted (by decide), admitted (by decide),
   admitted (by decide), admitted (by decide), admitted (by decide), admitted (by decide), admitted (by decide),
   admitted (by decide), admitted (by decide), admitted (by decide), admitted (by decide), admitted (by decide),
   admitted (by decide), admitted (by decide)⟩

/-- The hypotheses of `OutputAndServiceSettingsAreScheduled` can be met. -/
theorem meets_OutputAndServiceSettingsAreScheduled :
    Admitted ciGenConfig ownGenConfig { w1 := 0x100000000, w2 := 2 } (st (dev [])) ∧
    Admitted ciGenNcoSet ownGenNcoSet {} (st { dev [] with gen := { segs := [(0, [2])] } }) ∧
    Admitted ciGenSkew ownGenSkew {} (st (dev [])) ∧
    Admitted ciGenGuard ownGenGuard { w3 := 1 } (st (dev [])) ∧
    Admitted ciGenGuardReset ownGenGuardReset {} (st (dev [(GEN_STAT_STATE, [0], gTripped)])) ∧
    Admitted ciGenSrBind ownGenSrBind { w1 := 1 } (st (dev [])) ∧
    Admitted ciTbOutputs ownTbOutputs {} (st (dev [])) ∧
    Admitted ciAreaCreate ownAreaCreate { target := 5, w1 := 1, w2 := 0xC00000, w3 := 0x10000 } (st (dev [])) ∧
    Admitted ciAreaDestroy ownAreaDestroy {} (st (dev [])) ∧
    Admitted ciMemSr (fun _ _ => none) {} (st (dev [])) ∧
    Admitted ciMemAge ownMemAge { w1 := 0x1000100010001 } (st (dev [])) ∧
    Admitted ciPairDissolve (fun _ _ => none) {} (st (dev [])) ∧
    Admitted ciPairConfig ownPairConfig {} (st (dev [])) ∧
    Admitted ciFltConfig ownFltConfig { w1 := 0x100000008 } (st (dev [])) ∧
    Admitted ciMaintCfg ownMaintCfg { w1 := 1 } (st (dev [])) :=
  ⟨admitted (by decide), admitted (by decide), admitted (by decide), admitted (by decide), admitted (by decide),
   admitted (by decide), admitted (by decide), admitted (by decide +kernel), admitted (by decide +kernel), admitted
   (by decide), admitted (by decide), admitted (by decide), admitted (by decide), admitted (by decide), admitted (by
   decide)⟩

/-- The hypotheses of `StitchOfApplication` can be met. -/
theorem meets_StitchOfApplication :
    (forwarded 0x10 && (dev []).mirroring) = false ∧
    (forwarded 0x10 && (dev pri).mirroring) = true ∧
    (forwarded 0x80 && (dev pri).mirroring) = false :=
  ⟨by decide, by decide, by decide⟩

/-- The hypotheses of `RefusedCommandHasNoEffect` can be met. -/
theorem meets_RefusedCommandHasNoEffect :
    submissionQ 0 = true ∧
    commonRefusal ciNop { rsv := 1 } (dev []) = some BAD_FIELD ∧
    commonRefusal ciTbSync {} (dev []) = none ∧
    ownTbSync {} (st (dev [])) = some BAD_FIELD ∧
    commonRefusal ciAccConfig {} (dev [(HIF_DEV_STATE, [], 1)]) = some BASTING_ONLY ∧
    commonRefusal ciAccConfig {} (dev [(HIF_DEV_STATE, [], 2)]) = some SELVEDGE ∧
    commonRefusal ciAccConfig {} (dev [(HIF_DEV_STATE, [], 3)]) = some WRONG_STATE :=
  ⟨by decide, by decide, by decide, by decide, by decide, by decide, by decide⟩

/-- The hypotheses of `SetAndTriggerCommands` can be met. -/
theorem meets_SetAndTriggerCommands :
    Admitted ciSetArm ownSetArm {} (st (dev setOn)) ∧
    Admitted ciSetDisarm (fun _ _ => none) {} (st (dev [])) ∧
    Admitted ciSetRearm ownSetRearm {} (st (dev [(CAP_SET_STAT_STATE, [0], siDone)])) ∧
    Admitted ciTimer ownTimer { w1 := 1 } (st (dev [])) ∧
    Admitted ciSoft (fun _ _ => none) {} (st (dev [])) ∧
    (dev []).setState 0 = siIdle ∧
    (dev [(CAP_SET_STAT_STATE, [0], siArmed)]).setState 0 ≠ siIdle :=
  ⟨admitted (by decide), admitted (by decide), admitted (by decide), admitted (by decide), admitted (by decide), by
   decide, by decide⟩

/-- The hypotheses of `ArmFixesInstantAndCharge` can be met. -/
theorem meets_ArmFixesInstantAndCharge :
    (15 : Nat) < 16 ∧
    (dev []).dev ≠ .basting ∧
    ((dev setOn).members 0).contains (7 / 8) = true :=
  ⟨by decide, by decide, by decide⟩

/-- The hypotheses of `ChannelCommands` can be met. -/
theorem meets_ChannelCommands :
    Admitted ciChConfig ownChConfig {} (st (dev tileBusy)) ∧
    (dev tileBusy).tileCal 0 = true ∧
    Admitted ciChConfig ownChConfig { target := 1, w1 := 1 } (st (dev [])) ∧
    (dev []).on TIL_CH_CFG_ENABLE [1] = false ∧
    Admitted ciChConfig ownChConfig {} (st (dev [])) ∧
    Admitted ciQuadCombine ownQuadCombine {} (st (dev [])) ∧
    (dev []).rd TIL_QUAD_CFG_FACTOR [0] = 0 ∧
    Admitted ciQuadCombine ownQuadCombine { w1 := 1 } (st (dev [])) ∧
    Admitted ciLoopback ownLoopback {} (st (dev [])) ∧
    Admitted ciFgCal ownFgCal {} (st (dev [])) ∧
    (dev []).waiting actFgCal 0 = false ∧
    (dev []).blocker actFgCal 0 = none :=
  ⟨admitted (by decide), by decide, admitted (by decide), by decide, admitted (by decide), admitted (by decide), by
   decide, admitted (by decide), admitted (by decide), admitted (by decide), by decide, by decide⟩

/-- The hypotheses of `LogCommands` can be met. -/
theorem meets_LogCommands :
    ((dev []).lstr 0).blk = none ∧
    ((dev []).lring 0).blocks = [] ∧
    ((spooled.lring 0).blocks = [⟨0, 0, 0, 1, 0⟩] ∧ spooled.qReady 256 = true ∧ spooled.memOk = true) ∧
    ((dev logGap).lstate 0 = lsGap ∧ (dev logGap).rd LOG_STR_STAT_CAUSE [0] = 0 ∧ (dev logGap).running 0 < (dev (logGap ++ logBound)).spoolFree 0) ∧
    Admitted ciLogRingSet ownLogRingSet { w1 := 0x100 } (st (dev [])) ∧
    Admitted ciLogStart ownLogStart {} (st (dev [(LOG_STR_CFG_BOUND, [0], 1), (LOG_RING_CFG_AREA, [0], 1), (LOG_RING_SLOTS_VALUE, [0], 8)])) ∧
    Admitted ciLogStart ownLogStart { w1 := 2 } (st (dev logBound)) ∧
    Admitted ciLogStop (fun _ _ => none) {} (st (dev [])) ∧
    (dev []).lruns 0 = false ∧
    Admitted ciLogStop (fun _ _ => none) {} (st (dev logRuns)) ∧
    (dev logRuns).lruns 0 = true ∧
    Admitted ciLogFlush (fun _ _ => none) {} (st (dev [])) :=
  ⟨by decide, by decide, by decide, by decide, admitted (by decide +kernel), admitted (by decide), admitted (by
   decide), admitted (by decide), by decide, admitted (by decide), by decide, admitted (by decide)⟩

/-- The hypotheses of `ExportCommands` can be met. -/
theorem meets_ExportCommands :
    (dev []).accAway 0 = false ∧
    0 + 1 = ({ w3 := 1 } : HostCmd).f 3 0 32 ∧
    Admitted ciAccRead ownAccRead { w3 := 2 } (st (dev setOn)) ∧
    Admitted ciAccRead ownAccRead { w3 := 1 } (st (dev setOn)) ∧
    Admitted ciMeasExport ownMeasExport {} (st (dev [])) ∧
    Admitted ciPrkExport ownPrkExport {} (st (dev [])) ∧
    Admitted ciBasteRead ownBasteRead { w2 := 64 } (st { dev [(HIF_DEV_STATE, [], 1)] with cap := { basteFlags := [(0, 0)] } }) ∧
    Admitted ciAccClear ownAccClear {} (st (dev [])) ∧
    Admitted ciMeasStats ownMeasStats {} (st (dev [])) :=
  ⟨by decide, by decide, admitted (by decide), admitted (by decide), admitted (by decide), admitted (by decide),
   admitted (by decide), admitted (by decide), admitted (by decide)⟩

/-- The hypotheses of `GeneratorCommands` can be met. -/
theorem meets_GeneratorCommands :
    Admitted ciGenSegWrite ownGenSegWrite { w1 := 0x100000000, data := [1, 64, 0, 0] } (st (dev [])) ∧
    Admitted ciGenSeqWrite ownGenSeqWrite { w1 := 0x100000000, data := [0] } (st (dev [])) ∧
    Admitted ciGenArm ownGenArm {} (st (dev [])) ∧
    Admitted ciGenStart ownGenStart { w1 := 1, w2 := 2 } (st (dev [(GEN_STAT_STATE, [0], gArmed)])) ∧
    Admitted ciGenStop ownGenStop {} (st (dev [])) ∧
    Admitted ciGenJump ownGenJump {} (st (dev genRuns)) ∧
    Admitted ciGenTrig ownGenTrig {} (st (dev genRuns)) ∧
    (dev []).gruns 0 = false ∧
    Admitted ciGenStop ownGenStop {} (st (dev genRuns)) ∧
    (dev genRuns).gruns 0 = true :=
  ⟨admitted (by decide), admitted (by decide), admitted (by decide), admitted (by decide), admitted (by decide),
   admitted (by decide), admitted (by decide), by decide, admitted (by decide), by decide⟩

/-- The hypotheses of `TimeCommands` can be met. -/
theorem meets_TimeCommands :
    Admitted ciTbSource ownTbSource { w2 := 10000000 } (st (dev [])) ∧
    Admitted ciTbRate ownTbRate { w1 := 1000000 } (st (dev [])) ∧
    Admitted ciTbTod ownTbTod {} (st (dev [(TBS_CFG_SRC, [], 2), (TBS_STATUS_PPS_OK, [], 1)])) ∧
    Admitted ciTbSpread ownTbSpread {} (st (dev [])) ∧
    Admitted ciTbSync ownTbSync { w1 := 2 } (st (dev [])) ∧
    (dev ppsGood).mirroring = false ∧
    sourcing.hoop.commits = [⟨[6], 0x80, some { w2 := 25000000 }⟩] ∧ sourcing.hoop.strapWait = false ∧ sourcing.hif.changes = [] ∧ sourcing.newSource { w2 := 25000000 } = true :=
  ⟨admitted (by decide), admitted (by decide), admitted (by decide), admitted (by decide), admitted (by decide), by
   decide, by decide⟩

/-- The hypotheses of `MemoryCommands` can be met. -/
theorem meets_MemoryCommands :
    Admitted ciAreaClear ownAreaClear {} (st (dev [])) ∧
    Admitted ciMemScrub (fun _ _ => none) {} (st (dev [])) ∧
    Admitted ciMemPasr ownMemPasr {} (st (dev [])) ∧
    Admitted ciMemVerify ownMemVerify {} (st (dev [(MEM_STAT_STATE, [], memFailed)])) ∧
    Admitted ciMemScrub (fun _ _ => none) { w1 := 1 } (st (dev [])) :=
  ⟨admitted (by decide +kernel), admitted (by decide), admitted (by decide), admitted (by decide), admitted (by
   decide)⟩

/-- The hypotheses of `MaintenanceRequestsAndCommands` can be met. -/
theorem meets_MaintenanceRequestsAndCommands :
    ((((dev []).mcQueue 0).any fun r => r.src == .scrub) = false ∧ tget 0 (dev []).mem.fast 0 = 0) ∧
    ((scrubbing.mcQueue 0).any fun r => r.src == .scrub) = true ∧
    ((stepped actSramScrub).flt.running.find? fun r => r.act == actSramScrub && r.args == [1]).isSome = true ∧
    ((stepped actSramScrub).flt.scrub = some ⟨0, 0, true, false⟩ ∧ (⟨0, 0, true, false⟩ : Scrub).next + 1 < scrubSteps) ∧
    (((stepped actTwin).flt.running.find? fun r => r.act == actTwin && r.args == [1]).isSome = true ∧ (stepped actTwin).pair.twinOn = true ∧ (stepped actTwin).pair.twinAt + twinStep < prkEntries) ∧
    waits0.waiting 0 0 = true ∧
    (runs1.waiting actFgCal 0 = false ∧ runs1.blocker actFgCal 0 = some actRetention) ∧
    ((dev []).waiting actFgCal 0 = false ∧ (dev []).blocker actFgCal 0 = none) ∧
    Admitted ciMemMigrate ownMemMigrate {} (st (dev [(MEM_CFG_RANKS, [], 1), (MEM_CFG_SPARE_EN, [], 1), (MEM_MC_STAT_RANK_ST, [0], 1)])) ∧
    ((dev spare).waiting actMigrate 0 = false ∧ (dev spare).blocker actMigrate 0 = none) ∧
    Admitted ciCcSelftest (fun _ _ => none) {} (st (dev [])) ∧
    ((dev []).waiting actCcTest 0 = false ∧ (dev []).blocker actCcTest 0 = none) ∧
    Admitted ciHkSelftest ownHkSelftest {} (st (dev [])) ∧
    ((dev []).waiting actHkTest 0 = false ∧ (dev []).blocker actHkTest 0 = none) ∧
    Admitted ciSramScrub ownSramScrub {} (st (dev [])) ∧
    ((dev []).runs actSramScrub 0 = false ∧ (dev []).waiting actSramScrub 0 = false ∧ (dev []).blocker actSramScrub 0 = none) ∧
    Admitted ciPairRetrain ownPairRetrain {} (st (dev pri)) ∧
    ((dev pri).waiting actRetrain 0 = false ∧ (dev pri).blocker actRetrain 0 = none) ∧
    Admitted ciPairTwinCheck ownPairTwinCheck {} (st (dev pri)) ∧
    ((dev pri).waiting actTwin 0 = false ∧ (dev pri).blocker actTwin 0 = none) ∧
    Admitted ciMaintCancel ownMaintCancel {} (st waits0) :=
  ⟨by decide, by decide, by decide, by decide, by decide, by decide, by decide, by decide, admitted (by decide), by
   decide, admitted (by decide), by decide, admitted (by decide), by decide, admitted (by decide), by decide, admitted
   (by decide), by decide, admitted (by decide), by decide, admitted (by decide)⟩

/-- The hypotheses of `FaultCommands` can be met. -/
theorem meets_FaultCommands :
    Admitted ciFltClear (fun _ _ => none) {} (st (dev [])) ∧
    Admitted ciFltClear (fun _ _ => none) { target := 0xFFFF } (st (dev [])) ∧
    Admitted ciFltInject ownFltInject { w1 := 1 } (st (dev [])) ∧
    Admitted ciFltHistory ownFltHistory {} (st (dev [])) :=
  ⟨admitted (by decide), admitted (by decide), admitted (by decide), admitted (by decide)⟩

/-- The hypotheses of `PairCommands` can be met. -/
theorem meets_PairCommands :
    Admitted ciPairForm ownPairForm {} (st (dev [])) ∧
    Admitted ciPairRoleSwap ownPairRoleSwap { w1 := 8 } (st (dev pri)) ∧
    Admitted ciPairRejoin ownPairRejoin {} (st (dev [(TWL_STAT_ROLE, [], roleSolo)])) ∧
    ((training 1).formable = true ∧ (training 1).pair.training = 1 ∧ (training 1).pair.formAt = none ∧ (training 1).partnerFits { khz := (training 1).rd TBS_SLICE_FREQ_SLICE_KHZ, memCfg := (training 1).memWord, strap := true } = true) ∧
    (training 1).partnerFits { khz := 0 } = false ∧
    (training 2).pair.training = 2 ∧
    (training 3).pair.training = 3 ∧
    (dev []).pair.training = 0 :=
  ⟨admitted (by decide), admitted (by decide), admitted (by decide), by decide, by decide, by decide, by decide, by
   decide⟩

/-- The hypotheses of `HoopCommands` can be met. -/
theorem meets_HoopCommands :
    Admitted ciHoopUnseal ownHoopUnseal {} { st (dev []) with hoopSeal := ⟨false, .sealed, 0, false, 0⟩ } ∧
    (dev []).on HOOP_STAT_STRAP = true ∧
    Admitted ciHoopUnseal ownHoopUnseal {} { st (dev fitted) with hoopSeal := ⟨false, .sealed, 0, false, 0⟩ } ∧
    (dev fitted).on HOOP_STAT_STRAP = false ∧
    Admitted ciHoopSeal ownHoopSeal {} (st (dev [])) ∧
    (dev []).dirtyRgns = [] ∧
    Admitted ciHoopSeal ownHoopSeal {} (st (dev dirty1)) ∧
    (dev dirty1).dirtyRgns = [1] ∧
    Admitted ciHoopCommit ownHoopCommit {} (st (dev [])) ∧
    Admitted ciHoopCommit ownHoopCommit { w1 := 2 } (st (dev [])) ∧
    Admitted ciHoopLogExport ownHoopLogExport { w1 := 0x100000000 } (st { dev [] with hoop := { log := [[0, 0, 0, 0]] } }) ∧
    (commonRefusal ciHoopFwLoad { w1 := 256 } (dev []) = none ∧ (st (dev [])).isOpen = true ∧ (dev []).logTakes = true ∧ (dev []).committing = false) ∧
    Admitted ciHoopDiscard ownHoopDiscard {} (st (dev [])) ∧
    Admitted ciHoopNote ownHoopNote {} (st (dev [])) ∧
    Admitted ciHoopLogAck ownHoopLogAck { w1 := 0x8a9136aa * 0x100000000 } (st { dev [] with hoop := { log := [[0, 0, 0, 0]] } }) :=
  ⟨admitted (by decide), by decide, admitted (by decide), by decide, admitted (by decide), by decide, admitted (by
   decide), by decide, admitted (by decide), admitted (by decide), admitted (by decide), by decide, admitted (by
   decide), admitted (by decide), admitted (by decide +kernel)⟩

/-- The hypotheses of `DmaCommands` can be met. -/
theorem meets_DmaCommands :
    Admitted ciDmaBind ownDmaBind { w1 := 1 } (st (dev [])) ∧
    Admitted ciDmaUnbind ownDmaUnbind {} (st (dev [(DMA_CH_STAT_STATE, [0], dsIdle)])) ∧
    Admitted ciDmaRecover ownDmaRecover {} (st (dev [(DMA_STAT_HALTED, [], 1)])) :=
  ⟨admitted (by decide), admitted (by decide), admitted (by decide)⟩

/-- The hypotheses of `HousekeepingCommands` can be met. -/
theorem meets_HousekeepingCommands :
    Admitted ciHkSeq ownHkSeq { data := [64, 0] } (st (dev [(HKC_CFG_EN, [0], 1)])) ∧
    Admitted ciHkConvert ownHkConvert {} (st { dev [] with hk := { c := [(0, { urg := some (0, none) })] } }) ∧
    Admitted ciHkConvert ownHkConvert {} (st { dev [] with hk := { c := [(0, { cur := some .seq })] } }) ∧
    Admitted ciHkConvert ownHkConvert {} (st (dev [])) ∧
    Admitted ciHkSnapshot ownHkSnapshot {} (st (dev [])) ∧
    (((watching).hkst 1).cur = some (.watch 28) ∧ watching.warned ≠ []) ∧
    ((dev []).hkst 0).cur = none ∧
    ((hkCur (.urg 0 none) none).hkst 0).cur = some (.urg 0 none) ∧
    ((hkCur (.test 0) (some (0, 0, 0))).hkst 0).test = some (0, 0, 0) ∧
    ((hkCur .seq (some (32, 0, 0))).hkst 0).test = some (32, 0, 0) :=
  ⟨admitted (by decide), admitted (by decide), admitted (by decide), admitted (by decide), admitted (by decide), by
   decide, by decide, by decide, by decide, by decide⟩

/-- The hypotheses of `AdminCommands` can be met. -/
theorem meets_AdminCommands :
    Admitted ciIdentify ownIdentify {} (st (dev [])) ∧
    Admitted ciEventRoute ownEventRoute {} (st (dev [])) ∧
    Admitted ciSoftReset (fun _ _ => none) {} (st (dev [])) ∧
    Admitted ciFlashWrite ownFlashWrite { target := 1 } (st (dev [])) ∧
    Admitted ciNop (fun _ _ => none) {} (st (dev [])) ∧
    commonRefusal ciFlashActivate { target := 1 } (dev []) = none :=
  ⟨admitted (by decide), admitted (by decide), admitted (by decide), admitted (by decide +kernel), admitted (by
   decide), by decide⟩

/-- The hypotheses of `QueueCommands` can be met. -/
theorem meets_QueueCommands :
    Admitted ciQueueCreate ownQueueCreate { target := 2, w1 := 1 } (st (dev [])) ∧
    Admitted ciQueueCreate ownQueueCreate { target := 256, w1 := 1 } (st (dev [])) ∧
    Admitted ciQueueCreate ownQueueCreate { target := 384, w1 := 1 } (st (dev [])) ∧
    Admitted ciQueueCreate ownQueueCreate { target := 392, w1 := 1 } (st (dev [])) ∧
    Admitted ciQueueDelete ownQueueDelete { target := 2 } (st (dev [])) ∧
    (dev []).qCreated 2 = false ∧
    Admitted ciQueueDelete ownQueueDelete { target := 2 } (st (dev [(HIF_Q_CFG_CREATED, [2], 1)])) :=
  ⟨admitted (by decide), admitted (by decide), admitted (by decide), admitted (by decide), admitted (by decide), by
   decide, admitted (by decide)⟩

/-- The hypotheses of `DeviceStateCommand` can be met. -/
theorem meets_DeviceStateCommand :
    Admitted ciDeviceState ownDeviceState { w1 := 1 } (st (dev [])) ∧
    ((dev []).dev = .full ∧ (dev []).waiting actRetention 0 = false ∧ (dev []).blocker actRetention 0 = none) ∧
    Admitted ciDeviceState ownDeviceState {} (st (dev (retained 2))) ∧
    ((dev (retained 2)).dev = .retention ∧ (dev (retained 2)).rd PWR_RET_STAT_PHASE ≠ 1) ∧
    Admitted ciDeviceState ownDeviceState {} (st (dev (retained 1))) ∧
    ((dev (retained 1)).dev = .retention ∧ (dev (retained 1)).rd PWR_RET_STAT_PHASE = 1) ∧
    Admitted ciDeviceState ownDeviceState {} (st (dev [(HIF_DEV_STATE, [], 2)])) ∧
    (dev [(HIF_DEV_STATE, [], 2)]).dev = .selvedge ∧
    Admitted ciDeviceState ownDeviceState {} (st (dev [])) :=
  ⟨admitted (by decide), by decide, admitted (by decide), by decide, admitted (by decide), by decide, admitted (by
   decide), by decide, admitted (by decide)⟩

/-- The hypotheses of `DueChangeIsApplied` can be met. -/
theorem meets_DueChangeIsApplied :
    ((dueAt 0).hif.changes = [(0, .other 1 [])] ∧ 0 ≤ (dueAt 0).stitch ∧ selvedgeSrc (.other 1 []) = none) ∧
    (dueAt 1).stitch < 1 :=
  ⟨by decide, by decide⟩

/-- The hypotheses of `GeneratorSettingsApply` can be met. -/
theorem meets_GeneratorSettingsApply :
    (dev [(GEN_STAT_STATE, [0], gTripped)]).gstate 0 = gTripped :=
  by decide

/-- The hypotheses of `LogSettingsApply` can be met. -/
theorem meets_LogSettingsApply :
    ({ w1 := 0x100000000 } : HostCmd).b 1 32 = true ∧ ({} : HostCmd).b 1 32 = false :=
  by decide

/-- The hypotheses of `CoreCycleCountsCycleAndTime` can be met. -/
theorem meets_CoreCycleCountsCycleAndTime :
    ((dev []).tb.running = true ∧ (dev []).tb.cyc < (dev []).cycLimit) ∧
    State.reset.m.tb.running = false ∧
    lastCycle.cycLimit ≤ lastCycle.tb.cyc ∧
    (firstFree (tx1 []).late [] (tx1 []).c1 = some (⟨1, 2, 2, .cmd 0 7⟩, []) ∧ (tx1 []).run < 8) ∧
    (firstFree (tx1 [⟨3, 4, 0, .nobody⟩]).late [] (tx1 []).c1 ≠ none ∧ 8 ≤ ({ tx1 [⟨3, 4, 0, .nobody⟩] with run := 8 } : Tx).run) ∧
    firstFree (tx1 [⟨3, 4, 0, .cmd 0 7⟩]).late [] (tx1 []).c1 = none ∧
    firstFree ({ c5 := [⟨5, 6, 0, .nobody⟩] } : Tx).late [] [] = none :=
  ⟨by decide, by decide, by decide, by decide, by decide, by decide, by decide⟩

/-- The hypotheses of `StitchBoundaryOpensTheNextStitch` can be met. -/
theorem meets_StitchBoundaryOpensTheNextStitch :
    (lastCycle.tb.running = true ∧ lastCycle.tb.cyc = 256) ∧
    (dev []).tb.cyc ≠ 256 ∧
    ((slotAtCyc 0 0 []).slotNow 0 = true ∧ (slotAtCyc 1 64 []).slotNow 1 = true ∧ (slotAtCyc 2 128 []).slotNow 2 = true) ∧
    ((slotAtCyc 4 192 []).slotNow 4 = true ∧ (slotAtCyc 5 224 []).slotNow 5 = true) ∧
    (slotAtCyc 1 64 []).slotNow 0 = false :=
  ⟨by decide, by decide, by decide, by decide, by decide⟩

/-- The hypotheses of `ReferencesAreLostAndQualify` can be met. -/
theorem meets_ReferencesAreLostAndQualify :
    ((dev refGood).usesRef = true ∧ (dev refGood).on TBS_STATUS_REF_OK = true) ∧
    ((dev ppsGood).usesPps = true ∧ (dev ppsGood).on TBS_STATUS_PPS_OK = true) ∧
    ((dev []).usesRef = false ∧ (dev []).usesPps = false) ∧
    ((dev [(TBS_CFG_SRC, [], 1)]).on TBS_STATUS_REF_OK = false ∧ ((dev [(TBS_CFG_SRC, [], 1)]).wr TBS_STATUS_REF_OK [] 1).srcOk = true) ∧
    ((dev []).spllLocked && !(dev []).fallback) = true :=
  ⟨by decide, by decide, by decide, by decide, by decide⟩

/-- The hypotheses of `TimeLoopLocksAndPpsIsCaptured` can be met. -/
theorem meets_TimeLoopLocksAndPpsIsCaptured :
    ((dev locking).srcOk = true ∧ (dev locking).rd TBS_STATUS_TPLL_ST = tpQualifying ∧ (dev locking).tb.offset = 0) ∧
    (dev [(TBS_STATUS_TPLL_ST, [], tpSlewing)]).rd TBS_STATUS_TPLL_ST = tpSlewing ∧
    (dev []).tb.tod = none :=
  ⟨by decide, by decide, by decide⟩

/-- The hypotheses of `LinesAndTimers` can be met. -/
theorem meets_LinesAndTimers :
    ((dev [(TBS_OUT_PPSOUT_EN, [], 1)]).clockOk = true ∧ (dev []).tb.ppsLeft = none) ∧
    ((dev fellBack).fallback = true ∧ (dev []).fallback = false) ∧
    (dev []).formed = false ∧
    ((dev []).ioOut 0 = false ∧ (dev []).on TRG_IO_PIN_STATE [0] ≠ true) ∧
    (dev []).aliveLine 0 = false ∧
    ((dev pri).aliveLine 110 = true ∧ (dev pri).ioOut 110 = false) ∧
    tfind timed.trg.timers 0 = some 0 ∧ timed.tb.running = true ∧ 0 ≤ timed.cycles :=
  ⟨by decide, by decide, by decide, by decide, by decide, by decide, by decide⟩

/-- The hypotheses of `TemperatureReading` can be met. -/
theorem meets_TemperatureReading :
    (dev []).stitch % 256 = 0 ∧ (dev []).tb.running = true :=
  by decide

/-- The hypotheses of `CheckSampleIsCompared` can be met. -/
theorem meets_CheckSampleIsCompared :
    ((dev []).chIsOn 0 = true ∧ (dev []).unused 0 = false ∧ (dev []).dev = .full ∧ tfind (dev []).smp.ccTest 0 = none ∧ (dev []).fallback = false) ∧
    (dev fellBack).fallback = true ∧
    ((dev tileBusy).tileCal 0 && (dev tileBusy).on TIL_CH_CFG_ENABLE [0]) = true ∧
    ((dev []).on TIL_CH_STAT_LOOPBACK [0] = false ∧ (dev []).tileCal 0 = false) ∧
    (watched.windowBad 0 (watched.chkWindow 0 watchAt).1 (watched.chkWindow 0 watchAt).2 = false ∧ ((watched.chan 0).window (watched.chkWindow 0 watchAt).1 (watched.chkWindow 0 watchAt).2).isSome = true ∧ watchAt % 2500 = 0) ∧
    (watched.chkWindow 0 watchAt).2 + (watched.chan 0).chkSkipTo ≤ (watched.chkWindow 0 watchAt).1 + 1 :=
  ⟨by decide, by decide, by decide, by decide, by decide +kernel, by decide⟩

/-- The hypotheses of `SettlingAndEstimation` can be met. -/
theorem meets_SettlingAndEstimation :
    (settling.chState 0 = chSettling ∧ (settling.chan 0).held = false ∧ (settling.chan 0).firstValid = 1 ∧ settling.stitch = 1 ∧ (settling.chan 0).settleFrom = 1) ∧
    ((dev est).chIsOn 0 = true ∧ (dev est).on TIL_CH_CFG_EST_EN [0] = true ∧ (dev est).dev = .full ∧ (dev est).stitch % (512 / (dev est).comb 0) = 0) ∧
    (dev [(TIL_CH_CFG_EST_EN, [0], 0)]).on TIL_CH_CFG_EST_EN [0] = false ∧
    estimated.chIsOn 0 = true ∧ estimated.stitch % (512 / estimated.comb 0) = 0 ∧ (estimated.chan 0).estFrom + 512 / estimated.comb 0 ≤ estimated.stitch ∧ (estimated.estDiscard 0 || (estimated.chan 0).estN == 0) = false :=
  ⟨by decide, by decide, by decide, by decide⟩

/-- The hypotheses of `CalibrationAndSelfTestEnd` can be met. -/
theorem meets_CalibrationAndSelfTestEnd :
    (running actFgCal).runs actFgCal 0 = true ∧
    ((running actCcTest).runs actCcTest 0 = true ∧ (running actCcTest).smp.ccTest = []) ∧
    looped.waitsOf 0x14 0 ≠ [] ∧ looped.stitch = 0 :=
  ⟨by decide, by decide, by decide⟩

/-- The hypotheses of `LoopLossAndLock` can be met. -/
theorem meets_LoopLossAndLock :
    ((dev []).loopsOn = true ∧ (dev []).spllLocked = true ∧ (dev []).fallback = false) ∧
    ((dev fellBack).loopsOn = true ∧ (dev fellBack).spllLocked = true ∧ (dev fellBack).fallback = true) ∧
    (dev [(TBS_STATUS_SPLL_ST, [], pllLost)]).spllLocked = false ∧
    (dev [(TBS_STATUS_CPLL_ST, [], pllLocked)]).rd TBS_STATUS_CPLL_ST = pllLocked ∧
    (dev [(TBS_STATUS_CPLL_ST, [], pllLost)]).rd TBS_STATUS_CPLL_ST = pllLost :=
  ⟨by decide, by decide, by decide, by decide, by decide⟩

/-- The hypotheses of `MemoryLoopLoss` can be met. -/
theorem meets_MemoryLoopLoss :
    ((dev []).rd TBS_STATUS_MPLL_ST = pllLocked ∧ (dev []).dev ≠ .retention) ∧
    (dev (retained 2)).loopsOn = true ∧ (dev (retained 2)).dev = .retention :=
  ⟨by decide, by decide⟩

/-- The hypotheses of `MemoryLoopLockAndVerification` can be met. -/
theorem meets_MemoryLoopLockAndVerification :
    ((dev memLost).loopsOn = true ∧ (dev memLost).rd TBS_STATUS_MPLL_ST ≠ pllLocked ∧ (dev memLost).dev ≠ .retention) ∧
    (dev verifying).rd MEM_STAT_STATE = memVerifying ∧ (dev verifying).on TBS_STATUS_MEM_UNAVAIL = true :=
  ⟨by decide, by decide⟩

/-- The hypotheses of `ColdResets` can be met. -/
theorem meets_ColdResets :
    (held.m.hif.inReset = true ∧ held.m.boot.xtalOut = false) ∧
    dry.m.hif.inReset = true ∧ dry.m.boot.xtalOut = true ∧ dry.m.boot.pinLow = false :=
  ⟨by decide, by decide⟩

/-- The hypotheses of `RestartsOfAStartedDevice` can be met. -/
theorem meets_RestartsOfAStartedDevice :
    ((dev []).hif.inReset = false ∧ (dev []).hif.resetDue = none ∧ (dev []).dev ≠ .selvedge ∧ (dev []).boot.next = none ∧ (dev []).rd HIF_DEV_STATE = 0) ∧
    ((resetDue rcSoft).hif.resetDue = some rcSoft ∧ (resetDue rcSoft).hif.inReset = false) ∧
    (resetDue rcPin).hif.resetDue = some rcPin :=
  ⟨by decide, by decide, by decide⟩

/-- The hypotheses of `StartStages` can be met. -/
theorem meets_StartStages :
    (State.reset.m.hif.inReset = false ∧ State.reset.m.boot.next = some 0 ∧ State.reset.m.rd BOOT_FAIL_COUNT = 0) ∧
    (stage 0 [(BOOT_FAIL_COUNT, [], 3)]).rd BOOT_FAIL_COUNT = 3 ∧
    ((stage 4 []).tb.planned = false ∧ (stage 4 []).tb.oldKhz = none ∧ (stage 4 []).boot.next = some 4) ∧
    ((stage 5 []).boot.waitMem = false ∧ (stage 5 []).rd TBS_STATUS_MPLL_ST = pllLocked) ∧
    (stage 6 []).boot.cal = 0 ∧
    (stage 7 []).hif.inReset = false ∧
    (dev []).boot.next = none :=
  ⟨by decide, by decide, by decide, by decide, by decide, by decide, by decide⟩

/-- The hypotheses of `SuppliesAndRetention` can be met. -/
theorem meets_SuppliesAndRetention :
    bit ((dev []).rd PWR_RAIL_STAT_WARN) 3 = false ∧
    tfind warned.boot.warn 3 = some (0, 0) ∧
    ((dev (retained 1)).dev = .retention ∧ (dev (retained 1)).rd PWR_RET_STAT_PHASE = 1) ∧
    (dev (retained 3)).rd PWR_RET_STAT_PHASE = 3 ∧ (dev (retained 3)).rd TBS_STATUS_MPLL_ST = pllLocked :=
  ⟨by decide, by decide, by decide, by decide⟩

/-- The hypotheses of `MemoryAccesses` can be met. -/
theorem meets_MemoryAccesses :
    ((queued (some (List.replicate 64 1)) none).memOk = true ∧ (queued (some (List.replicate 64 1)) none).nextReq 0 = some (request0 (some (List.replicate 64 1)) none)) ∧
    ({ dev [] with mem := { queue := [{ request0 (some [1]) none with part := some 3 }] } } : Mach).nextReq 0 = some { request0 (some [1]) none with part := some 3 } ∧
    ({ dev [] with mem := { queue := [{ request0 none none with src := .migrate }] }, tb := { (dev []).tb with dt := 2 ^ 56 } } : Mach).nextReq 0 = some { request0 none none with src := .migrate } ∧
    (queued none (some 0)).nextReq 0 = some (request0 none (some 0)) ∧
    ((dev []).nextReq 0 = none ∧ (dev []).rankUsable (rankOf 0) = true ∧ 0 < (dev []).rankEnd (rankOf 0)) ∧
    State.reset.m.memOk = false ∧
    (List.replicate 64 (1 : BitVec 8)).length = 64 :=
  ⟨by decide, by decide, by decide, by decide, by decide, by decide, by decide⟩

/-- The hypotheses of `MemoryControllerEvents` can be met. -/
theorem meets_MemoryControllerEvents :
    ((dev []).memOk = true ∧ (dev []).on MEM_MC_STAT_SR [0] = false ∧ 0 < (dev []).ranks ∧ (dev []).rankHasC0 0 0 = false ∧ (dev []).runs actCatchUp 0 = false) ∧
    ((urgent []).rankHasC0 0 0 = true ∧ (urgent []).backlog 0 < (urgent []).postLimit) ∧
    (urgent [(0, 8)]).postLimit ≤ (urgent [(0, 8)]).backlog 0 ∧
    ({ dev [] with mem := { backlog := [(0, 1)] } } : Mach).backlog 0 ≠ 0 ∧
    ((dev []).waiting actCatchUp 0 = false ∧ (dev []).blocker actCatchUp 0 = none) ∧
    ((dev scrubs).rd MEM_SCRUB_CFG_HOURS ≠ 0 ∧ (dev scrubs).runs actScrub 0 = false ∧ (dev scrubs).waiting actScrub 0 = false ∧ (dev scrubs).blocker actScrub 0 = none) ∧
    (dev [(MEM_MC_STAT_MIG, [0], 1)]).on MEM_MC_STAT_MIG [0] = true ∧
    ((dev [(MEM_SR_CFG_IDLE_US, [], 10)]).rd MEM_SR_CFG_IDLE_US ≠ 0 ∧ (dev []).rd CAP_COMMIT_COMMIT = 0 ∧ (dev []).mcQueue 0 = []) ∧
    verified.rd MEM_STAT_STATE = memVerifying ∧ verified.waitsOf 0x98 0 ≠ [] :=
  ⟨by decide, by decide, by decide, by decide, by decide, by decide, by decide, by decide, by decide⟩

/-- The hypotheses of `OpcodesRunTheirCommands` can be met. -/
theorem meets_OpcodesRunTheirCommands :
    0xFF ∉ opcodes.map Prod.fst :=
  by decide

/-- The hypotheses of `HostQueueEvents` can be met. -/
theorem meets_HostQueueEvents :
    (linked0.hostUp = true ∧ linked0.dbValid 0 2 = true) ∧
    linked0.dbValid 0 100 = false ∧
    (dev []).hostUp = false ∧
    (linked0.fetchReady 0 = true ∧ (linked0.qst 0).rereads = 0) ∧
    linked0.fetchReady 2 = false ∧
    ((reread 1).fetchReady 0 = true ∧ ((reread 1).qst 0).rereads = 1) ∧
    ((reread 4).qst 0).rereads = 4 ∧
    (unsignalled.qst 1).unsig ≠ 0 ∧ (unsignalled.coal 1).2 = 1 :=
  ⟨by decide, by decide, by decide, by decide, by decide, by decide, by decide, by decide⟩

/-- The hypotheses of `LinkEvents` can be met. -/
theorem meets_LinkEvents :
    linked0.hif.linkUp = true ∧
    ((dev []).hif.linkUp = false ∧ (dev []).hif.inReset = false) ∧
    (linked0.qCreated 0 = true ∧ driverQ 0 = true) ∧
    (dev []).dmaHalted = false :=
  ⟨by decide, by decide, by decide, by decide⟩

/-- The hypotheses of `RegisterAccesses` can be met. -/
theorem meets_RegisterAccesses :
    (linked0.hostUp = true ∧ linked0.answers .pf0Bar0 = true) ∧
    (dev []).answers .pf0Bar0 = false ∧
    (3 : BitVec 4).toNat % 4 = 3 ∧
    (linked1.on HIF_CTL_ADMIN_EN = false ∧ linked1.hostUp = true) ∧
    ((regAt 0x400000).map fun r => r.1.flds.any fun F => F.acc == .rwh) = some true ∧
    ((st (dev [])).isOpen = true ∧ (dev []).dev = .full) ∧
    (dev tabled).rd TIL_TAB_ADDR_SRC = 1 ∧ (dev tabled).on TIL_TAB_ADDR_AUTOINC = true :=
  ⟨by decide, by decide, by decide, by decide, by decide, by decide, by decide⟩

/-- The hypotheses of `DmaEvents` can be met. -/
theorem meets_DmaEvents :
    ((dmaAt dsIdle).hostUp = true ∧ (dmaAt dsIdle).on DMA_CH_CFG_BOUND [0] = true ∧ dbForward ((dmaAt dsIdle).dmaSize 0) ((dmaAt dsIdle).dmaHead 0) ((dmaAt dsIdle).dmaTail 0) 1 = true) ∧
    (dmaAt dsIdle).dmaFetches 0 = true ∧
    (dev []).dmaFetches 0 = false ∧
    (dev []).dmaTurn ≠ some 0 ∧
    (dmaBusy.dmaTurn = some 0 ∧ (dmaBusy.dch 0).desc = some copy64 ∧ dSlot copy64 = false ∧ dLen copy64 = 64) ∧
    (dShuf copy64 = 0 ∧ dConv copy64 = 0 ∧ dSrcDram copy64 = true ∧ dDstDram copy64 = false) ∧
    ((st dmaBusy).dmaBad [] (dSrc copy64) 64 = none ∧ ((st dmaBusy).bytes (dSrc copy64) 64).length = 64) ∧
    (dmaBusy.dmaHalted = false ∧ dTotal copy64 ≤ (dmaDone.dch 0).pos) ∧
    (dmaAt dsPausing).dmaSt 0 = dsPausing :=
  ⟨by decide, by decide, by decide, by decide, by decide, by decide, by decide, by decide, by decide⟩

/-- The hypotheses of `TriggerSettingsApply` can be met. -/
theorem meets_TriggerSettingsApply :
    ({ target := 15 } : HostCmd).tgt < 16 :=
  by decide

/-- The hypotheses of `DeferLimitCountsOnce` can be met. -/
theorem meets_DeferLimitCountsOnce :
    (longWait.flt.deferred.find? fun r => r.act == 4 && r.inst == 0).isSome = true ∧ longWait.dev ≠ .retention ∧ longWait.rd FLT_MAINT_CFG_DEFER_LIMIT * msDt ≤ longWait.dtime :=
  by decide

/-- The hypotheses of `GfIsNeverSealed` can be met. -/
theorem meets_GfIsNeverSealed :
    (gfSt.hoopSeal.gf = true ∧ gfSt.hoopSeal.st ≠ .sealed) ∧
    submissionQ 0 = true ∧
    commonRefusal ciHoopSeal {} (dev []) = none ∧
    (dev []).logUsed < 8192 :=
  ⟨by decide, by decide, by decide, by decide⟩

/-- The hypotheses of `EveryCommandAnswersAndKeepsTheQueue` can be met. -/
theorem meets_EveryCommandAnswersAndKeepsTheQueue :
    State.reset.pending = [] :=
  by decide

/-- The hypotheses of `StepKeepsSafe` can be met. -/
theorem meets_StepKeepsSafe :
    State.reset.safe = true ∧ State.reset.pending = [] :=
  by decide

/-- The hypotheses of `SealIsMovedByItsRows` can be met. -/
theorem meets_SealIsMovedByItsRows :
    sealMovers (.nop {}) = false ∧
    ((dev []).dev ≠ .retention ∧ (dev []).on HOOP_STAT_STRAP = true ∧ (dev fitted).on HOOP_STAT_STRAP = false) ∧
    ((dev unsealing).on HOOP_STAT_STRAP = true ∧ (dev unsealing).on HOOP_STAT_UNSEAL_PEND = true) ∧
    ((dev []).committing = false ∧ (dev []).dirtyRgns = []) ∧
    (dev (retained 2)).dev = .retention ∧
    ((committing2.hoop.commits.map Commit.regions) = [[1, 2]] ∧ committing2.hif.changes = []) ∧
    commonRefusal ciTbSource { w2 := 10000000 } linked0 = none ∧ ownTbSource { w2 := 10000000 } { st linked0 with hoopSeal := ⟨false, .sealed, 0, false, 0⟩ } = some SEALED :=
  ⟨by decide, by decide, by decide, by decide, by decide, by decide, by decide⟩

/-- The hypotheses of `StreamAndRecordEvents` can be met. -/
theorem meets_StreamAndRecordEvents :
    ((dev [(LOG_MG_STAT_RUNNING, [0], 1)]).edgeDue 0 0 = true ∧ (dev []).edgeDue 0 0 = false) ∧
    ((modin { lostAt := some (0, 0) }).modLost 0 = false ∧ ((modin { lostAt := some (0, 0) }).modin 0).lostAt = some (0, 0)) ∧
    ((modLostOk.modin 0).okAt = some 0 ∧ modLostOk.modLost 0 = true) ∧
    ((dev []).modin 0).acts = [] ∧
    ((modin { acts := [(true, 0, 0)] }).modin 0).acts = [(true, 0, 0)] ∧
    ((modin { acts := [(false, 0, 0)] }).modin 0).acts = [(false, 0, 0)] ∧
    (dev []).cap.outq = [] ∧
    closed1.stitch = 2 ∧ closed1.accDram 0 = false ∧ (closed1.cap.closed.find? fun c => c.set == 0 && !c.folded).isSome = true :=
  ⟨by decide, by decide, by decide, by decide, by decide, by decide, by decide, by decide⟩

/-- The hypotheses of `GeneratorAndHousekeepingEvents` can be met. -/
theorem meets_GeneratorAndHousekeepingEvents :
    ((dev []).gruns 0 = false ∧ (dev []).dev ≠ .retention) ∧
    (dev (retained 2)).dev = .retention ∧
    ((dev genRuns).dev ≠ .retention ∧ (dev genRuns).gruns 0 = true ∧ (dev genRuns).gpos 0 0 < 2 * ((dev genRuns).cycles + 1) ∧ (dev genRuns).genTrigs 0 = [] ∧ ((dev genRuns).gst 0).play = none ∧ ((dev genRuns).gst 0).parkAt = none ∧ ((dev genRuns).gst 0).waitE = none) ∧
    (2 * ((notDue).cycles + 1) ≤ notDue.gpos 0 (notDue.gst 0).n ∧ notDue.gruns 0 = true) ∧
    (playing.dev ≠ .retention ∧ segType nco.seg = 2 ∧ nco.pos + 64 < segLen nco.seg ∧ ((playing).gst 0).play = some nco ∧ playing.gpos 0 0 < 2 * (playing.cycles + 1) ∧ playing.genTrigs 0 = []) ∧
    ((rereadGen).qst (genQ 0)).rereads ≠ 0 ∧
    (((genUnder 1).gst 0).under = some 0 ∧ (genUnder 1).rd GEN_CFG_UNDERRUN_POLICY [0] = 1) ∧
    ((dev []).gst 0).under = none ∧
    (fed.feedReady 0 = true ∧ (fed.qst (genQ 0)).rereads = 0 ∧ fed.gfill 0 = 0) ∧
    ((dev guarded).on GEN_CFG_GUARD_EN [0] = true ∧ (dev guarded).gruns 0 = true ∧ ((dev guarded).gst 0).ramp = none) ∧
    (ramping.gst 0).ramp = some (0, 1) ∧ ramping.gruns 0 = true ∧ (ramping.gst 0).n = 32 :=
  ⟨by decide, by decide, by decide, by decide, by decide, by decide, by decide, by decide, by decide, by decide, by
   decide⟩

/-- The hypotheses of `PairAndSlotEvents` can be met. -/
theorem meets_PairAndSlotEvents :
    ((dev pri).linked = true ∧ (dev pri).retraining = false ∧ (dev pri).pair.rxNext ≤ 0 ∧ (dev pri).stitch ≤ 0) ∧
    (dev []).linked = false ∧
    (late.linked = true ∧ late.pair.rxNext + 1 < late.stitch) ∧
    ((dev pri).linked && !(dev pri).retraining) = true ∧
    (slotAtCyc 3 192 pri).slotNow 3 = true :=
  ⟨by decide, by decide, by decide, by decide, by decide⟩

end Sys2Proof.Tests
end

section
/-! What every command keeps of the queue, the seal and record memory, in three strengths: `State.keeps` (all of it),
`KeepsSeal` (record memory only stays canonical) and `KeepsSafe` (the seal only stays legal). -/
namespace Sys2Proof.Machine
open Sys2Proof

/-! ### Commands that change the device alone -/

theorem State.keeps.refl (s : State) : s.keeps s := ⟨rfl, rfl, rfl⟩

theorem State.keeps.trans {a b c : State} (h : a.keeps b) (g : b.keeps c) : a.keeps c :=
  ⟨g.1.trans h.1, g.2.1.trans h.2.1, g.2.2.trans h.2.2⟩

/-- A change of the device alone. -/
theorem keeps_m (s : State) (m : Mach) : s.keeps { s with m := m } := ⟨rfl, rfl, rfl⟩

/-- A change of the device after steps that keep. -/
theorem State.keeps.m {s t : State} (h : s.keeps t) (m : Mach) : s.keeps { t with m := m } := h.trans (keeps_m t m)

theorem keeps_upd (s : State) (f : Mach → Mach) : s.keeps (s.upd f) := keeps_m s _

theorem State.keeps.ite {s a b : State} {p : Prop} [Decidable p] (ha : s.keeps a) (hb : s.keeps b) :
    s.keeps (if p then a else b) := by split <;> assumption

theorem keeps_each {α : Type} {f : State → α → State} (hf : ∀ (s : State) (x : α), s.keeps (f s x)) (l : List α) (s : State) :
    s.keeps (each l f s) :=
  List.foldlRecOn l f (.refl s) fun _ h x _ => h.trans (hf _ x)

theorem keeps_runCmd {eff : HostCmd → Nat → State → State} (he : ∀ h d (s : State), s.keeps (eff h d s)) (ci : CmdInfo)
    (own : HostCmd → State → Option Nat) (h : HostCmd) (s : State) : s.keeps (runCmd ci own eff h s) := by
  unfold runCmd
  split
  · exact keeps_m s _
  · split
    · exact keeps_m s _
    · exact (keeps_m s _).trans (he h _ _)

theorem keeps_lift (f : HostCmd → Nat → State → Mach) (ci : CmdInfo) (own : HostCmd → State → Option Nat) (h : HostCmd)
    (s : State) : s.keeps (runCmd ci own (lift f) h s) :=
  keeps_runCmd (fun _ _ s => keeps_m s _) ci own h s

theorem keeps_writeBytes (s : State) (cls : Nat) (src : MemSrc) (a : Nat) (bs : List (BitVec 8)) :
    s.keeps (s.writeBytes cls src a bs) :=
  keeps_each (fun s _ => .ite (keeps_m s _) (keeps_m s _)) _ s

theorem keeps_copyPiece (s : State) (c : AccCopy) : s.keeps (s.copyPiece c) := by
  unfold State.copyPiece
  exact .ite (.refl s) (.ite (keeps_m s _) (keeps_m s _))

theorem keeps_copyAll (s : State) : s.keeps s.copyAll := keeps_each keeps_copyPiece _ s

theorem keeps_logDeliver (s : State) (r : Nat) : s.keeps (s.logDeliver r) := by
  unfold State.logDeliver
  dsimp only
  split
  · exact .refl s
  · exact .ite (.refl s) (keeps_m s _)

theorem keeps_fgDone (s : State) (t : Nat) (meas : List (List Int)) : s.keeps (s.fgDone t meas) := by
  unfold State.fgDone
  dsimp only
  split
  · exact .refl s
  · exact keeps_m s _

theorem keeps_accUpdate (s : State) (t : Nat) (unc : List Nat) (l : Nat) (f : List Nat → List Nat) :
    s.keeps (s.accUpdate t unc l f) := by
  unfold State.accUpdate
  refine .ite (keeps_m s _) (.trans (keeps_m s _) (.ite (.refl _) (.ite ?_ (keeps_m _ _))))
  exact .m (.ite (keeps_m _ _) (.refl _)) _

theorem keeps_foldPoints (s : State) (t j n : Nat) (unc : List Nat) (vals : List Int) :
    s.keeps (s.foldPoints t j n unc vals) :=
  keeps_each (fun s _ => keeps_accUpdate s ..) _ s

theorem keeps_foldHist (s : State) (t n : Nat) (unc : List Nat) (smp : List (List Int)) : s.keeps (s.foldHist t n unc smp) :=
  keeps_each (fun s _ => (keeps_accUpdate s ..).trans (.ite (.refl _) (keeps_m _ _))) _ s

theorem keeps_foldAll (s : State) (c : Closed) (n : Nat) (unc : List Nat) : s.keeps (s.foldAll c n unc) :=
  .ite (keeps_foldHist s ..) (keeps_each (fun s _ => keeps_foldPoints s ..) _ s)

theorem keeps_foldRec (s : State) (c : Closed) (unc : List Nat) : s.keeps (s.foldRec c unc) :=
  .trans (.ite (keeps_upd s _) (.ite (.refl s) ((keeps_foldAll s ..).trans (keeps_upd _ _)))) (keeps_upd _ _)

theorem keeps_accFold (t : Nat) (unc : List Nat) (s : State) : s.keeps (doAccFold t unc s) := by
  unfold doAccFold
  split
  · exact .ite (keeps_foldRec s ..) (.refl s)
  · exact .refl s

theorem keeps_lineFrame (s : State) (g : Nat) (p : Play) (line : Nat) (unc : Bool) : s.keeps (s.lineFrame g p line unc) :=
  .ite (keeps_m s _) (keeps_m s _)

theorem keeps_genFrame (s : State) (g : Nat) (unc : Bool) : s.keeps (s.genFrame g unc) := by
  unfold State.genFrame
  refine .ite (.refl s) (.ite (keeps_m s _) (.ite (.refl s) (.ite (keeps_m s _) ?_)))
  dsimp only
  split
  · exact keeps_m s _
  · split
    · exact .ite (keeps_m s _) (.ite (keeps_m s _) ((keeps_m s _).trans (keeps_lineFrame _ ..)))
    · exact keeps_m s _
    · exact (keeps_m s _).trans (keeps_lineFrame _ ..)

theorem keeps_mmioRead (s : State) (sp : Space) (off : Nat) : s.keeps (s.mmioRead sp off) := .ite (keeps_m s _) (.refl s)

theorem keeps_writeBar0 (s : State) (a v : Nat) : s.keeps (s.writeBar0 a v) := by
  unfold State.writeBar0
  refine .ite (keeps_m s _) (.ite (keeps_m s _) (.ite (keeps_m s _) (.ite (keeps_m s _) (.ite (.refl s) ?_))))
  split
  · exact .refl s
  · exact .ite (keeps_m s _) (.ite (keeps_m s _) (.ite (keeps_m s _) (keeps_m s _)))

theorem keeps_mmioWrite (s : State) (sp : Space) (off v be : Nat) : s.keeps (s.mmioWrite sp off v be) := by
  unfold State.mmioWrite
  refine .ite (.refl s) ?_
  cases sp with
  | pf0Bar0 => exact .ite (keeps_writeBar0 s ..) (keeps_m s _)
  | pf0Bar2 => exact .ite (keeps_m s _) (.refl s)
  | pf0Bar4 => exact .ite (keeps_m s _) (.refl s)
  | pf1Bar0 => exact .refl s
  | pf1Bar2 => exact .ite (keeps_m s _) (.refl s)

theorem keeps_rwhWrite (addr val : Nat) (s : State) : s.keeps (doRwhWrite addr val s) := by
  unfold doRwhWrite
  refine .ite (.refl s) ?_
  split
  · exact .ite (keeps_m s _) (.refl s)
  · exact .refl s

theorem keeps_smbusRead (off : Nat) (s : State) : s.keeps (doSmbusRead off s) := .ite (keeps_m s _) (keeps_m s _)

theorem keeps_logFlushTimeout (i : Nat) (s : State) : s.keeps (doLogFlushTimeout i s) := by
  unfold doLogFlushTimeout
  dsimp only
  split
  · exact .ite (keeps_m s _) (.refl s)
  · exact .refl s

theorem keeps_fgCalDone (t : Nat) (meas : List (List Int)) (s : State) : s.keeps (doFgCalDone t meas s) :=
  .ite ((keeps_fgDone s t meas).trans (keeps_upd _ _)) (keeps_fgDone s t meas)

/-- The commands that write record memory and leave the seal alone. -/
def memoryMovers : Instr → Bool
  | .memAccess .. | .dmaTransferUnit .. => true
  | _ => false

/-- A command that neither moves the seal nor writes record memory leaves both and the queue as they are. -/
theorem exec_keeps (c : Instr) (s : State) (hs : sealMovers c = false) (hm : memoryMovers c = false) :
    ∃ t, exec c s = .next t ∧ s.keeps t := by
  cases c
  case coreCycle | qualificationSlot | bookkeepingSlot | measurementClosingSlot | mirrorFrameSlot | faultWindowSlot |
      maintenanceSlot | maintStepEnd | maintLong | checkSample | tempReading | estimatorIntervalEnd | channelSettled |
      loopbackSettled | spllLost | spllLocked | mpllLost | mpllLocked | memReinit | cpllLost | cpllLocked | refLost |
      refQualified | slewDone | dtimeWrap | ppsinEdge | ppsoutPulse | syncinPulse | markerInputEdge | timerFire |
      trigOutPulse | comparatorActivate | modLost | modRestored | gapClose | recordRingDelivery | msixCoalTimeout |
      eventDelivery | underrunEnd | stagingFeed | guardTrip | guardZero | hkConversionEnd | selftestDone |
      ccSelftestDone | supplyWarning | supplyEvent | refreshDue | refreshCatchUp | refreshRatePoll | actTableClear |
      dramScrubStep | migDone | selfRefreshIdle | memVerifyDone | doorbellWrite | adminEnWrite | tabStageWrite |
      pf0PowerState | pcieLinkDown | pcieLinkUp | pcieCompletionError | pcieCompletionTimeout | dmaDoorbellWrite |
      dmaDescriptorFetch | descDone | dmaPause | dmaPaused | dmaResume | auditFlush | mirrorFrameReceived |
      frameMissed | twlTrainingDone | twlTrainingTimeout | mclkEdge | twlInvalidSyncHeader |
      pcieCorrectableError | tpllLocked => exact ⟨_, rfl, keeps_upd s _⟩
  case identify | queueCreate | queueDelete | eventRoute | deviceState | softReset | flashWrite | flashActivate | nop |
      chConfig | quadCombine | fgCal | calRelease | loopback | setMembers | setConfig | setBind | setArm | setDisarm |
      setRearm | trgUnitSet | trgProgram | trgPattern | trgIo | trgQseg | trgTimer | trgOut | trgSoft | prkExport |
      basteRead | logRingSet | logStreamCfg | logStart | logStop | logMgSet | logMdSet | logFlush | accConfig |
      accBind | accClear | measSlot | measBind | measExport | measStats | genConfig | genSegWrite | genSeqWrite |
      genArm | genStart | genStop | genJump | genNcoSet | genSkew | genGuard | genGuardReset | genSrBind | genTrig |
      tbSource | tbRate | tbTod | tbSpread | tbOutputs | tbSync | areaCreate | areaDestroy | areaClear | memScrub |
      memMigrate | memPasrSet | memSrSet | memAgeSet | memVerify | pairForm | pairDissolve | pairRoleSwap |
      pairRejoin | pairTwinCheck | pairRetrain | pairConfig | hoopCommit | hoopLogExport | hoopFwLoad | hoopDiscard |
      hoopNote | dmaBind | dmaUnbind | dmaRecover | hkSeq | hkConvert | hkSnapshot | hkSelftest | fltConfig |
      fltClear | fltInject | fltHistory | maintCfg | ccSelftest | sramScrub | maintCancel =>
    exact ⟨_, rfl, keeps_lift _ _ _ _ s⟩
  case accRead => exact ⟨_, rfl, keeps_runCmd (fun _ _ s => (keeps_m s _).trans (keeps_copyPiece _ _)) _ _ _ s⟩
  case fgCalDone => exact ⟨_, rfl, keeps_fgCalDone _ _ s⟩
  case logFlushTimeout => exact ⟨_, rfl, keeps_logFlushTimeout _ s⟩
  case logBlockDelivery => exact ⟨_, rfl, keeps_logDeliver s _⟩
  case accFold => exact ⟨_, rfl, keeps_accFold _ _ s⟩
  case genFrame => exact ⟨_, rfl, keeps_genFrame s _ _⟩
  case rwhWrite => exact ⟨_, rfl, keeps_rwhWrite _ _ s⟩
  case shadowLatchRead | readClear => exact ⟨_, rfl, keeps_mmioRead s _ _⟩
  case registerWrite => exact ⟨_, rfl, keeps_mmioWrite s _ _ _ _⟩
  case smbusRead => exact ⟨_, rfl, keeps_smbusRead _ s⟩
  case memAccess | dmaTransferUnit => cases hm
  all_goals cases hs

/-! ### Record memory -/

/-- The queue and the seal are as they were, and record memory keeps its canonical form. -/
structure KeepsSeal (s t : State) : Prop where
  pending : t.pending = s.pending
  hoopSeal : t.hoopSeal = s.hoopSeal
  wf : Memory.wf s.dram.cells = true → Memory.wf t.dram.cells = true

theorem State.keeps.keepsSeal {s t : State} (h : s.keeps t) : KeepsSeal s t := ⟨h.1, h.2.1, fun hw => h.2.2 ▸ hw⟩

theorem KeepsSeal.refl (s : State) : KeepsSeal s s := (State.keeps.refl s).keepsSeal

theorem KeepsSeal.trans {a b c : State} (h : KeepsSeal a b) (g : KeepsSeal b c) : KeepsSeal a c :=
  ⟨g.pending.trans h.pending, g.hoopSeal.trans h.hoopSeal, g.wf ∘ h.wf⟩

theorem KeepsSeal.m {s t : State} (h : KeepsSeal s t) (m : Mach) : KeepsSeal s { t with m := m } :=
  h.trans (keeps_m t m).keepsSeal

/-- A change of record memory that keeps the canonical form, and of the device. -/
theorem keepsSeal_dram (s : State) (d : Dram) (m : Mach) (h : Memory.wf s.dram.cells = true → Memory.wf d.cells = true) :
    KeepsSeal s { s with dram := d, m := m } := ⟨rfl, rfl, h⟩

theorem keepsSeal_readLine (s : State) (line : Nat) (ecc : MemEcc) : KeepsSeal s (s.readLine line ecc) := by
  unfold State.readLine
  split
  · exact .refl s
  · cases ecc with
    | ok => exact .refl s
    | corrected => exact (keeps_m s _).keepsSeal
    | uncorrectable c => exact keepsSeal_dram s _ _ id

theorem keepsSeal_issue (s : State) (r : MemReq) (ecc : MemEcc) : KeepsSeal s (s.issue r ecc) := by
  have h0 : KeepsSeal s { s with m := s.m.takeReq r } := (keeps_m s _).keepsSeal
  unfold State.issue
  dsimp only
  split
  · exact h0.trans (keepsSeal_dram _ _ _ fun h => wf_clear h _ _)
  · split
    · exact (h0.trans (keepsSeal_readLine _ _ _)).trans (keepsSeal_dram _ _ _ fun h => wf_writeLine h _ _ _)
    · have hw := keepsSeal_dram s (s.dram.writeLine r.line ‹_› r.poison) (s.m.takeReq r) fun h => wf_writeLine h _ _ _
      split
      · split
        · exact hw.m _
        · exact hw
      · exact hw
  · have hr := h0.trans (keepsSeal_readLine _ r.line ecc)
    split
    · exact hr.m _
    · exact hr

theorem keepsSeal_memAccess (s : State) (mc rd : Nat) (ecc : MemEcc) : KeepsSeal s (s.memAccess mc rd ecc) := by
  unfold State.memAccess
  split
  · exact .refl s
  · split
    · exact (keeps_m s _).keepsSeal.trans (keepsSeal_issue _ _ _)
    · dsimp only
      split
      · exact (keeps_m s _).keepsSeal.trans (keepsSeal_readLine _ _ _)
      · exact .refl s

theorem keeps_dmaWrite (s : State) (k : Nat) (dram : Bool) (a : Nat) (bs : List (BitVec 8)) :
    s.keeps (s.dmaWrite k dram a bs) := .ite (keeps_writeBytes s ..) (keeps_m s _)

theorem keeps_dmaLinear (s : State) (k : Nat) (w : List Nat) (n : Nat) (bytes : List (BitVec 8)) :
    s.keeps (s.dmaLinear k w n bytes) :=
  .ite ((keeps_each (fun s _ => keeps_dmaWrite s ..) _ s).m _) ((keeps_dmaWrite s ..).m _)

theorem keeps_dmaSamples (s : State) (k : Nat) (w : List Nat) (n : Nat) : s.keeps (s.dmaSamples k w n) :=
  (keeps_dmaWrite s ..).m _

theorem keepsSeal_dmaUnit (s : State) (k : Nat) (data : List (BitVec 8)) (unc : List Nat) :
    KeepsSeal s (s.dmaUnit k data unc) := by
  unfold State.dmaUnit
  split
  · split
    · exact .refl s
    · dsimp only
      split
      · refine KeepsSeal.m ?_ _
        split
        · exact (keeps_m s _).keepsSeal.trans (keepsSeal_readLine _ _ _)
        · exact (keeps_m s _).keepsSeal
      · exact (((State.keeps.ite (keeps_m s _) ((keeps_m s _).trans (keeps_upd _ _))).trans
          (.ite (keeps_dmaSamples ..) (keeps_dmaLinear ..))).m _).keepsSeal
  · exact .refl s

/-- Only the rows of `sealMovers` touch the seal. -/
theorem exec_keepsSeal (c : Instr) (s : State) (hs : sealMovers c = false) : ∃ t, exec c s = .next t ∧ KeepsSeal s t := by
  by_cases hm : memoryMovers c = false
  · obtain ⟨t, he, hk⟩ := exec_keeps c s hs hm
    exact ⟨t, he, hk.keepsSeal⟩
  · cases c
    case memAccess => exact ⟨_, rfl, keepsSeal_memAccess s _ _ _⟩
    case dmaTransferUnit => exact ⟨_, rfl, keepsSeal_dmaUnit s _ _ _⟩
    all_goals exact absurd rfl hm

/-! ### Resets, starts and the seal -/

/-- What every command keeps: the queue, the fused variant, a legal seal (R2), and the canonical form of record memory. -/
structure KeepsSafe (s t : State) : Prop where
  pending : t.pending = s.pending
  gf : t.hoopSeal.gf = s.hoopSeal.gf
  legal : s.hoopSeal.legal = true → t.hoopSeal.legal = true
  wf : Memory.wf s.dram.cells = true → Memory.wf t.dram.cells = true

theorem KeepsSeal.keepsSafe {s t : State} (h : KeepsSeal s t) : KeepsSafe s t :=
  ⟨h.pending, congrArg Seal.gf h.hoopSeal, fun hl => h.hoopSeal ▸ hl, h.wf⟩

theorem State.keeps.keepsSafe {s t : State} (h : s.keeps t) : KeepsSafe s t := h.keepsSeal.keepsSafe

theorem KeepsSafe.refl (s : State) : KeepsSafe s s := (State.keeps.refl s).keepsSafe

theorem KeepsSafe.trans {a b c : State} (h : KeepsSafe a b) (g : KeepsSafe b c) : KeepsSafe a c :=
  ⟨g.pending.trans h.pending, g.gf.trans h.gf, g.legal ∘ h.legal, g.wf ∘ h.wf⟩

theorem KeepsSafe.m {s t : State} (h : KeepsSafe s t) (m : Mach) : KeepsSafe s { t with m := m } :=
  h.trans (keeps_m t m).keepsSafe

theorem KeepsSafe.ite {s a b : State} {p : Prop} [Decidable p] (ha : p → KeepsSafe s a) (hb : ¬p → KeepsSafe s b) :
    KeepsSafe s (if p then a else b) := by
  split
  · exact ha ‹_›
  · exact hb ‹_›

/-- A transition of the Hoop that does not seal an LQ6420-GF. -/
theorem keepsSafe_sealTo (s : State) (dest : SealSt) (cause source t : Nat) (rv : Bool)
    (h : dest = .sealed → s.hoopSeal.gf = false) : KeepsSafe s (s.sealTo dest cause source t rv) where
  pending := sealTo_pending ..
  gf := sealTo_gf ..
  legal _ := legal_sealTo _ _ _ _ _ _ h
  wf hw := by rw [sealTo_dram]; exact hw

theorem keepsSafe_openTo (s : State) (dest : SealSt) (cause source t : Nat) (rv : Bool) (h : dest ≠ .sealed) :
    KeepsSafe s (s.sealTo dest cause source t rv) := keepsSafe_sealTo s _ _ _ _ _ fun e => absurd e h

theorem keepsSafe_strapSeal (s : State) (source t : Nat) (h : s.hoopSeal.gf = false) :
    KeepsSafe s (s.strapSeal source t) := by
  obtain ⟨hp, hd, hg⟩ := strapSeal_keeps s source t
  exact ⟨hp, hg, fun _ => legal_strapSeal s source t h, fun hw => hd ▸ hw⟩

theorem keepsSafe_strap (s : State) (high : Bool) (t : Nat) : KeepsSafe s (s.strap high t) := by
  obtain ⟨hp, hd, hg⟩ := strap_keeps s high t
  exact ⟨hp, hg, legal_strap s high t, fun hw => hd ▸ hw⟩

theorem keepsSafe_strapLatched (s : State) : KeepsSafe s s.strapLatched :=
  List.foldlRecOn _ _ (keeps_m s _).keepsSafe fun _ h _ _ => h.trans (keepsSafe_strap _ _ _)

theorem keepsSafe_burn (s : State) : KeepsSafe s s.burn where
  pending := burn_pending s
  gf := burn_gf s
  legal hl := by unfold Seal.legal at *; rw [burn_gf, burn_st]; exact hl
  wf hw := by rw [burn_dram]; exact hw

theorem keepsSafe_noDram (s : State) (m : Mach) : KeepsSafe s { s with dram := noDram, m := m } :=
  (keepsSeal_dram s noDram m fun _ => rfl).keepsSafe

theorem keepsSafe_fullReset (s : State) (c cause data : Nat) : KeepsSafe s (s.fullReset c cause data) :=
  keepsSafe_noDram s _

theorem keepsSafe_wdog (s : State) : KeepsSafe s s.wdog := by
  unfold State.wdog
  extract_lets
  split
  · exact .refl s
  · exact (keepsSafe_noDram s _).trans (keepsSafe_strapLatched _)

theorem keepsSafe_funcRestart (s : State) (c : Nat) : KeepsSafe s (s.funcRestart c) := by
  unfold State.funcRestart
  extract_lets
  split
  · exact .refl s
  · split
    · exact (keeps_m s _).keepsSafe.trans (keepsSafe_strapLatched _)
    · exact (keeps_m s _).keepsSafe

theorem keepsSafe_reset' (s : State) (c cause data : Nat) : KeepsSafe s (s.reset' c cause data) :=
  .ite (fun _ => keepsSafe_fullReset s ..) fun _ =>
    .ite (fun _ => keepsSafe_wdog s) fun _ => keepsSafe_funcRestart s c

theorem keepsSafe_selvedge (s : State) (src : Nat) : KeepsSafe s (s.selvedge src) :=
  .ite (fun _ => .refl s) fun _ => (keepsSafe_noDram s _).trans (keepsSafe_strapLatched _)

theorem keepsSafe_boundary (s : State) : KeepsSafe s s.boundary := by
  refine .ite (fun _ => .refl s) fun _ => ?_
  extract_lets s'
  have h : KeepsSafe s s' := ((keeps_upd s _).trans (keeps_copyAll _)).keepsSafe
  split
  · exact h.trans (keepsSafe_selvedge _ _)
  · exact h

/-- What the store, the latched edges and the strap do to the seal in S2, on an LQ6420-MF. -/
theorem keepsSafe_bootS2 (s : State) (r : BootResult) : KeepsSafe s (s.bootS2 r) := by
  refine .ite (fun _ => (keeps_upd s _).keepsSafe) fun _ => ?_
  extract_lets older s1 s2 s3 s4 s5 s6 s7
  refine KeepsSafe.m ?_ _
  have h2 : KeepsSafe s s2 := ((keeps_upd s _).trans (keeps_upd _ _)).keepsSafe
  refine .ite (fun _ => h2) fun hg => ?_
  have h4 : KeepsSafe s s4 := (h2.trans (keepsSafe_strapLatched s2)).m _
  have h5 : KeepsSafe s s5 := h4.trans (.ite (fun _ => keepsSafe_openTo s4 .broken _ _ _ _ nofun) fun _ => .refl s4)
  have h6 : KeepsSafe s s6 := h5.trans (.ite (fun _ => keepsSafe_openTo s5 .broken _ _ _ _ nofun) fun _ => .refl s5)
  have hg6 : s6.hoopSeal.gf = false := by rw [h6.gf, ← h2.gf]; simpa using hg
  split
  · exact h6.trans (keepsSafe_openTo s6 .broken _ _ _ _ nofun)
  · exact h6.trans (keepsSafe_strapSeal s6 _ _ hg6)
  · exact h6

theorem keepsSafe_bootStage (s : State) (r : BootResult) : KeepsSafe s (s.bootStage r) := by
  refine .ite (fun _ => .refl s) fun _ => ?_
  have hu : ∀ f, KeepsSafe s (s.upd f) := fun f => (keeps_upd s f).keepsSafe
  split
  · exact .refl s
  · exact .ite (fun _ => hu _) fun _ => (keeps_m s _).keepsSafe.trans (keepsSafe_fullReset _ ..)
  · exact hu _
  · exact keepsSafe_bootS2 s r
  · exact .ite (fun _ => hu _) fun _ => keepsSafe_fullReset s ..
  · exact .ite (fun _ => .refl s) fun _ => hu _
  · exact .ite (fun _ => .refl s) fun _ => hu _
  · exact .ite (fun _ => hu _) fun _ => .refl s
  · exact hu _

theorem keepsSeal_drain (s : State) : KeepsSeal s s.drain :=
  List.foldlRecOn _ _ (keeps_m s _).keepsSeal fun _ h _ _ => h.trans (keepsSeal_issue _ _ _)

theorem keepsSafe_retEntered (s : State) : KeepsSafe s s.retEntered :=
  .ite (fun _ => .refl s) fun _ =>
    ((keepsSeal_drain s).trans (keepsSeal_dram _ _ _ fun h => wf_filter h _)).keepsSafe

theorem keepsSafe_retExited (s : State) (pass : Nat) (maps : List (Nat × Nat)) : KeepsSafe s (s.retExited pass maps) :=
  .ite (fun _ => .refl s) fun _ => (keeps_m s _).keepsSafe.trans (keepsSafe_strapLatched _)

theorem keepsSafe_commitEnd (s : State) (c : Commit) : KeepsSafe s (s.commitEnd c) := by
  unfold State.commitEnd
  split
  · exact .ite (fun h => keepsSafe_sealTo _ _ _ _ _ _ fun _ => by simpa using h.2) fun _ => .refl s
  · exact .ite (fun h => (keepsSafe_sealTo _ _ _ _ _ _ fun _ => by simpa using h.2).m _) fun _ => (keeps_m s _).keepsSafe
  · exact (keeps_m s _).keepsSafe
  · exact (keeps_m s _).keepsSafe
  · exact (keeps_m s _).keepsSafe
  · exact .refl s

theorem keepsSafe_changeDone (s : State) : KeepsSafe s s.changeDone := by
  unfold State.changeDone
  split
  · exact .refl s
  · split
    · exact .refl s
    · next c _ _ _ _ _ _ =>
      have hc : ∀ m, KeepsSafe s (State.commitEnd { s with m := m } c) := fun m =>
        (keeps_m s m).keepsSafe.trans (keepsSafe_commitEnd _ c)
      refine .ite (fun _ => .refl s) fun _ => .ite (fun _ => (keeps_m s _).keepsSafe) fun _ => ?_
      refine .ite (fun _ => .ite (fun h => ?_) fun _ => (hc _).m _) fun _ => hc _
      exact ((hc _).m _).trans (keepsSafe_strapSeal _ _ _ (by simpa using h.2.2))

theorem keepsSafe_hoopStrapChange (high : Bool) (s : State) : KeepsSafe s (doHoopStrapChange high s) :=
  .ite (fun _ => .ite (fun _ => .refl s) fun _ => (keeps_m s _).keepsSafe) fun _ => keepsSafe_strap s high _

/-- A command that no check refuses is left to its effect; a refused one only completes. -/
theorem keepsSafe_runCmd {ci : CmdInfo} {own : HostCmd → State → Option Nat} {eff : HostCmd → Nat → State → State}
    {h : HostCmd} {s : State} (he : own h s = none → ∀ d m, KeepsSafe s (eff h d { s with m := m })) :
    KeepsSafe s (runCmd ci own eff h s) := by
  unfold runCmd
  split
  · exact (keeps_m s _).keepsSafe
  · split
    · exact (keeps_m s _).keepsSafe
    · exact he ‹_› _ _

theorem keepsSafe_hoopUnseal (h : HostCmd) (s : State) : KeepsSafe s (doHoopUnseal h s) :=
  keepsSafe_runCmd fun _ _ _ => .ite (fun _ => (keeps_m s _).keepsSafe) fun _ =>
    ((keeps_m s _).keepsSafe.trans (keepsSafe_openTo _ .opened _ _ _ _ nofun)).m _

/-- HOOP_SEAL has its effect on an LQ6420-MF only (R2). -/
theorem ownHoopSeal_none_gf {h : HostCmd} {s : State} (ho : ownHoopSeal h s = none) : s.hoopSeal.gf = false := by
  cases hg : s.hoopSeal.gf
  · rfl
  · simp [ownHoopSeal, firstOf, hg] at ho

theorem keepsSafe_hoopSeal (h : HostCmd) (s : State) : KeepsSafe s (doHoopSeal h s) := by
  have hr : KeepsSafe s (runCmd ciHoopSeal ownHoopSeal effHoopSeal h s) := keepsSafe_runCmd fun ho d m => by
    have hg := ownHoopSeal_none_gf ho
    exact .ite (fun _ => ((keeps_m s m).keepsSafe.trans (keepsSafe_sealTo _ _ _ _ _ _ fun _ => hg)).m _)
      fun _ => (keeps_m s _).keepsSafe
  exact .ite (fun _ => hr.m _) fun _ => hr

theorem keepsSafe_hoopLogAck (h : HostCmd) (s : State) : KeepsSafe s (doHoopLogAck h s) :=
  keepsSafe_runCmd fun _ _ _ => ((keeps_m s _).keepsSafe.trans (.ite (fun _ => .refl _) fun _ => keepsSafe_burn _)).m _

/-! ### Fetching, and every step -/

/-- The two rows that fetch a command and run it. -/
def fetches : Instr → Bool
  | .commandFetch .. | .sequenceReread .. => true
  | _ => false

theorem exec_keepsSafe_of_not_fetches (c : Instr) (s : State) (hf : fetches c = false) :
    ∃ t, exec c s = .next t ∧ KeepsSafe s t := by
  by_cases hs : sealMovers c = false
  · obtain ⟨t, he, hk⟩ := exec_keepsSeal c s hs
    exact ⟨t, he, hk.keepsSafe⟩
  · cases c
    case unsealLapsed | flrPf1 => exact ⟨_, rfl, (keeps_upd s _).keepsSafe⟩
    case powerOnReset | jtagTestExit => exact ⟨_, rfl, keepsSafe_fullReset s _ _ _⟩
    case resetNPin | xtalFail | supplyReset =>
      exact ⟨_, rfl, (keeps_upd s _).keepsSafe.trans (keepsSafe_fullReset _ _ _ _)⟩
    case resetNRelease => exact ⟨_, rfl, ((keeps_upd s _).trans (keeps_upd _ _)).keepsSafe⟩
    case xtalReturn =>
      exact ⟨_, rfl, .ite (fun _ => ((keeps_upd s _).trans (keeps_upd _ _)).keepsSafe) fun _ => .refl s⟩
    case perst | flrPf0 | watchdogExpiry => exact ⟨_, rfl, keepsSafe_reset' s _ _ _⟩
    case resetAfterCompletion =>
      refine ⟨_, rfl, ?_⟩
      unfold doResetAfterCompletion
      split
      · exact keepsSafe_reset' s _ _ _
      · exact .refl s
    case bootStageComplete => exact ⟨_, rfl, keepsSafe_bootStage s _⟩
    case stitchBoundary => exact ⟨_, rfl, keepsSafe_boundary s⟩
    case retEntered => exact ⟨_, rfl, keepsSafe_retEntered s⟩
    case retExited => exact ⟨_, rfl, keepsSafe_retExited s _ _⟩
    case changeDone => exact ⟨_, rfl, keepsSafe_changeDone s⟩
    case hoopStrapChange => exact ⟨_, rfl, keepsSafe_hoopStrapChange _ s⟩
    case hoopUnseal => exact ⟨_, rfl, keepsSafe_hoopUnseal _ s⟩
    case hoopSeal => exact ⟨_, rfl, keepsSafe_hoopSeal _ s⟩
    case hoopLogAck => exact ⟨_, rfl, keepsSafe_hoopLogAck _ s⟩
    case commandFetch | sequenceReread => cases hf
    all_goals exact absurd rfl hs

/-- The next state of an outcome, and `s` where it has none. -/
def nextOr (s : State) : Host.Outcome State Fault Refusal → State
  | .next t => t
  | _ => s

/-- A fetched opcode runs the row of Table 11.8. -/
theorem runTable_eq : runTable = opcodes.map fun p => (p.1, fun h s => nextOr s (exec (p.2 h) s)) := rfl

/-- No row of Table 11.8 fetches. -/
theorem not_fetches_of_opcodes {p : Nat × (HostCmd → Instr)} (hp : p ∈ opcodes) (h : HostCmd) : fetches (p.2 h) = false := by
  have hall : opcodes.map (fun p => fetches (p.2 h)) = List.replicate opcodes.length false := rfl
  exact List.eq_of_mem_replicate (hall ▸ List.mem_map_of_mem hp)

theorem mem_of_tfind {α : Type} {t : List (Nat × α)} {k : Nat} {v : α} (h : tfind t k = some v) : (k, v) ∈ t := by
  induction t with
  | nil => cases h
  | cons p t ih =>
    obtain ⟨a, w⟩ := p
    unfold tfind at h
    split at h
    · next he => cases h; exact he ▸ List.mem_cons_self
    · exact List.mem_cons_of_mem _ (ih h)

theorem keepsSafe_runOp (s : State) (op : Nat) (h : HostCmd) : KeepsSafe s (s.runOp op h) := by
  unfold State.runOp
  split
  · next f hf =>
    have hm := mem_of_tfind hf
    rw [runTable_eq] at hm
    obtain ⟨p, hp, he⟩ := List.mem_map.mp hm
    obtain ⟨t, ht, hk⟩ := exec_keepsSafe_of_not_fetches (p.2 h) s (not_fetches_of_opcodes hp h)
    cases he
    show KeepsSafe s (nextOr s (exec (p.2 h) s))
    rw [ht]
    exact hk
  · exact (keeps_upd s _).keepsSafe

theorem keepsSafe_fetchRead (s : State) (q : Fin 512) (ws data : List (BitVec 64)) : KeepsSafe s (s.fetchRead q ws data) := by
  unfold State.fetchRead
  extract_lets s1 m w0
  have h1 : KeepsSafe s s1 := (keeps_upd s _).keepsSafe
  refine .ite (fun _ => .ite (fun _ => h1.m _) fun _ => h1.m _) fun _ => ?_
  exact .ite (fun _ => h1.m _) fun _ => (h1.m _).trans (keepsSafe_runOp _ _ _)

/-- Every command answers a next state, with the queue, the variant, a legal seal and canonical record memory kept. -/
theorem exec_keepsSafe (c : Instr) (s : State) : ∃ t, exec c s = .next t ∧ KeepsSafe s t := by
  by_cases hf : fetches c = false
  · exact exec_keepsSafe_of_not_fetches c s hf
  · cases c
    case commandFetch q ws data ecc =>
      refine ⟨_, rfl, .ite (fun _ => .refl s) fun _ => ?_⟩
      have hu := (keeps_upd s fun m => each ecc (fun m e => m.sramErr e) m).keepsSafe
      exact .ite (fun _ => hu) fun _ => hu.trans (keepsSafe_fetchRead _ _ _ _)
    case sequenceReread =>
      exact ⟨_, rfl, .ite (fun _ => .refl s) fun _ => .ite (fun _ => (keeps_upd s _).keepsSafe) fun _ =>
        .ite (fun _ => keepsSafe_fetchRead s _ _ _) fun _ => .refl s⟩
    all_goals exact absurd rfl hf

theorem step_keepsSafe {s t : State} (h : step s = .next t) :
    t.hoopSeal.gf = s.hoopSeal.gf ∧ (s.hoopSeal.legal = true → t.hoopSeal.legal = true) ∧
      (Memory.wf s.dram.cells = true → Memory.wf t.dram.cells = true) := by
  unfold step at h
  split at h
  · cases h; exact ⟨rfl, id, id⟩
  · next c rest _ =>
    obtain ⟨u, he, hk⟩ := exec_keepsSafe c { s with pending := rest }
    rw [he] at h
    cases h
    exact ⟨hk.gf, hk.legal, hk.wf⟩

theorem safe_iff (s : State) : s.safe = true ↔ s.hoopSeal.legal = true ∧ Memory.wf s.dram.cells = true := Bool.and_eq_true_iff

/-- Settles O3: by cases on the command, each of which keeps both parts of the invariant. -/
theorem stepKeepsSafe : Obligations.StepKeepsSafe := by
  intro s t hs h
  obtain ⟨hl, hw⟩ := (safe_iff s).mp hs
  obtain ⟨-, hlegal, hwf⟩ := step_keepsSafe h
  exact (safe_iff t).mpr ⟨hlegal hl, hwf hw⟩

/-- Settles O4: the seal of a new device is OPEN and its record memory lists nothing. -/
theorem resetIsSafe : Obligations.ResetIsSafe := (safe_iff _).mpr ⟨rfl, wf_reset⟩

end Sys2Proof.Machine
end

section
/-! Register access (R7–R9, R325–R327, R385, R386, R490, R500): what an offset names, what reads and writes do. -/
namespace Sys2Proof.Machine
open Sys2Proof

/-! ### Audit entries and refused writes -/

/-- The places of register fields, outside the reports, that an audit entry writes. -/
def auditKeys : List Nat :=
  [HOOP_MEC_MEC.key [], HOOP_LOG_USED_USED.key [], HOOP_LOG_USED_LOST.key [], HOOP_STAT_LOG_HIGH.key [],
   HOOP_STAT_LOG_FULL.key []]

/-- The Hoop's own record has no part in a quiet step. -/
theorem Quiet.withHoop {ks : List Nat} {m t : Mach} (q : Quiet ks m t) (h : Hoop) :
    Quiet ks { m with hoop := h } { t with hoop := h } := { q with hoop := rfl }

theorem quiet_wr_mem {ks : List Nat} (m : Mach) (F : Fld) (ix : List Nat) (v : Nat) (h : F.key ix ∈ ks) :
    Quiet ks m (m.wr F ix v) :=
  (quiet_wr m F ix v).mono fun _ hk => List.mem_singleton.mp hk ▸ h

theorem quiet_logRegs (m : Mach) : Quiet auditKeys m m.logRegs := by
  have report : ∀ {a b : Mach}, Quiet [] a b → Quiet auditKeys a b := fun q => q.mono (by simp)
  exact (((quiet_wr_mem m HOOP_LOG_USED_USED [] _ (by decide)).then
    (quiet_wr_mem _ HOOP_STAT_LOG_HIGH [] _ (by decide))).then
    (quiet_wr_mem _ HOOP_STAT_LOG_FULL [] _ (by decide))).then
    (report ((quiet_wr_report _ HIF_ALERT_STAT_AUDIT_FULL [] _ (by decide)).then (quiet_alertEval _)))

/-- The low four bits of an audit entry are its kind (Table 13.3). -/
theorem auditWord_kind (kind source sl code epoch mec : Nat) :
    (kind + source <<< 4 + sl <<< 6 + (code % 256) <<< 8 + epoch <<< 16 + mec <<< 32) % 16 = kind % 16 := by
  simp only [Nat.shiftLeft_eq]
  omega

/-- An audit entry changes the Hoop's record and its registers, and reports; a log with room takes the entry (R391). -/
theorem auditAt_spec (m : Mach) (t : Nat) (sl : SealSt) (kind source code a b : Nat) :
    ∃ h, Quiet auditKeys { m with hoop := h } (m.auditAt t sl kind source code a b) ∧
      (m.logUsed < 8192 → ∃ w0, h.log = m.hoop.log ++ [[w0, t % 2 ^ 64, a % 2 ^ 64, b % 2 ^ 64]] ∧ w0 % 16 = kind % 16) := by
  have report : ∀ {a b : Mach}, Quiet [] a b → Quiet auditKeys a b := fun q => q.mono (by simp)
  have hraise : ∀ (m : Mach) (code v : Nat) (x : List Nat), Quiet auditKeys m ((m.raise 9 code 0 [] x).msix1 v) :=
    fun m code v x => report ((quiet_raise m 9 code 0 [] x (by decide)).then (quiet_msix1 _ v))
  unfold Mach.auditAt
  extract_lets m1 m2 w0 old m3 m4 m5
  have h1 : Quiet auditKeys m m1 := by
    unfold m1
    split
    · exact quiet_wr_mem m HOOP_MEC_MEC [] _ (by decide)
    · exact .refl _ _
  have hlog : m1.logUsed = m.logUsed := congrArg (fun h : Hoop => h.log.length) h1.hoop
  split
  · next hfull =>
    refine ⟨m.hoop, (h1.then (quiet_wr_mem m1 HOOP_LOG_USED_LOST [] _ (by decide))).then (hraise _ _ _ _), fun h => ?_⟩
    omega
  · have h5 : Quiet auditKeys m4 m5 := by
      unfold m5
      split
      · exact hraise _ _ _ _
      · exact .refl _ _
    refine ⟨m3.hoop, ((h1.withHoop m3.hoop).then ((quiet_logRegs m3).then h5)).then ?_, fun _ => ⟨w0, ?_, auditWord_kind ..⟩⟩
    · split
      · exact hraise _ _ _ _
      · exact .refl _ _
    · exact congrArg (fun h : Hoop => h.log ++ _) h1.hoop

theorem quiet_refusedEntry (m : Mach) (sl : SealSt) (t off rgn n : Nat) :
    ∃ h, Quiet auditKeys { m with hoop := h } (m.refusedEntry sl t off rgn n) := by
  obtain ⟨h, q, -⟩ := auditAt_spec m t sl auRefused 1 rgn off n
  exact ⟨h, q.then (((quiet_fault _ 51 0).then (quiet_raiseAt _ t 9 0x0004 0 [off] _ (by decide))).mono (by simp))⟩

/-- A refused write of sealed content is logged, or counted for an entry to come, and has no other effect (R385). -/
theorem quiet_refuseWrite (m : Mach) (sl : SealSt) (off rgn : Nat) :
    ∃ h, Quiet auditKeys { m with hoop := h } (m.refuseWrite sl off rgn) := by
  unfold Mach.refuseWrite
  dsimp only
  split
  · split
    · exact ⟨_, .refl _ _⟩
    · obtain ⟨h, q⟩ := quiet_refusedEntry m sl _ _ _ _
      exact ⟨_, q.withHoop _⟩
  · obtain ⟨h, q⟩ := quiet_refusedEntry m sl m.dtime off rgn 1
    exact ⟨_, q.withHoop _⟩

/-! ### Finding a register -/

/-- The offset of a row of an array of registers, with a remainder: the row starts only where the remainder is 0. -/
theorem dimIndex_array {s n i k : Nat} (hi : i < n) (hk : k < s) :
    dimIndex [(s, n)] (k + s * i) = if k = 0 then some [i] else none := by
  have hd : (k + s * i) / s = i := by rw [Nat.add_mul_div_left _ _ (by omega), Nat.div_eq_of_lt hk, Nat.zero_add]
  have hm : (k + s * i) % s = k := by rw [Nat.add_mul_mod_self_left, Nat.mod_eq_of_lt hk]
  simp only [dimIndex, hd, hm, if_pos hi]
  split <;> rfl

theorem regAt_ovrCnt (n : Nat) (hn : n < 64) :
    regAt (0x200008 + 64 * n) = some (⟨"TIL_CH_OVR_CNT", 0x200008, [(64, 64)], [TIL_CH_OVR_CNT_OVR_BLOCKS]⟩, [n]) := by
  have hrow : ∀ b k, b + k = 0x200008 → k < 64 → (if b ≤ 0x200008 + 64 * n then dimIndex [(64, 64)] (0x200008 + 64 * n - b)
      else none) = if k = 0 then some [n] else none := by
    intro b k hb hk
    rw [if_pos (by omega), show 0x200008 + 64 * n - b = k + 64 * n by omega, dimIndex_array hn hk]
  unfold regAt
  rw [if_neg (by omega)]
  show regIn (_ :: _ :: _ :: _) _ = _
  simp only [regIn, hrow 0x200000 8 rfl (by decide), hrow 0x200004 4 rfl (by decide), hrow 0x200008 0 rfl (by decide)]
  rfl

theorem regAt_dtimeLo : regAt 0x400020 = some (⟨"TBS_DTIME_LO", 0x400020, [], [TBS_DTIME]⟩, []) := by rfl

theorem regAt_dtimeHi : regAt 0x400024 = some (⟨"TBS_DTIME_HI", 0x400024, [], [TBS_DTIME_SH]⟩, []) := by rfl

/-! ### Reads -/

/-- A register of one field from bit 0 reads as that field. -/
theorem regVal_single (s : State) (n : String) (b : Nat) (d : List (Nat × Nat)) (F : Fld) (ix : List Nat) (hl : F.lsb = 0) :
    s.regVal ⟨n, b, d, [F]⟩ ix = s.fldVal F ix % 2 ^ 32 := by
  simp [State.regVal, hl]

/-- A read of an ordinary register below the windows of the Hoop: its value, and what its fields do besides. -/
theorem readBar0_reg (s : State) {a : Nat} {r : Reg} {ix : List Nat} (ha : a < 0xA00000)
    (hw : a < 0x20400C ∨ 0x204014 < a) (hr : regAt a = some (r, ix)) :
    s.readBar0 a = (s.regVal r ix, r.flds.foldl (s.readFld a ix) s.m) := by
  unfold State.readBar0
  dsimp only
  rw [if_neg (by omega), if_neg (by omega), if_neg (by omega), if_neg (by omega), if_neg (by omega), hr]
  dsimp only
  rw [if_neg (by omega), if_neg (by omega)]

/-- A read of BAR0 of PF0 that is answered. -/
theorem mmioRead_bar0 (s : State) (a : Nat) (hu : s.m.hostUp = true) (h4 : a % 4 = 0) :
    s.mmioRead .pf0Bar0 a = { s with m := (s.readBar0 a).2.emit (.reg a (s.readBar0 a).1) } := by
  have ha : a / 4 * 4 = a := by omega
  unfold State.mmioRead State.readAt
  rw [ha]
  exact if_pos hu

theorem readBar0_ovrCnt (s : State) (n : Nat) (hn : n < 64) : s.readBar0 (0x200008 + 64 * n) =
    (s.m.rd TIL_CH_OVR_CNT_OVR_BLOCKS [n], s.m.wr TIL_CH_OVR_CNT_OVR_BLOCKS [n] 0) := by
  rw [readBar0_reg s (by omega) (by omega) (regAt_ovrCnt n hn)]
  rw [regVal_single s _ _ _ _ _ rfl]
  exact Prod.ext (Nat.mod_eq_of_lt (Mach.rd_lt s.m TIL_CH_OVR_CNT_OVR_BLOCKS [n])) rfl

/-- The read of the low half of DTIME latches the high half. -/
theorem readBar0_dtimeLo (s : State) : s.readBar0 0x400020 =
    (s.m.dtime % 2 ^ 32, s.m.setShadow 0x400020 (s.m.dtime / 2 ^ 32)) := by
  rw [readBar0_reg s (by decide) (by decide) regAt_dtimeLo]
  rw [regVal_single s _ _ _ _ _ rfl]
  rfl

/-- The read of the high half gives what was latched. -/
theorem readBar0_dtimeHi (s : State) : s.readBar0 0x400024 = (s.m.rd TBS_DTIME_SH, s.m) := by
  rw [readBar0_reg s (by decide) (by decide) regAt_dtimeHi]
  rw [regVal_single s _ _ _ _ _ rfl]
  exact Prod.ext (Nat.mod_eq_of_lt (Mach.rd_lt s.m TBS_DTIME_SH [])) rfl

theorem rd_setShadow_dtime (m : Mach) (v : Nat) : (m.setShadow 0x400020 v).rd TBS_DTIME_SH = v % 2 ^ 32 := by
  show tget 0 (tput 0 m.regs (0x400024 * 32) (v % 2 ^ 32)) (0x400024 * 32) % 2 ^ 32 = _
  rw [tget_tput, if_pos rfl, Nat.mod_mod]

theorem dtime_lt (m : Mach) : m.dtime < 2 ^ 64 := Nat.mod_lt _ (Nat.two_pow_pos _)

/-! ### Writes -/

theorem mmioWrite_unanswered (s : State) (sp : Space) (off v be : Nat) (h : s.m.answers sp = false) :
    s.mmioWrite sp off v be = s := by
  unfold State.mmioWrite
  simp [h]

theorem mmioWrite_pf1Bar0 (s : State) (off v be : Nat) : s.mmioWrite .pf1Bar0 off v be = s := ite_self s

theorem mmioWrite_bar0 (s : State) (off v be : Nat) (hu : s.m.hostUp = true) :
    s.mmioWrite .pf0Bar0 off v be = if be = 15 then s.writeBar0 (off / 4 * 4) v else { s with m := s.m.accErr } :=
  if_neg (by simp [Mach.answers, hu])

/-- A write of a place with a row of its own acts as that row does, answered or not. -/
theorem mmioWrite_row (s : State) (off v : Nat) (f : Mach → Mach)
    (hf : s.writeBar0 (off / 4 * 4) v = { s with m := f s.m }) :
    s.mmioWrite .pf0Bar0 off v 15 = s.upd fun m => if m.hostUp then f m else m := by
  unfold State.upd
  cases hu : s.m.hostUp
  · rw [mmioWrite_unanswered s .pf0Bar0 _ _ _ hu]
    simp [hu]
  · rw [mmioWrite_bar0 s _ _ _ hu, if_pos rfl, hf]
    simp only [hu, if_true]

/-- The doorbell of a queue, by BAR2. -/
theorem mmioWrite_doorbell (s : State) (q v be : Nat) (hq : q < 512) (hb : be % 4 = 3) :
    s.mmioWrite .pf0Bar2 (64 * q) v be = s.upd fun m => if m.hostUp then m.doorbell q (v % 65536) else m := by
  have ha : 64 * q / 4 * 4 = 64 * q := by omega
  unfold State.upd
  cases hu : s.m.hostUp
  · rw [mmioWrite_unanswered s .pf0Bar2 _ _ _ hu]
    simp [hu]
  · unfold State.mmioWrite
    rw [ha]
    dsimp only
    rw [if_neg (by simp [Mach.answers, hu]), if_pos (by omega), Nat.mul_div_cancel_left q (by decide)]
    simp only [hu, if_true]

/-! ### Sealed registers (R385, R386) -/

theorem doRwhWrite_eq (s : State) (addr val : Nat) {r : Reg} {ix : List Nat} (hu : s.m.hostUp = true)
    (hr : regAt (addr / 4 * 4) = some (r, ix)) (hw : (r.flds.any fun F => F.acc == .rwh) = true) :
    doRwhWrite addr val s = { s with m := s.rwhWrite (addr / 4 * 4) val } := by
  unfold doRwhWrite
  simp [hu, hr, hw]

theorem rwhWrite_taken (s : State) (a v : Nat) (ho : s.isOpen = true) (hd : s.m.dev = .full) (hb : rwhBad a v = false)
    (hv : rwhVoid a v = false) : s.rwhWrite a v = (s.m.at_ (s.m.stitch + 1) (.rwh a v)).setDirty (rgnOf a) true := by
  unfold State.rwhWrite
  simp [ho, hd, hb, hv]

theorem rwhWrite_refused (s : State) (a v : Nat) (h : s.isOpen = false ∨ s.m.dev ≠ .full) :
    s.rwhWrite a v = s.m.refuseWrite s.hoopSeal.st a (rgnOf a) := by
  unfold State.rwhWrite
  exact if_pos (by simpa using h)

/-- A refused write leaves the changes to come, the tiles, the time base and the marks of its region. -/
theorem rwhWrite_refused_leaves (s : State) (a v : Nat) (h : s.isOpen = false ∨ s.m.dev ≠ .full) :
    (s.rwhWrite a v).hif.changes = s.m.hif.changes ∧ (s.rwhWrite a v).smp = s.m.smp ∧ (s.rwhWrite a v).tb = s.m.tb ∧
      (s.rwhWrite a v).rd HOOP_STAT_DIRTY = s.m.rd HOOP_STAT_DIRTY := by
  rw [rwhWrite_refused s a v h]
  obtain ⟨_, q⟩ := quiet_refuseWrite s.m s.hoopSeal.st a (rgnOf a)
  exact ⟨by rw [q.hif], q.smp, q.tb, q.rd HOOP_STAT_DIRTY [] (by decide) (by decide)⟩

/-! ### The table window (R50) -/

theorem tabStep_auto (m : Mach) (ha : m.on TIL_TAB_ADDR_AUTOINC = true) :
    m.tabStep = m.wr TIL_TAB_ADDR_INDEX [] (m.rd TIL_TAB_ADDR_INDEX + 1) := if_pos ha

/-- The entry that a write of TIL_TAB_DATA2 completes, with DATA0 and DATA1 as last written. -/
def Mach.stagedEntry (m : Mach) (v : Nat) : Coef :=
  ⟨sext 16 (bits m.smp.stage0 0 16), sext 16 (bits m.smp.stage0 16 16), sext 16 (bits m.smp.stage1 0 16),
   sext 16 (bits m.smp.stage1 16 16), sext 16 (bits v 0 16)⟩

/-- The device with that entry in the staging copy. -/
def Mach.staged (m : Mach) (v : Nat) : Mach :=
  { m with smp := { m.smp with staging := tput {} m.smp.staging (m.rd TIL_TAB_ADDR_INDEX) (m.stagedEntry v) } }

theorem tabWrite_stage (m : Mach) (v : Nat) (hs : m.rd TIL_TAB_ADDR_SRC = 1) : m.tabWrite 2 v = (m.staged v).tabStep := by
  unfold Mach.tabWrite tabSrc
  have stage : ¬m.rd TIL_TAB_ADDR_SRC ≠ 1 := fun hne => hne hs
  rw [if_neg stage]
  rfl

/-- With SRC 1 and AUTOINC the entry is stored and the index steps on. -/
theorem tabWrite_stage_auto (m : Mach) (v : Nat) (hs : m.rd TIL_TAB_ADDR_SRC = 1) (ha : m.on TIL_TAB_ADDR_AUTOINC = true) :
    (m.tabWrite 2 v).rd TIL_TAB_ADDR_INDEX = (m.rd TIL_TAB_ADDR_INDEX + 1) % 2 ^ TIL_TAB_ADDR_INDEX.width ∧
      tget {} (m.tabWrite 2 v).smp.staging (m.rd TIL_TAB_ADDR_INDEX) = m.stagedEntry v := by
  rw [tabWrite_stage m v hs, tabStep_auto (m.staged v) ha]
  exact ⟨Mach.rd_wr_same _ _ _ _, (tget_tput ..).trans (if_pos rfl)⟩

/-! ### The admin queues (R500) -/

/-- The fields that the start of a queue writes. -/
def qStartFlds (q lg irq nosnoop base count time : Nat) : List (Fld × List Nat × Nat) :=
  [(HIF_Q_CFG_CREATED, [q], 1), (HIF_Q_CFG_LOG2SIZE, [q], lg), (HIF_Q_CFG_IRQ_EN, [q], irq),
   (HIF_Q_CFG_NOSNOOP_OK, [q], nosnoop), (HIF_Q_BASE, [q], base), (HIF_Q_PTR_DEV_PTR, [q], 0),
   (HIF_Q_PTR_HOST_PTR, [q], 0), (HIF_Q_STAT_STALLED, [q], 0), (HIF_Q_STAT_BUS_ERR, [q], 0),
   (HIF_Q_STAT_SIZE_MISMATCH, [q], 0), (HIF_Q_STAT_FULL, [q], 0), (HIF_Q_STAT_PHASE, [q], 1),
   (HIF_Q_STAT_FAULT, [q], 0), (HIF_Q_COAL_COAL_COUNT, [q], count), (HIF_Q_COAL_COAL_TIME, [q], time)]

theorem qStart_regs (m : Mach) (q lg irq nosnoop base count time : Nat) :
    (m.qStart q lg irq nosnoop base count time).regs = (m.wrs (qStartFlds q lg irq nosnoop base count time)).regs := rfl

theorem qStartFlds_fit {q lg irq nosnoop base count time : Nat} (hl : lg < 2 ^ HIF_Q_CFG_LOG2SIZE.width)
    (hi : irq < 2 ^ HIF_Q_CFG_IRQ_EN.width) (hn : nosnoop < 2 ^ HIF_Q_CFG_NOSNOOP_OK.width)
    (hb : base < 2 ^ HIF_Q_BASE.width) (hc : count < 2 ^ HIF_Q_COAL_COAL_COUNT.width)
    (ht : time < 2 ^ HIF_Q_COAL_COAL_TIME.width) :
    ∀ p ∈ qStartFlds q lg irq nosnoop base count time, p.2.2 < 2 ^ p.1.width := by
  have h0 : ∀ w, 0 < 2 ^ w := Nat.two_pow_pos
  unfold qStartFlds
  simp only [List.forall_mem_cons]
  exact ⟨by decide, hl, hi, hn, hb, h0 _, h0 _, h0 _, h0 _, h0 _, h0 _, by decide, h0 _, hc, ht, nofun⟩

theorem queueStart_subset (q lg irq nosnoop base count time : Nat) :
    queueStart q lg irq nosnoop base count time ⊆ qStartFlds q lg irq nosnoop base count time :=
  ((((List.Sublist.refl _).cons _).cons _).append_left ((qStartFlds q lg irq nosnoop base count time).take 8)).subset

/-- The fields that a start of the admin queues writes, with the sizes and bases of both. -/
def adminFlds (sq cq sb cb : Nat) : List (Fld × List Nat × Nat) :=
  qStartFlds 0 sq 0 0 sb 1 0 ++ qStartFlds 1 cq 1 0 cb 1 0 ++ [(HIF_CTL_ADMIN_EN, [], 1)]

theorem adminEn_mem_adminFlds {sq cq sb cb : Nat} : (HIF_CTL_ADMIN_EN, [], 1) ∈ adminFlds sq cq sb cb :=
  List.mem_append_right _ (List.mem_singleton_self _)

theorem queueStarts_subset_adminFlds {sq cq sb cb : Nat} :
    queueStart 0 sq 0 0 sb 1 0 ++ queueStart 1 cq 1 0 cb 1 0 ⊆ adminFlds sq cq sb cb :=
  List.append_subset.mpr
    ⟨fun _ h => List.mem_append_left _ (List.mem_append_left _ (queueStart_subset _ _ _ _ _ _ _ h)),
      fun _ h => List.mem_append_left _ (List.mem_append_right _ (queueStart_subset _ _ _ _ _ _ _ h))⟩

theorem adminFlds_keys (sq cq sb cb : Nat) : ((adminFlds sq cq sb cb).map fun p => p.1.key p.2.1).Nodup := by
  show (((adminFlds 0 0 0 0).map fun p => p.1.key p.2.1)).Nodup
  decide

theorem adminFlds_fit {sq cq sb cb : Nat} (hs : sq ≤ 12) (hc : cq ≤ 12) (hsb : sb < 2 ^ 64) (hcb : cb < 2 ^ 64) :
    ∀ p ∈ adminFlds sq cq sb cb, p.2.2 < 2 ^ p.1.width := by
  have hq : ∀ q lg irq base, lg ≤ 12 → irq ≤ 1 → base < 2 ^ 64 →
      ∀ p ∈ qStartFlds q lg irq 0 base 1 0, p.2.2 < 2 ^ p.1.width := fun q lg irq base hl hi hb =>
    qStartFlds_fit (Nat.lt_of_le_of_lt hl (by decide)) (Nat.lt_of_le_of_lt hi (by decide)) (by decide) hb (by decide) (by decide)
  intro p hp
  rcases List.mem_append.mp hp with hp | hp
  · exact (List.mem_append.mp hp).elim (hq 0 sq 0 sb hs (by decide) hsb p) (hq 1 cq 1 cb hc (by decide) hcb p)
  · rw [List.mem_singleton.mp hp]
    decide

theorem wr_regs_congr {m n : Mach} (h : m.regs = n.regs) (F : Fld) (ix : List Nat) (v : Nat) :
    (m.wr F ix v).regs = (n.wr F ix v).regs := congrArg (tput (F.rst ix) · (F.key ix) (v % 2 ^ F.width)) h

/-- What fields a list of writes leaves depends on the fields before alone. -/
theorem wrs_regs_congr {m n : Mach} (h : m.regs = n.regs) (l : List (Fld × List Nat × Nat)) :
    (m.wrs l).regs = (n.wrs l).regs := by
  induction l generalizing m n with
  | nil => exact h
  | cons p l ih => exact ih (wr_regs_congr h _ _ _)

theorem wrs_append (m : Mach) (l l' : List (Fld × List Nat × Nat)) : m.wrs (l ++ l') = (m.wrs l).wrs l' :=
  List.foldl_append

/-- Fields read alike where the register files are equal. -/
theorem Holds.of_regs {t u : Mach} {l : List (Fld × List Nat × Nat)} (h : Holds u l) (he : t.regs = u.regs) : Holds t l :=
  fun p hp => (Mach.rd_congr (by rw [he])).trans (h p hp)

theorem Holds.subset {t : Mach} {l l' : List (Fld × List Nat × Nat)} (h : Holds t l) (hs : l' ⊆ l) : Holds t l' :=
  fun p hp => h p (hs hp)

theorem Holds.rd {t : Mach} {l : List (Fld × List Nat × Nat)} {F : Fld} {ix : List Nat} {v : Nat} (h : Holds t l)
    (hm : (F, ix, v) ∈ l) : t.rd F ix = v := h (F, ix, v) hm

/-- The start of both admin queues, whose bases are latched. -/
def Mach.adminStart (m : Mach) (sq cq sb cb : Nat) : Mach :=
  let m := ((m.qStart 0 sq 0 0 sb 1 0).qStart 1 cq 1 0 cb 1 0).wr HIF_CTL_ADMIN_EN [] 1
  { m with hif := { m.hif with admSq := sb, admCq := cb } }

theorem adminStart_admSq (m : Mach) (sq cq sb cb : Nat) : (m.adminStart sq cq sb cb).hif.admSq = sb := rfl
theorem adminStart_admCq (m : Mach) (sq cq sb cb : Nat) : (m.adminStart sq cq sb cb).hif.admCq = cb := rfl

theorem adminStart_regs (m : Mach) (sq cq sb cb : Nat) :
    (m.adminStart sq cq sb cb).regs = (m.wrs (adminFlds sq cq sb cb)).regs := by
  unfold Mach.adminStart adminFlds
  rw [wrs_append, wrs_append]
  dsimp only
  have h0 := qStart_regs m 0 sq 0 0 sb 1 0
  have h1 := (qStart_regs (m.qStart 0 sq 0 0 sb 1 0) 1 cq 1 0 cb 1 0).trans (wrs_regs_congr h0 _)
  exact wr_regs_congr h1 HIF_CTL_ADMIN_EN [] 1

/-- Both queues stand at their start (Table 11.11) and ADMIN_EN is 1. -/
theorem adminStart_holds (m : Mach) {sq cq sb cb : Nat} (hs : sq ≤ 12) (hc : cq ≤ 12) (hsb : sb < 2 ^ 64) (hcb : cb < 2 ^ 64) :
    (m.adminStart sq cq sb cb).rd HIF_CTL_ADMIN_EN = 1 ∧
      Holds (m.adminStart sq cq sb cb) (queueStart 0 sq 0 0 sb 1 0 ++ queueStart 1 cq 1 0 cb 1 0) := by
  have hh : Holds (m.adminStart sq cq sb cb) (adminFlds sq cq sb cb) :=
    .of_regs (sets_wrs m _ (adminFlds_keys ..) (adminFlds_fit hs hc hsb hcb)).2 (adminStart_regs ..)
  exact ⟨hh.rd adminEn_mem_adminFlds, hh.subset queueStarts_subset_adminFlds⟩

/-- A base of the admin queues, from its halves: 64 bits, and a multiple of 4 096. -/
theorem adminBase_fits {lo hi : Nat} (hl : lo < 2 ^ 32) (hh : hi < 2 ^ 32) :
    (lo + hi <<< 32) / 4096 * 4096 < 2 ^ 64 ∧ (lo + hi <<< 32) / 4096 * 4096 % 4096 = 0 := by
  rw [Nat.shiftLeft_eq]
  omega

theorem adminEn_refused (m : Mach) (hn : m.on HIF_CTL_ADMIN_EN = false)
    (hs : m.rd HIF_ADM_SIZE_SQ_LOG2 = 0 ∨ 12 < m.rd HIF_ADM_SIZE_SQ_LOG2 ∨ m.rd HIF_ADM_SIZE_CQ_LOG2 = 0 ∨
      12 < m.rd HIF_ADM_SIZE_CQ_LOG2) : m.adminEn true = m.accErr := by
  unfold Mach.adminEn
  rw [if_neg (by decide), if_neg (by simp [hn])]
  exact if_pos hs

/-- ADMIN_EN going to 1 with valid sizes starts both admin queues at the bases it latches. -/
theorem adminEn_starts (m : Mach) (hn : m.on HIF_CTL_ADMIN_EN = false)
    (hs : ¬(m.rd HIF_ADM_SIZE_SQ_LOG2 = 0 ∨ 12 < m.rd HIF_ADM_SIZE_SQ_LOG2 ∨ m.rd HIF_ADM_SIZE_CQ_LOG2 = 0 ∨
      12 < m.rd HIF_ADM_SIZE_CQ_LOG2)) :
    ∃ t, m.adminEn true = t ∧ t.rd HIF_CTL_ADMIN_EN = 1 ∧
      Holds t (queueStart 0 (m.rd HIF_ADM_SIZE_SQ_LOG2) 0 0 t.hif.admSq 1 0 ++
        queueStart 1 (m.rd HIF_ADM_SIZE_CQ_LOG2) 1 0 t.hif.admCq 1 0) ∧
      t.hif.admSq % 4096 = 0 ∧ t.hif.admCq % 4096 = 0 := by
  have hlt : ∀ F : Fld, F.width = 32 → m.rd F < 2 ^ 32 := fun F hF => hF ▸ Mach.rd_lt m F []
  obtain ⟨hsb, hsb'⟩ := adminBase_fits (hlt HIF_ADM_SQ_LO_BASE rfl) (hlt HIF_ADM_SQ_HI_BASE rfl)
  obtain ⟨hcb, hcb'⟩ := adminBase_fits (hlt HIF_ADM_CQ_LO_BASE rfl) (hlt HIF_ADM_CQ_HI_BASE rfl)
  obtain ⟨hen, hq⟩ := adminStart_holds m (sq := m.rd HIF_ADM_SIZE_SQ_LOG2) (cq := m.rd HIF_ADM_SIZE_CQ_LOG2) (by omega)
    (by omega) hsb hcb
  refine ⟨m.adminStart _ _ _ _, ?_, hen, ?_⟩
  · unfold Mach.adminEn
    rw [if_neg (by decide), if_neg (by simp [hn])]
    exact if_neg hs
  · rw [adminStart_admSq, adminStart_admCq]
    exact ⟨hq, hsb', hcb'⟩

/-! ### The rows -/

/-- REGISTER_WRITE of a dword in part is ignored and counted. -/
theorem registerWrite_partial (off val : BitVec 32) (be : BitVec 4) (s : State) (hu : s.m.hostUp = true) (hb : be ≠ 15) :
    Becomes (.registerWrite .pf0Bar0 off val be) s (s.m.wr HIF_ACC_ERR_COUNT [] (s.m.oneMore HIF_ACC_ERR_COUNT [])) := by
  have hne : be.toNat ≠ 15 := fun h => hb (BitVec.eq_of_toNat_eq h)
  exact congrArg _ ((mmioWrite_bar0 s _ _ _ hu).trans (if_neg hne))

/-- REGISTER_WRITE to a space that does not answer, or to PF1, changes nothing. -/
theorem registerWrite_ignored (sp : Space) (off val : BitVec 32) (be : BitVec 4) (s : State)
    (h : s.m.answers sp = false ∨ sp = .pf1Bar0) : Becomes (.registerWrite sp off val be) s s.m := by
  rcases h with h | rfl
  · exact congrArg _ (mmioWrite_unanswered s sp _ _ _ h)
  · exact congrArg _ (mmioWrite_pf1Bar0 s _ _ _)

/-- REGISTER_WRITE of a doorbell is DOORBELL_WRITE. -/
theorem registerWrite_doorbell (q : Fin 512) (val : BitVec 32) (be : BitVec 4) (s : State) (hb : be.toNat % 4 = 3) :
    exec (.registerWrite .pf0Bar2 (.ofNat 32 (64 * q.val)) val be) s = exec (.doorbellWrite q val) s := by
  have ho : (BitVec.ofNat 32 (64 * q.val)).toNat = 64 * q.val := Nat.mod_eq_of_lt (by omega)
  show Host.Outcome.next (s.mmioWrite _ (BitVec.ofNat 32 (64 * q.val)).toNat _ _) = _
  rw [ho, mmioWrite_doorbell s _ _ _ q.isLt hb]
  rfl

theorem exec_adminEnWrite (val : BitVec 32) (s : State) (hu : s.m.hostUp = true) (hv : val.getLsbD 0 = true) :
    exec (.adminEnWrite val) s = .next { s with m := s.m.adminEn true } := by
  have hbit : bit val.toNat 0 = true := by
    simpa [bit, BitVec.getLsbD, Nat.testBit_zero] using hv
  show Host.Outcome.next (s.upd fun m => if m.hostUp then m.adminEn (bit val.toNat 0) else m) = _
  rw [hbit]
  exact congrArg (fun m => Host.Outcome.next { s with m := m }) (if_pos hu)

/-- ADMIN_EN_WRITE from 0 to 1: the admin queues start, unless a size is out of range (R500). -/
theorem adminEnWrite_starts (val : BitVec 32) (s : State) (hu : s.m.hostUp = true) (hv : val.getLsbD 0 = true)
    (hn : s.m.on HIF_CTL_ADMIN_EN = false) :
    let sq := s.m.rd HIF_ADM_SIZE_SQ_LOG2
    let cq := s.m.rd HIF_ADM_SIZE_CQ_LOG2
    if sq = 0 ∨ 12 < sq ∨ cq = 0 ∨ 12 < cq then
      Becomes (.adminEnWrite val) s (s.m.wr HIF_ACC_ERR_COUNT [] (s.m.oneMore HIF_ACC_ERR_COUNT []))
    else Gives (.adminEnWrite val) s fun t => t.rd HIF_CTL_ADMIN_EN = 1 ∧
      Holds t (queueStart 0 sq 0 0 t.hif.admSq 1 0 ++ queueStart 1 cq 1 0 t.hif.admCq 1 0) ∧
      t.hif.admSq % 4096 = 0 ∧ t.hif.admCq % 4096 = 0 := by
  have he := exec_adminEnWrite val s hu hv
  dsimp only
  split
  · next hs => rw [adminEn_refused s.m hn hs] at he; exact he
  · next hs =>
    obtain ⟨t, ha, hen, hq, hsq, hcq⟩ := adminEn_starts s.m hn hs
    rw [ha] at he
    exact ⟨_, he, keeps_m s t, hen, hq, hsq, hcq⟩

/-- RWH_WRITE in both of its outcomes. -/
theorem rwhWrite_outcomes (addr val : BitVec 32) (r : Reg) (ix : List Nat) (s : State) (hu : s.m.hostUp = true)
    (hr : regAt (addr.toNat / 4 * 4) = some (r, ix)) (hw : (r.flds.any fun F => F.acc == .rwh) = true) :
    let a := addr.toNat / 4 * 4
    (s.isOpen = true → s.m.dev = .full → rwhBad a val.toNat = false → rwhVoid a val.toNat = false →
      Becomes (.rwhWrite addr val) s ((s.m.at_ (s.m.stitch + 1) (.rwh a val.toNat)).setDirty (rgnOf a) true)) ∧
    (s.isOpen = false ∨ s.m.dev ≠ .full → Gives (.rwhWrite addr val) s fun t =>
      t.hif.changes = s.m.hif.changes ∧ t.smp = s.m.smp ∧ t.tb = s.m.tb ∧ t.rd HOOP_STAT_DIRTY = s.m.rd HOOP_STAT_DIRTY) := by
  have he : exec (.rwhWrite addr val) s = .next { s with m := s.rwhWrite (addr.toNat / 4 * 4) val.toNat } :=
    congrArg _ (doRwhWrite_eq s addr.toNat val.toNat hu hr hw)
  refine ⟨fun ho hd hb hv => ?_, fun h => ⟨_, he, keeps_m s _, rwhWrite_refused_leaves s _ _ h⟩⟩
  rw [rwhWrite_taken s _ _ ho hd hb hv] at he
  exact he

/-- READ_CLEAR of a channel's count of overranges. -/
theorem readClear_ovrCnt (n : Fin 64) (s : State) (hu : s.m.hostUp = true) :
    Becomes (.readClear .pf0Bar0 (.ofNat 32 (0x200008 + 64 * n.val))) s
      ((s.m.wr TIL_CH_OVR_CNT_OVR_BLOCKS [n.val] 0).emit
        (.reg (0x200008 + 64 * n.val) (s.m.rd TIL_CH_OVR_CNT_OVR_BLOCKS [n.val]))) := by
  have ho : (BitVec.ofNat 32 (0x200008 + 64 * n.val)).toNat = 0x200008 + 64 * n.val := Nat.mod_eq_of_lt (by omega)
  show Host.Outcome.next (s.mmioRead .pf0Bar0 (BitVec.ofNat 32 (0x200008 + 64 * n.val)).toNat) = _
  rw [ho, mmioRead_bar0 s _ hu (by omega), readBar0_ovrCnt s n.val n.isLt]

/-- SHADOW_LATCH_READ of DTIME, and the read of its other half. -/
theorem dtime_halves (s : State) (hu : s.m.hostUp = true) :
    ∃ t u, exec (.shadowLatchRead .pf0Bar0 0x400020) s = .next t ∧ s.keeps t ∧
      t.m.out = s.m.out ++ [.reg 0x400020 (s.m.dtime % 2 ^ 32)] ∧ exec (.readClear .pf0Bar0 0x400024) t = .next u ∧
      u.m.out = t.m.out ++ [.reg 0x400024 (s.m.dtime / 2 ^ 32)] := by
  have hlo : s.mmioRead .pf0Bar0 0x400020 = { s with m :=
      (s.m.setShadow 0x400020 (s.m.dtime / 2 ^ 32)).emit (.reg 0x400020 (s.m.dtime % 2 ^ 32)) } := by
    rw [mmioRead_bar0 s _ hu (by decide), readBar0_dtimeLo]
  have hhi : ∀ t : State, t.m.hostUp = true →
      t.mmioRead .pf0Bar0 0x400024 = { t with m := t.m.emit (.reg 0x400024 (t.m.rd TBS_DTIME_SH)) } := by
    intro t ht
    rw [mmioRead_bar0 t _ ht (by decide), readBar0_dtimeHi]
  refine ⟨_, _, congrArg Host.Outcome.next hlo, keeps_m s _, rfl, congrArg Host.Outcome.next (hhi _ hu), ?_⟩
  have hv : (s.m.setShadow 0x400020 (s.m.dtime / 2 ^ 32)).rd TBS_DTIME_SH = s.m.dtime / 2 ^ 32 := by
    have := dtime_lt s.m
    rw [rd_setShadow_dtime]
    omega
  exact congrArg (fun v => _ ++ [Out.reg 0x400024 v]) hv

/-- SMBUS_READ below the window of the management interface reads 0. -/
theorem smbusRead_below (off : BitVec 32) (s : State) (h : off.toNat < 0xA00000) :
    Becomes (.smbusRead off) s (s.m.emit (.smbus 0)) :=
  congrArg _ (if_neg (by omega))

/-- TAB_STAGE_WRITE with SRC 1 and AUTOINC. -/
theorem tabStageWrite_gives (val : BitVec 32) (s : State) (hu : s.m.hostUp = true) (hs : s.m.rd TIL_TAB_ADDR_SRC = 1)
    (ha : s.m.on TIL_TAB_ADDR_AUTOINC = true) : Gives (.tabStageWrite val) s fun t =>
      t.rd TIL_TAB_ADDR_INDEX = (s.m.rd TIL_TAB_ADDR_INDEX + 1) % 2 ^ TIL_TAB_ADDR_INDEX.width ∧
      (tget {} t.smp.staging (s.m.rd TIL_TAB_ADDR_INDEX)).bp = sext 16 (bits val.toNat 0 16) := by
  obtain ⟨hi, hc⟩ := tabWrite_stage_auto s.m val.toNat hs ha
  refine ⟨{ s with m := s.m.tabWrite 2 val.toNat }, ?_, keeps_m s _, hi, ?_⟩
  · show Host.Outcome.next { s with m := if s.m.hostUp then s.m.tabWrite 2 val.toNat else s.m } = _
    rw [if_pos hu]
  · rw [hc]
    rfl

/-- Settles O57: one lemma for each row and each place, put together. -/
theorem registerAccesses : Obligations.RegisterAccesses :=
  ⟨registerWrite_partial, registerWrite_ignored,
    fun val s => ⟨congrArg _ (mmioWrite_row s 0xC _ (fun m => m.adminEn (bit val.toNat 0)) rfl),
      congrArg _ (mmioWrite_row s 0x204014 _ (fun m => m.tabWrite 2 val.toNat) rfl)⟩,
    registerWrite_doorbell, adminEnWrite_starts, rwhWrite_outcomes, readClear_ovrCnt, dtime_halves, smbusRead_below,
    tabStageWrite_gives⟩

end Sys2Proof.Machine
end

section
/-! The LQ6420-GF (R2): it is never SEALED, and what a request to seal it leaves behind. -/
namespace Sys2Proof.Machine
open Sys2Proof

/-- R2, first part of O60: no command seals an LQ6420-GF, nor makes another variant of it. -/
theorem exec_gf_never_sealed (c : Instr) (s t : State) (hg : s.hoopSeal.gf = true) (hn : s.hoopSeal.st ≠ .sealed)
    (he : exec c s = .next t) : t.hoopSeal.gf = true ∧ t.hoopSeal.st ≠ .sealed := by
  have legal_iff : ∀ v : Seal, v.gf = true → (v.legal = true ↔ v.st ≠ .sealed) := fun v hv => by simp [Seal.legal, hv]
  obtain ⟨u, hu, hk⟩ := exec_keepsSafe c s
  rw [he] at hu
  cases hu
  have ht : t.hoopSeal.gf = true := hk.gf.trans hg
  exact ⟨ht, (legal_iff _ ht).mp (hk.legal ((legal_iff _ hg).mpr hn))⟩

/-- HOOP_SEAL of an LQ6420-GF that passes the checks of R352: WRONG_STATE, and the refusal is recorded. -/
theorem exec_hoopSeal_gf (h : HostCmd) (s : State) (hg : s.hoopSeal.gf = true) (hc : commonRefusal ciHoopSeal h s.m = none) :
    exec (.hoopSeal h) s =
      .next { s with m := (s.m.complete h WRONG_STATE 0).refusedCmd s.hoopSeal.st 0xB1 } := by
  have ho : ownHoopSeal h s = some WRONG_STATE := by simp [ownHoopSeal, firstOf, hg]
  show Host.Outcome.next (doHoopSeal h s) = _
  unfold doHoopSeal
  rw [runCmd_refused (.inr ⟨hc, ho⟩), if_pos (by simp [hg, hc])]
  rfl

/-- A command refused by the Hoop is logged, counted and reported (R385). -/
theorem refusedCmd_spec (m : Mach) (sl : SealSt) (op : Nat) :
    ∃ h, Quiet auditKeys { m with hoop := h } (m.refusedCmd sl op) ∧
      (m.logUsed < 8192 → ∃ w0, h.log = m.hoop.log ++ [[w0, m.dtime % 2 ^ 64, op % 2 ^ 64, 1]] ∧ w0 % 16 = auRefused) := by
  obtain ⟨h, q, hl⟩ := auditAt_spec m m.dtime sl auRefused 0 (refusedRegion op) op 1
  exact ⟨h, q.then (((quiet_fault _ 51 0).then (quiet_raise _ 9 0x0004 0 [] [op, 1] (by decide))).mono (by simp)), hl⟩

/-- A completion that has left stays the first thing to leave, whatever is reported after it. -/
theorem Completes.before {m t u : Mach} {h : HostCmd} {st r : Nat} (hc : Completes m t h st r) (hu : m.hostUp = true)
    (ho : ∃ l, u.out = t.out ++ l) : Completes m u h st r := by
  unfold Completes at *
  rw [if_pos hu] at *
  obtain ⟨l, hl⟩ := hc
  obtain ⟨l', hl'⟩ := ho
  exact ⟨l ++ l', by rw [hl', hl]; simp⟩

/-- R2, second part of O60 while the host can be reached. -/
theorem hoopSeal_gf_recorded (h : HostCmd) (s : State) (hu : s.m.hostUp = true) (hg : s.hoopSeal.gf = true)
    (hq : submissionQ h.q = true) (hc : commonRefusal ciHoopSeal h s.m = none) :
    ∃ t, exec (.hoopSeal h) s = .next t ∧ s.keeps t ∧ Completes s.m t.m h WRONG_STATE 0 ∧
      (s.m.logUsed < 8192 → ∃ w0, t.m.hoop.log = s.m.hoop.log ++ [[w0, s.m.dtime % 2 ^ 64, 0xB1, 1]] ∧ w0 % 16 = auRefused) := by
  have qc := quiet_complete s.m h WRONG_STATE 0 hq
  obtain ⟨hoop, q, hl⟩ := refusedCmd_spec (s.m.complete h WRONG_STATE 0) s.hoopSeal.st 0xB1
  refine ⟨_, exec_hoopSeal_gf h s hg hc, keeps_m s _, (completes_complete s.m h WRONG_STATE 0).before hu q.out, fun hr => ?_⟩
  have hd : (s.m.complete h WRONG_STATE 0).dtime = s.m.dtime := by unfold Mach.dtime; rw [qc.tb]
  have hlen : (s.m.complete h WRONG_STATE 0).logUsed = s.m.logUsed := by unfold Mach.logUsed; rw [qc.hoop]
  rw [hlen, hd, qc.hoop] at hl
  rw [q.hoop]
  exact hl hr

/-! ### Where the host cannot be reached -/

/-- An LQ6420-GF in full service with PF0 in D3hot, a full audit log, and vector 4 of PF1 unmasked. -/
def gfLogFull : State where
  pending := []
  hoopSeal := ⟨true, .opened, 0, false, 0⟩
  dram := ⟨[], []⟩
  m := { regs := [(HIF_DEV_STAGE.key [], 7)]
         hif := { linkUp := true, d3hot := true, msixTab1 := [(76, 0)] }
         hoop := { log := List.replicate 8192 [] } }

theorem Quiet.mem_out {ks : List Nat} {m t : Mach} (q : Quiet ks m t) {o : Out} (ho : o ∈ m.out) : o ∈ t.out := by
  obtain ⟨l, hl⟩ := q.out
  exact hl ▸ List.mem_append_left l ho

/-- A full log keeps no entry of a refusal: it counts and reports the loss (R391). -/
theorem audit_refused_full (m : Mach) (sl : SealSt) (source code a b : Nat) (hf : 8192 ≤ m.logUsed) :
    m.audit sl auRefused source code a b =
      ((m.inc HOOP_LOG_USED_LOST []).raise 9 0x0009 0 [] [(m.inc HOOP_LOG_USED_LOST []).rd HOOP_LOG_USED_LOST]).msix1 4 := by
  unfold Mach.audit Mach.auditAt
  have no_change : ¬(auRefused = auChange ∨ auRefused = auState) := by decide
  simp only [no_change, if_false]
  exact if_pos hf

/-- A report masks no vector of PF1, nor unmasks one. -/
theorem Quiet.msixMasked1 {ks : List Nat} {m t : Mach} (q : Quiet ks m t) (v : Nat) : t.msixMasked1 v = m.msixMasked1 v := by
  unfold Mach.msixMasked1
  rw [q.hif]

theorem msix1_unmasked_sends {m : Mach} {v : Nat} (hv : m.msixMasked1 v = false) : .msix 1 v ∈ (m.msix1 v).out := by
  unfold Mach.msix1
  rw [if_neg (by simp [hv])]
  exact List.mem_append_right _ (List.mem_singleton_self _)

/-- The loss of an entry sends vector 4 of PF1, unless it is masked (R397). -/
theorem audit_refused_full_sends (m : Mach) (sl : SealSt) (source code a b : Nat) (hf : 8192 ≤ m.logUsed)
    (hv : m.msixMasked1 4 = false) : .msix 1 4 ∈ (m.audit sl auRefused source code a b).out := by
  rw [audit_refused_full m sl source code a b hf]
  exact msix1_unmasked_sends (((quiet_raise (m.inc HOOP_LOG_USED_LOST []) _ _ _ _ _ (by decide)).msixMasked1 4).trans hv)

/-- So the refusal of a command by the Hoop sends it too. -/
theorem refusedCmd_full_sends (m : Mach) (sl : SealSt) (op : Nat) (hf : 8192 ≤ m.logUsed)
    (hv : m.msixMasked1 4 = false) : .msix 1 4 ∈ (m.refusedCmd sl op).out :=
  ((quiet_fault _ 51 0).then (quiet_raise _ 9 0x0004 0 [] [op, 1] (by decide))).mem_out
    (audit_refused_full_sends m sl 0 (refusedRegion op) op 1 hf hv)

/-- Refutes O60: with PF0 in D3hot the completion of the refused request is held, and nothing is to leave the package; but
the audit log is full, and the loss of the entry of the refusal sends vector 4 of PF1.  What the statement says of commands
that lead into SEALED is `exec_gf_never_sealed`, and of a host that can be reached `hoopSeal_gf_recorded`. -/
theorem not_gfIsNeverSealed : ¬ Obligations.GfIsNeverSealed := by
  rintro ⟨-, hr⟩
  obtain ⟨t, he, -, hc, -⟩ := hr {} gfLogFull rfl (by decide) (by decide)
  rw [exec_hoopSeal_gf {} gfLogFull rfl (by decide)] at he
  cases he
  have silent : ((gfLogFull.m.complete {} WRONG_STATE 0).refusedCmd .opened 0xB1).out = [] := by
    unfold Completes at hc
    rw [if_neg (by decide)] at hc
    exact hc.2
  have q := quiet_complete gfLogFull.m {} WRONG_STATE 0 (by decide)
  have full : 8192 ≤ (gfLogFull.m.complete {} WRONG_STATE 0).logUsed := by
    unfold Mach.logUsed
    rw [q.hoop]
    exact Nat.le_of_eq List.length_replicate.symm
  have sent := refusedCmd_full_sends _ .opened 0xB1 full ((q.msixMasked1 4).trans (by decide))
  rw [silent] at sent
  exact List.not_mem_nil sent

end Sys2Proof.Machine
end

section
/-! A core cycle (R22, R75, R90, R448): what it leaves of the time base while lines, samples and credit are worked on, and the
order of packets on PCIe transmit. -/
namespace Sys2Proof.Machine
open Sys2Proof

/-! ### What leaves the clock alone -/

/-- The places of the time base's registers (TBS). -/
def tbsKey (k : Nat) : Bool := decide (0x400000 * 32 ≤ k) && decide (k < 0x500000 * 32)

theorem tbsKey_eq_false {k : Nat} : tbsKey k = false ↔ k < 0x400000 * 32 ∨ 0x500000 * 32 ≤ k := by
  simp only [tbsKey, Bool.and_eq_false_iff, decide_eq_false_iff_not, Nat.not_le, Nat.not_lt]

/-- From `m` to `t` the time base, its registers and PCIe transmit are as they were. -/
structure KeepsClock (m t : Mach) : Prop where
  tb : t.tb = m.tb
  tx : t.tx = m.tx
  regs : ∀ k, tbsKey k = true → tfind t.regs k = tfind m.regs k

theorem KeepsClock.refl (m : Mach) : KeepsClock m m := ⟨rfl, rfl, fun _ _ => rfl⟩

theorem KeepsClock.trans {a b c : Mach} (h : KeepsClock a b) (g : KeepsClock b c) : KeepsClock a c :=
  ⟨g.tb.trans h.tb, g.tx.trans h.tx, fun k hk => (g.regs k hk).trans (h.regs k hk)⟩

/-- A change outside the register file, the time base and PCIe transmit. -/
theorem KeepsClock.of_eq {m t : Mach} (hr : t.regs = m.regs) (hb : t.tb = m.tb) (hx : t.tx = m.tx) : KeepsClock m t :=
  ⟨hb, hx, fun _ _ => by rw [hr]⟩

theorem KeepsClock.ite {m a b : Mach} {p : Prop} [Decidable p] (ha : KeepsClock m a) (hb : KeepsClock m b) :
    KeepsClock m (if p then a else b) := by split <;> assumption

/-- A fold over states that hold a machine, each step of which keeps the clock. -/
theorem KeepsClock.foldl {α σ : Type} (get : σ → Mach) {f : σ → α → σ} {l : List α}
    (hf : ∀ s, ∀ x ∈ l, KeepsClock (get s) (get (f s x))) (s : σ) : KeepsClock (get s) (get (l.foldl f s)) :=
  List.foldlRecOn l f (motive := fun t => KeepsClock (get s) (get t)) (.refl _) fun _ h x hx => h.trans (hf _ x hx)

theorem KeepsClock.fold {α : Type} {f : Mach → α → Mach} {l : List α} (hf : ∀ m, ∀ x ∈ l, KeepsClock m (f m x))
    (m : Mach) : KeepsClock m (l.foldl f m) := KeepsClock.foldl id hf m

theorem KeepsClock.each {α : Type} {f : Mach → α → Mach} {l : List α} (hf : ∀ m, ∀ x ∈ l, KeepsClock m (f m x))
    (m : Mach) : KeepsClock m (each l f m) := KeepsClock.fold hf m

/-- A report leaves the clock alone. -/
theorem Quiet.keepsClock {m t : Mach} (h : Quiet [] m t) : KeepsClock m t where
  tb := h.tb
  tx := h.tx
  regs k hk := by
    refine h.regs k ?_ List.not_mem_nil
    simp only [tbsKey, Bool.and_eq_true, decide_eq_true_eq] at hk
    simp only [reportKey, Bool.or_eq_false_iff, Bool.and_eq_false_iff, decide_eq_false_iff_not]
    omega

/-! ### Registers outside the time base -/

/-- The registers of a block above the time base. -/
theorem tbsKey_above (F : Fld) (ix : List Nat) (h : 0x500000 ≤ F.base) : tbsKey (F.key ix) = false := by
  rw [tbsKey_eq_false, Fld.key]
  omega

/-- The registers of 64-byte places below the time base: those of the queues, and one more, and of the channels. -/
theorem tbsKey_below (F : Fld) (d n : Nat) (hd : F.dims = [(64, d)]) (hb : F.base ≤ 0x300000) (hl : F.lsb < 32)
    (hn : n ≤ 512) : tbsKey (F.key [n]) = false := by
  rw [tbsKey_eq_false, Fld.key, hd, dimOffset, dimOffset]
  · omega
  · nofun

theorem keepsClock_wr (m : Mach) (F : Fld) (ix : List Nat) (v : Nat) (h : tbsKey (F.key ix) = false) :
    KeepsClock m (m.wr F ix v) := by
  refine ⟨rfl, rfl, fun k hk => Mach.wr_regs_ne _ _ _ _ _ ?_⟩
  rintro rfl
  rw [h] at hk
  cases hk

theorem keepsClock_wr_above (m : Mach) (F : Fld) (ix : List Nat) (v : Nat) (h : 0x500000 ≤ F.base) :
    KeepsClock m (m.wr F ix v) := keepsClock_wr m F ix v (tbsKey_above F ix h)

theorem keepsClock_inc_above (m : Mach) (F : Fld) (ix : List Nat) (h : 0x500000 ≤ F.base) : KeepsClock m (m.inc F ix) :=
  keepsClock_wr_above m F ix _ h

theorem keepsClock_wrs_above (m : Mach) (l : List (Fld × List Nat × Nat)) (h : ∀ p ∈ l, 0x500000 ≤ p.1.base) :
    KeepsClock m (m.wrs l) :=
  KeepsClock.fold (fun m p hp => keepsClock_wr_above m p.1 p.2.1 p.2.2 (h p hp)) m

/-! ### Entries -/

theorem keepsClock_emit (m : Mach) (o : Out) : KeepsClock m (m.emit o) := (quiet_emit m o).keepsClock

theorem keepsClock_raiseAt (m : Mach) (t cls code src : Nat) (w sh : List Nat) (ep : Nat) (h : cls < 13) :
    KeepsClock m (m.raiseAt t cls code src w sh ep) := (quiet_evPut m _ h).keepsClock

theorem keepsClock_raise (m : Mach) (cls code src : Nat) (w sh : List Nat) (h : cls < 13) :
    KeepsClock m (m.raise cls code src w sh) := (quiet_raise m cls code src w sh h).keepsClock

/-- A register of a queue or of the place past the last one. -/
theorem keepsClock_wr_queue (m : Mach) (F : Fld) (q v : Nat) (hq : q ≤ 512) (hd : F.dims = [(64, 512)]) (hb : F.base ≤ 0x101C)
    (hl : F.lsb < 32) : KeepsClock m (m.wr F [q] v) :=
  keepsClock_wr m F [q] v (tbsKey_below F 512 q hd (by omega) hl hq)

theorem keepsClock_produce (m : Mach) (q : Nat) (ws : Nat → List Nat) (now : Bool) (hq : q ≤ 512) :
    KeepsClock m (m.produce q ws now) := by
  have wr : ∀ (m : Mach) (F : Fld) (v : Nat), F.dims = [(64, 512)] → F.base ≤ 0x101C → F.lsb < 32 →
      KeepsClock m (m.wr F [q] v) := fun m F v => keepsClock_wr_queue m F q v hq
  unfold Mach.produce
  refine .trans ?_ (quiet_coalesce _ q now).keepsClock
  refine .trans ?_ (wr _ HIF_Q_STAT_FULL _ rfl (by decide) (by decide))
  refine .trans ?_ (wr _ HIF_Q_CNT_ENTRIES _ rfl (by decide) (by decide))
  have ptr := (keepsClock_emit m (.entry q (m.qDev q) (ws (m.rd HIF_Q_STAT_PHASE [q])))).trans
    (wr _ HIF_Q_PTR_DEV_PTR ((m.qDev q + 1) % m.qSize q) rfl (by decide) (by decide))
  exact .ite (ptr.trans (wr _ HIF_Q_STAT_PHASE _ rfl (by decide) (by decide))) ptr

theorem keepsClock_complete (m : Mach) (h : HostCmd) (st r : Nat) : KeepsClock m (m.complete h st r) :=
  .ite (keepsClock_produce m _ _ _ h.q.isLt) (.of_eq rfl rfl rfl)

theorem keepsClock_finish (m : Mach) (op tgt st r : Nat) : KeepsClock m (m.finish op tgt st r) :=
  .trans (b := m.unwait op tgt) (.of_eq rfl rfl rfl)
    (KeepsClock.fold (fun m w _ => keepsClock_complete m w.h st r) _)

/-! ### Lines -/

theorem keepsClock_drive (m : Mach) (l : Nat) (active : Bool) (c : Nat) : KeepsClock m (m.drive l active c) :=
  (keepsClock_wr_above m TRG_IO_PIN_STATE [l] _ (by decide)).trans (keepsClock_emit _ _)

theorem keepsClock_startPulses (m : Mach) (sel : Pulse → Bool) : KeepsClock m (m.startPulses sel) := by
  refine KeepsClock.each (fun m p _ => ?_) m
  refine .trans (b := if m.lineHigh p.line then m else each (m.signalLines p.line) (fun m l => m.drive l true p.from_) m)
    (.ite (.refl m) (KeepsClock.each (fun m l _ => keepsClock_drive m l true p.from_) m)) (.of_eq rfl rfl rfl)

theorem keepsClock_endPulses (m : Mach) (sel : Pulse → Bool) (at_ : Pulse → Nat) : KeepsClock m (m.endPulses sel at_) := by
  refine KeepsClock.each (fun m p _ => ?_) m
  exact .trans (b := { m with trg := { m.trg with pulses := m.trg.pulses.filter fun x => x != p } }) (.of_eq rfl rfl rfl)
    (.ite (.refl _) (KeepsClock.each (fun m l _ => keepsClock_drive m l false (at_ p)) _))

/-! ### Samples of a channel -/

theorem keepsClock_setChan (m : Mach) (n : Nat) (c : Chan) : KeepsClock m (m.setChan n c) := .of_eq rfl rfl rfl

theorem keepsClock_modChan (m : Mach) (n : Nat) (f : Chan → Chan) : KeepsClock m (m.modChan n f) := .of_eq rfl rfl rfl

theorem keepsClock_free (m : Mach) (w : Nat) : KeepsClock m (m.free w).2 := .of_eq rfl rfl rfl

theorem keepsClock_firStep (m : Mach) (n st : Nat) (h : List Int) (x : Int × Bool) : KeepsClock m (m.firStep n st h x).1 := by
  unfold Mach.firStep
  dsimp only
  split <;> exact .of_eq rfl rfl rfl

theorem keepsClock_halve (m : Mach) (n j : Nat) (x : Nat × Int × Bool) : KeepsClock m (m.halve n j x).1 :=
  keepsClock_firStep m n j halfTaps x.2

theorem keepsClock_limit (m : Mach) (n : Nat) (x : Nat × Int × Bool) : KeepsClock m (m.limit n x).1 := by
  unfold Mach.limit
  dsimp only
  split
  · exact .refl m
  · exact keepsClock_firStep m n 0 _ x.2

theorem keepsClock_shape (m : Mach) (n : Nat) (x : Nat × Int × Bool) : KeepsClock m (m.shape n x).1 := by
  refine (keepsClock_limit m n x).trans (KeepsClock.foldl Prod.fst (fun st j _ => ?_) _)
  split
  · exact keepsClock_halve _ _ _ _
  · exact .refl _

/-- A block of one of the 64 channels is marked. -/
theorem keepsClock_markBlk (m : Mach) (n b flags : Nat) (hn : n < 64) : KeepsClock m (m.markBlk n b flags) := by
  have count : ∀ m : Mach, KeepsClock m (m.inc TIL_CH_OVR_CNT_OVR_BLOCKS [n]) := fun m =>
    keepsClock_wr m _ _ _ (tbsKey_below _ 64 n rfl (by decide) (by decide) (by omega))
  unfold Mach.markBlk
  dsimp only
  split
  · exact .refl m
  · have marked := keepsClock_setChan m n
      { m.chan n with blk := tput 0 (m.chan n).blk b (tget 0 (m.chan n).blk b ||| flags) }
    split
    · have counted := (marked.trans (count _)).trans (keepsClock_modChan _ n fun c => { c with estOvr := c.estOvr + 1 })
      exact .ite (counted.trans (keepsClock_raiseAt _ _ 2 _ _ _ _ _ (by decide))) counted
    · exact marked

theorem keepsClock_stage3 (m : Mach) (n i : Nat) (v : Int) (ovr : Bool) (hn : n < 64) :
    KeepsClock m (m.stage3 n i v ovr).1 := by
  unfold Mach.stage3
  extract_lets c D late m₁
  have taken : KeepsClock m m₁ := .ite (.refl m) (keepsClock_modChan m n _)
  have shaped := taken.trans (keepsClock_shape m₁ n (i, v, ovr))
  split
  · next m₂ p y full he =>
    rw [he] at shaped
    split
    · exact shaped
    · dsimp only
      exact shaped.trans (.trans (.ite (keepsClock_markBlk m₂ n _ _ hn) (.refl m₂)) (keepsClock_modChan _ n _))
  · next m₂ he =>
    rw [he] at shaped
    exact shaped

theorem keepsClock_headFill (m : Mach) (n j : Nat) (hn : n < 64) : KeepsClock m (m.headFill n j).1 := by
  unfold Mach.headFill
  dsimp only
  split
  · exact .refl m
  · refine KeepsClock.foldl Prod.fst (fun st d _ => ?_) (m, [])
    exact (keepsClock_free st.1 16).trans (keepsClock_stage3 _ n _ _ _ hn)

theorem keepsClock_feed (m : Mach) (n : Nat) (raw : List Int) (hn : n < 64) : KeepsClock m (m.feed n raw).1 := by
  refine KeepsClock.foldl (σ := Mach × Nat × List (Nat × Int)) Prod.fst (fun st code _ => ?_) (m, _, [])
  obtain ⟨m, i, outs⟩ := st
  dsimp only
  split
  · next j v sat _ =>
    exact (keepsClock_setChan m n _).trans ((keepsClock_headFill _ n j hn).trans (keepsClock_stage3 _ n j v sat hn))
  · exact keepsClock_setChan m n _

/-! ### Trigger units of a channel -/

theorem keepsClock_quadSegment (m : Mach) (u i : Nat) : KeepsClock m (m.quadSegment u i) := by
  unfold Mach.quadSegment
  dsimp only
  split
  · split <;> exact .of_eq rfl rfl rfl
  · exact .refl m

theorem keepsClock_addCross (m : Mach) (u i : Nat) (lvl : Option Int) (cand : Bool) (st : Option Bool) :
    KeepsClock m (m.addCross u i lvl cand st) := by
  unfold Mach.addCross
  extract_lets trg m₁
  have added : KeepsClock m m₁ := .of_eq rfl rfl rfl
  exact .ite (added.trans ((keepsClock_inc_above m₁ TRG_UNIT_CNT_COUNT [u] (by decide)).trans
    (keepsClock_quadSegment _ u i))) added

theorem keepsClock_setUnit (m : Mach) (u : Nat) (v : TUnit) : KeepsClock m (m.setUnit u v) := .of_eq rfl rfl rfl

theorem keepsClock_unitStat (m : Mach) (u : Nat) (b : Bool) : KeepsClock m (m.wb TRG_UNIT_STAT_STATE [u] b) :=
  keepsClock_wr_above m _ _ _ (by decide)

theorem keepsClock_unitSample (m : Mach) (u i : Nat) (y : Int) : KeepsClock m (m.unitSample u i y) := by
  unfold Mach.unitSample
  extract_lets g v0 st m₁ m₂ m₃ m₄
  have started : KeepsClock m m₄ := by
    have stat : KeepsClock m m₃ := ((keepsClock_wr_above m TRG_UNIT_STAT_RUNNING [u] _ (by decide)).trans
      (keepsClock_unitStat m₁ u st)).trans (keepsClock_setUnit m₂ u _)
    exact .ite (.refl m) (.ite (stat.trans (keepsClock_addCross m₃ u i none false (some true))) stat)
  refine started.trans ?_
  split
  next hits v _ =>
  extract_lets r m₅ v₅ m₆
  have judged : KeepsClock m₄ m₅ := by
    refine KeepsClock.foldl (σ := Mach × TUnit × Option Int) Prod.fst (fun s x _ => ?_) (m₄, v, none)
    obtain ⟨m, v, lvl⟩ := s
    dsimp only
    split
    · exact .ite (.refl m) ((keepsClock_unitStat m u _).trans (keepsClock_addCross _ u i _ false _))
    · exact .refl m
  have crossed : KeepsClock m₅ m₆ := by
    unfold m₆
    split
    · exact keepsClock_addCross m₅ u i _ true none
    · exact .refl m₅
  refine judged.trans (crossed.trans ?_)
  split
  · exact .ite ((keepsClock_setUnit m₆ u _).trans (keepsClock_addCross _ u i none true none)) (keepsClock_setUnit m₆ u v₅)
  · exact keepsClock_setUnit m₆ u v₅

theorem keepsClock_finishCross (m : Mach) (x : Cross) (cut : Bool) : KeepsClock m (m.finishCross x cut) := by
  unfold Mach.finishCross
  extract_lets n ch y present win y1 k
  split
  next p lin _ =>
  extract_lets t c m₁
  have changed : KeepsClock m m₁ := by
    unfold m₁
    split
    · exact .of_eq rfl rfl rfl
    · exact .refl m
  refine .ite (changed.trans ?_) changed
  have counted : KeepsClock m₁ (if lin then m₁.inc TRG_UNIT_LIN_COUNT [x.u] else m₁) :=
    .ite (keepsClock_inc_above m₁ TRG_UNIT_LIN_COUNT _ (by decide)) (.refl m₁)
  exact counted.trans (.of_eq rfl rfl rfl)

theorem keepsClock_flushCross (m : Mach) (n : Nat) : KeepsClock m (m.flushCross n) := by
  unfold Mach.flushCross
  extract_lets next ready rest
  have cleared : KeepsClock m { m with trg := { m.trg with cross := rest } } := .of_eq rfl rfl rfl
  exact .ite (.refl m) (cleared.trans (KeepsClock.each (fun m x _ => keepsClock_finishCross m x false) _))

theorem keepsClock_unitsFeed (m : Mach) (n : Nat) (outs : List (Nat × Int)) : KeepsClock m (m.unitsFeed n outs) :=
  (KeepsClock.each (fun m u _ => KeepsClock.each (fun m p _ => keepsClock_unitSample m u p.1 p.2) m) m).trans
    (keepsClock_flushCross _ n)

/-! ### The log streams of a channel -/

theorem keepsClock_setLstr (m : Mach) (i : Nat) (v : LogStr) : KeepsClock m (m.setLstr i v) := .of_eq rfl rfl rfl

theorem keepsClock_modLstr (m : Mach) (i : Nat) (f : LogStr → LogStr) : KeepsClock m (m.modLstr i f) := .of_eq rfl rfl rfl

theorem keepsClock_setLring (m : Mach) (r : Nat) (v : LogRing) : KeepsClock m (m.setLring r v) := .of_eq rfl rfl rfl

theorem keepsClock_chanWords (m : Mach) (i : Nat) (v : LogStr) (x : Int) : KeepsClock m (m.chanWords i v x).2 := by
  unfold Mach.chanWords
  dsimp only
  split
  iterate 4 exact .refl m
  split
  · exact keepsClock_free m (if m.ls16 i then 16 else 24)
  · exact .refl m

theorem keepsClock_logSample (m : Mach) (i idx : Nat) (x : Int) : KeepsClock m (m.logSample i idx x) := by
  unfold Mach.logSample
  dsimp only
  refine .ite (.refl m) (.ite ?_ (keepsClock_setLstr m i _))
  exact (keepsClock_chanWords m i _ x).trans (keepsClock_setLstr _ i _)

theorem keepsClock_gapStart (m : Mach) (i b k : Nat) : KeepsClock m (m.gapStart i b k) := by
  unfold Mach.gapStart
  dsimp only
  exact (keepsClock_modLstr m i _).trans ((keepsClock_wrs_above _ _ (by simp [LOG_STR_STAT_STATE, LOG_STR_STAT_CAUSE])).trans
    (keepsClock_raise _ 3 _ _ _ _ (by decide)))

theorem keepsClock_logGood (m : Mach) (i b : Nat) (j : Int) : KeepsClock m (m.logGood i b j) :=
  .ite ((keepsClock_wr_above m LOG_STR_STAT_CAUSE [i] _ (by decide)).trans (keepsClock_modLstr _ i _)) (.refl m)

theorem keepsClock_spoolFill (m : Mach) (r : Nat) : KeepsClock m (m.spoolFill r) := by
  unfold Mach.spoolFill
  extract_lets n hi m₁ g m₂
  have filled : KeepsClock m m₁ := keepsClock_wr_above m LOG_RING_FILL_VALUE [r] n (by decide)
  have shown : KeepsClock m₁ m₂ := .ite (keepsClock_setLring m₁ r _)
    (.ite ((keepsClock_setLring m₁ r _).trans (keepsClock_raise _ 3 _ _ _ _ (by decide))) (.refl m₁))
  exact (filled.trans shown).trans (.ite (.refl m₂) (KeepsClock.each (fun m i _ => keepsClock_logGood m i gcSpool _) m₂))

theorem keepsClock_spoolPut (m : Mach) (i : Nat) (bytes : List (BitVec 8)) (first count lost : Nat) :
    KeepsClock m (m.spoolPut i bytes first count lost) := by
  unfold Mach.spoolPut
  dsimp only
  refine .trans (.trans (.trans (KeepsClock.each (fun m l _ => ?_) m) (keepsClock_setLring _ _ _)) (keepsClock_modLstr _ i _))
    (keepsClock_spoolFill _ _)
  exact .of_eq rfl rfl rfl

theorem keepsClock_closeBlk (m : Mach) (i : Nat) : KeepsClock m (m.closeBlk i) := by
  unfold Mach.closeBlk
  split
  · exact .refl m
  · next b _ =>
    dsimp only
    have taken := keepsClock_modLstr m i fun v => { v with blk := none }
    exact .ite (taken.trans ((quiet_fault _ 15 i).keepsClock.trans (keepsClock_gapStart _ i gcSpool b.first)))
      (taken.trans ((keepsClock_free _ _).trans (keepsClock_spoolPut _ i _ _ _ _)))

theorem keepsClock_logPush (m : Mach) (i : Nat) (o : LogOut) : KeepsClock m (m.logPush i o) := by
  unfold Mach.logPush
  refine .ite (.refl m) ?_
  extract_lets m₁ base lo hi late fl b m₂ m₃ cap
  have apart : KeepsClock m m₁ := by
    unfold m₁
    split
    · exact .ite (.refl m) (keepsClock_closeBlk m i)
    · exact .refl m
  refine apart.trans (.ite (.refl m₁) ?_)
  have put : KeepsClock m₁ m₃ := (keepsClock_modLstr m₁ i _).trans (keepsClock_wr_above m₂ LOG_STR_OUT [i] _ (by decide))
  exact .ite (put.trans (keepsClock_closeBlk m₃ i)) put

theorem keepsClock_logRelease (m : Mach) (i : Nat) (ok : LogOut → Bool) : KeepsClock m (m.logRelease i ok) := by
  unfold Mach.logRelease
  dsimp only
  exact .ite (.refl m) ((keepsClock_setLstr m i _).trans (KeepsClock.each (fun m o _ => keepsClock_logPush m i o) _))

theorem keepsClock_subCommit (m : Mach) (x : Nat) : KeepsClock m (m.subCommit x) :=
  keepsClock_wr_above m CAP_COMMIT_COMMIT [] _ (by decide)

theorem keepsClock_gapRecord (m : Mach) (i first t e lost cause endT endE : Nat) (fin : Bool) :
    KeepsClock m (m.gapRecord i first t e lost cause endT endE fin) := by
  unfold Mach.gapRecord
  exact ((keepsClock_spoolPut m i _ _ _ _).trans (keepsClock_inc_above _ LOG_STR_GAPS_GAPS [i] (by decide))).trans
    (keepsClock_wr_above _ LOG_STR_LOST [i] _ (by decide))

theorem keepsClock_logEnd (m : Mach) (i b : Nat) : KeepsClock m (m.logEnd i b) := by
  unfold Mach.logEnd
  extract_lets v0 m₁ m₂ v inGap kStop jEnd first kEnd lost part cause m₃
  refine .ite ?_ (.ite (.refl m) ?_)
  · exact ((keepsClock_subCommit m _).trans (keepsClock_wr_above _ LOG_STR_CFG_RUN [i] 0 (by decide))).trans
      (keepsClock_modLstr _ i _)
  have closed : KeepsClock m m₂ := (keepsClock_logRelease m i _).trans (keepsClock_closeBlk m₁ i)
  refine closed.trans ?_
  split
  next t e _ =>
  split
  next endT endE _ =>
  extract_lets m₄ m₅ sq m₆ m₇ m₈
  have gap : KeepsClock m₂ m₃ := .ite (.refl m₂) (keepsClock_raise m₂ 3 _ _ _ _ (by decide))
  have recd : KeepsClock m₃ m₄ := keepsClock_gapRecord m₃ i first t e lost cause endT endE true
  have told : KeepsClock m₄ m₅ := .ite (keepsClock_raise m₄ 3 _ _ _ _ (by decide)) (.refl m₄)
  have stopped : KeepsClock m₅ m₆ := keepsClock_wrs_above m₅ _
    (by simp [LOG_STR_STAT_STATE, LOG_STR_STAT_CAUSE, LOG_STR_CFG_RUN, LOG_STR_OUT])
  exact (((gap.trans recd).trans (told.trans stopped)).trans ((keepsClock_subCommit m₆ _).trans
    (keepsClock_setLstr m₇ i _))).trans (keepsClock_raise m₈ 3 _ _ _ _ (by decide))

theorem keepsClock_logFeed (m : Mach) (n : Nat) (outs : List (Nat × Int)) : KeepsClock m (m.logFeed n outs) := by
  unfold Mach.logFeed
  refine .ite ?_ (.refl m)
  extract_lets fin m₁ m₂
  have fed : KeepsClock m m₂ := (KeepsClock.each (fun m p _ => keepsClock_logSample m n p.1 p.2) m).trans
    (keepsClock_logRelease m₁ n _)
  refine fed.trans ?_
  cases fin with
  | some e => exact .ite ((keepsClock_logEnd m₂ n gcStop).trans (keepsClock_finish _ 0x53 n DONE _)) (.refl m₂)
  | none => exact .refl m₂

/-! ### A core cycle -/

theorem keepsClock_chanCycle (m : Mach) (raw : List (Fin 64 × List (BitVec 12))) (n : Nat) (hn : n < 64) :
    KeepsClock m (m.chanCycle raw n) :=
  (keepsClock_feed m n _ hn).trans ((keepsClock_unitsFeed _ n _).trans (keepsClock_logFeed _ n _))

theorem keepsClock_creditAll (m : Mach) : KeepsClock m m.creditAll := by
  refine KeepsClock.each (fun m t _ => ?_) m
  unfold Mach.creditCycle
  split
  · exact .of_eq rfl rfl rfl
  · exact .refl m

/-- The device after PPSOUT's time has run out (R90). -/
def Mach.ppsDone (m : Mach) : Mach := { m with tb := { m.tb with ppsLeft := none } }

theorem keepsClock_ppsLow (m : Mach) : KeepsClock m.ppsDone m.ppsLow := by
  unfold Mach.ppsLow
  split
  · exact (quiet_pin m.ppsDone .ppsout 0).keepsClock
  · next h =>
    rw [Option.not_isSome_iff_eq_none] at h
    exact .of_eq rfl (by show m.tb = { m.tb with ppsLeft := none }; rw [← h]) rfl

/-- PPSOUT's time as the lines of a cycle leave it. -/
def Mach.ppsCycle (m : Mach) : Mach := if m.tb.ppsLeft = some 0 then m.ppsDone else m

/-- Of the time base the lines' cycle changes PPSOUT's time alone. -/
theorem keepsClock_lineCycle (m : Mach) : KeepsClock m.ppsCycle m.lineCycle := by
  unfold Mach.lineCycle
  extract_lets c trg m₁ m₂
  have begun : KeepsClock m m₁ := .ite (.of_eq rfl rfl rfl) (keepsClock_startPulses m _)
  have pulsed : KeepsClock m m₂ := begun.trans (keepsClock_endPulses m₁ _ _)
  have done : KeepsClock m.ppsDone m₂.ppsDone :=
    ⟨congrArg (fun b : Tb => { b with ppsLeft := none }) pulsed.tb, pulsed.tx, pulsed.regs⟩
  unfold Mach.ppsCycle
  rw [pulsed.tb]
  by_cases h : m.tb.ppsLeft = some 0
  · simp only [h, beq_self_eq_true, if_true]
    exact done.trans (keepsClock_ppsLow m₂)
  · simp only [h, beq_iff_eq, if_false]
    exact pulsed

/-- What of the time base the lines' cycle leaves. -/
theorem ppsCycle_keeps (m : Mach) :
    m.ppsCycle.tb = { m.tb with ppsLeft := if m.tb.ppsLeft = some 0 then none else m.tb.ppsLeft } ∧
    m.ppsCycle.tx = m.tx ∧ m.ppsCycle.regs = m.regs := by
  unfold Mach.ppsCycle
  split <;> exact ⟨rfl, rfl, rfl⟩

/-- The fields of the time base that a cycle's step of DTIME depends on. -/
theorem dtStep_congr {m t : Mach} (hx : t.tb.xtal = m.tb.xtal) (hk : t.tb.oldKhz = m.tb.oldKhz)
    (hr : ∀ k, tbsKey k = true → tfind t.regs k = tfind m.regs k) : t.dtStep = m.dtStep := by
  have rd : ∀ F : Fld, tbsKey (F.key []) = true → t.rd F = m.rd F := fun F hF => Mach.rd_congr (hr _ hF)
  have acq : t.rd TBS_STATUS_ACQ_FALLBACK = m.rd TBS_STATUS_ACQ_FALLBACK := rd _ (by decide)
  have sys : t.rd TBS_STATUS_SYS_FALLBACK = m.rd TBS_STATUS_SYS_FALLBACK := rd _ (by decide)
  have khz : t.rd TBS_SLICE_FREQ_SLICE_KHZ = m.rd TBS_SLICE_FREQ_SLICE_KHZ := rd _ (by decide)
  unfold Mach.dtStep Mach.baseInc Mach.xtalStep Mach.fallback Mach.on
  rw [acq, sys, khz, hx, hk]

/-- What moving DTIME on does to the time base. -/
theorem advance_tb (m : Mach) :
    m.advance.tb.cyc = m.tb.cyc ∧ m.advance.tb.stitch = m.tb.stitch ∧
    m.advance.tb.dt = (m.tb.dt + m.dtStep) % 2 ^ 104 ∧ m.advance.tb.ppsLeft = m.tb.ppsLeft.map (· - m.dtStep) := by
  unfold Mach.advance
  dsimp only
  split <;> exact ⟨rfl, rfl, rfl, rfl⟩

theorem advance_tx (m : Mach) : m.advance.tx = m.tx := by
  unfold Mach.advance
  dsimp only
  split <;> rfl

/-- R448: the link takes what has come up, and one packet goes while the host can be reached. -/
theorem transmit_tx (m : Mach) :
    m.transmit.tx = if m.transmit.hostUp then (m.tx.take m.transmit.out).send else m.tx.take m.transmit.out := rfl

/-- A cycle of the running core before its limit: the samples and lines leave the clock alone, then DTIME moves on. -/
theorem coreCycle_running (raw : List (Fin 64 × List (BitVec 12))) (m : Mach) (hr : m.tb.running = true)
    (hc : m.tb.cyc < m.cycLimit) :
    ∃ v, KeepsClock m.ppsCycle v ∧
      m.coreCycle raw = ({ v with tb := { v.tb with stitch := m.tb.stitch, cyc := m.tb.cyc + 1 } } : Mach).advance.transmit := by
  refine ⟨(each (allCh.filter m.lineCycle.taking) (fun m n => m.chanCycle raw n) m.lineCycle).creditAll, ?_, ?_⟩
  · refine (keepsClock_lineCycle m).trans (.trans (KeepsClock.each (fun m n hn => ?_) _) (keepsClock_creditAll _))
    exact keepsClock_chanCycle m raw n (List.mem_range.mp (List.mem_filter.mp hn).1)
  · unfold Mach.coreCycle
    rw [if_neg (by simp [hr, hc])]

/-- R22, R75, R90, R448: what a cycle of the running core does to the time base and to PCIe transmit. -/
theorem coreCycle_gives (raw : List (Fin 64 × List (BitVec 12))) (s : State) (hr : s.m.tb.running = true)
    (hc : s.m.tb.cyc < s.m.cycLimit) :
    Gives (.coreCycle raw) s fun t => t.tb.cyc = s.m.tb.cyc + 1 ∧ t.tb.stitch = s.m.tb.stitch ∧
      t.tb.dt = (s.m.tb.dt + s.m.dtStep) % 2 ^ 104 ∧
      t.tb.ppsLeft = (if s.m.tb.ppsLeft = some 0 then none else s.m.tb.ppsLeft.map (· - s.m.dtStep)) ∧
      t.tx = if t.hostUp then (s.m.tx.take t.out).send else s.m.tx.take t.out := by
  obtain ⟨v, hv, he⟩ := coreCycle_running raw s.m hr hc
  obtain ⟨ptb, ptx, pregs⟩ := ppsCycle_keeps s.m
  rw [← hv.tb] at ptb
  have xtal : v.tb.xtal = s.m.tb.xtal := by rw [ptb]
  have khz : v.tb.oldKhz = s.m.tb.oldKhz := by rw [ptb]
  have now : v.tb.dt = s.m.tb.dt := by rw [ptb]
  have left : v.tb.ppsLeft = if s.m.tb.ppsLeft = some 0 then none else s.m.tb.ppsLeft := by rw [ptb]
  let w : Mach := { v with tb := { v.tb with stitch := s.m.tb.stitch, cyc := s.m.tb.cyc + 1 } }
  have step : w.dtStep = s.m.dtStep := dtStep_congr xtal khz fun k hk => pregs ▸ hv.regs k hk
  obtain ⟨cyc, stitch, dt, pps⟩ := advance_tb w
  rw [step] at dt pps
  refine ⟨{ s with m := s.m.coreCycle raw }, rfl, keeps_m s _, ?_⟩
  rw [he]
  refine ⟨cyc, stitch, dt.trans ?_, pps.trans ?_, ?_⟩
  · show (v.tb.dt + s.m.dtStep) % 2 ^ 104 = _
    rw [now]
  · show v.tb.ppsLeft.map (· - s.m.dtStep) = _
    rw [left]
    split <;> rfl
  · rw [transmit_tx, advance_tx]
    exact (hv.tx.trans ptx) ▸ rfl

/-- A core that stands, or that is at its limit, counts no cycle. -/
theorem coreCycle_stands (raw : List (Fin 64 × List (BitVec 12))) (s : State)
    (h : s.m.tb.running = false ∨ s.m.cycLimit ≤ s.m.tb.cyc) : Becomes (.coreCycle raw) s s.m := by
  refine congrArg (fun m => Host.Outcome.next { s with m := m }) (if_pos ?_)
  rcases h with h | h <;> simp [h]

/-! ### The order of packets (R337, R367, R448) -/

/-- The packet found first reports no data that still waits. -/
theorem firstFree_not_late {late : List DataFor} {rings : List Nat} {ps l : List Pkt} {a : Pkt}
    (h : firstFree late rings ps = some (a, l)) : a.data ∉ late := by
  induction ps generalizing rings l with
  | nil => cases h
  | cons p ps ih =>
    unfold firstFree at h
    split at h
    · obtain ⟨r, hr, he⟩ := Option.map_eq_some_iff.mp h
      cases he
      exact ih hr
    · next hn =>
      cases h
      exact fun hm => hn (by simp [hm])

theorem Tx.mem_late {x : Tx} {d : DataFor} : d ∈ x.late ↔ (∃ p ∈ x.c3 ++ x.c5, p.data = d) ∧ d ≠ .nobody := by
  unfold Tx.late
  rw [List.mem_filter, List.mem_map, bne_iff_ne]

/-- What some entry reports and still waits is nobody's data for a packet that is free to go. -/
theorem free_reports_nothing_waiting {x : Tx} {a : Pkt} {l : List Pkt} (h : firstFree x.late [] x.c1 = some (a, l)) :
    ∀ p ∈ x.c3 ++ x.c5, p.data = a.data → p.data = .nobody := by
  intro p hp he
  refine Decidable.byContradiction fun hn => ?_
  exact firstFree_not_late h (Tx.mem_late.mpr ⟨⟨p, hp, he⟩, he ▸ hn⟩)

/-- A packet that reports nothing and is the oldest of C1 is free to go. -/
theorem firstFree_head (x : Tx) (a : Pkt) (l : List Pkt) (hd : a.data = .nobody) :
    firstFree x.late [] (a :: l) = some (a, l) := by
  have hn : DataFor.nobody ∉ x.late := fun h => (Tx.mem_late.mp h).2 rfl
  unfold firstFree
  rw [if_neg (by simp [hd, hn])]

section
variable {x : Tx} {a : Pkt} {l : List Pkt}

/-- A free packet of C1 goes before C3, unless eight of C1 have gone in a row. -/
theorem Tx.send_c1 (hf : firstFree x.late [] x.c1 = some (a, l)) (h : x.c3 = [] ∨ x.run < 8) :
    x.send.c1 = l ∧ x.send.c3 = x.c3 ∧ x.send.sent = x.sent ++ [a] := by
  unfold Tx.send
  rw [hf]
  cases hc : x.c3 with
  | nil => exact ⟨rfl, rfl, rfl⟩
  | cons b c3 =>
    have hr : x.run < 8 := h.resolve_left (by simp [hc])
    dsimp only
    rw [if_pos hr]
    exact ⟨rfl, rfl, rfl⟩

/-- After eight packets of C1 in a row one of C3 goes. -/
theorem Tx.send_c3_after_eight (hf : firstFree x.late [] x.c1 ≠ none) (hr : 8 ≤ x.run) (hc : x.c3 = a :: l) :
    x.send.c1 = x.c1 ∧ x.send.c3 = l ∧ x.send.sent = x.sent ++ [a] ∧ x.send.run = 0 := by
  obtain ⟨r, hr'⟩ := Option.ne_none_iff_exists'.mp hf
  unfold Tx.send
  rw [hr', hc]
  dsimp only
  rw [if_neg (Nat.not_lt.mpr hr)]
  exact ⟨rfl, rfl, rfl, rfl⟩

/-- With no free packet of C1 one of C3 goes before C5. -/
theorem Tx.send_c3 (hf : firstFree x.late [] x.c1 = none) (hc : x.c3 = a :: l) :
    x.send.c3 = l ∧ x.send.c5 = x.c5 ∧ x.send.sent = x.sent ++ [a] := by
  unfold Tx.send
  rw [hf, hc]
  exact ⟨rfl, rfl, rfl⟩

/-- C5 goes last. -/
theorem Tx.send_c5 (hf : firstFree x.late [] x.c1 = none) (hc : x.c3 = []) (hl : x.c5 = a :: l) :
    x.send.c5 = l ∧ x.send.sent = x.sent ++ [a] := by
  unfold Tx.send
  rw [hf, hc, hl]
  exact ⟨rfl, rfl⟩

end

/-- At most eight packets of C1 are counted in a row. -/
theorem Tx.send_run (x : Tx) (_ : x.run ≤ 8) : x.send.run ≤ 8 ∧ x.send.run ≤ x.run + 1 := by
  unfold Tx.send
  split
  · exact ⟨Nat.zero_le _, Nat.zero_le _⟩
  · split
    · next hr => exact ⟨hr, Nat.le_refl _⟩
    · exact ⟨Nat.zero_le _, Nat.zero_le _⟩
  iterate 3 exact ⟨Nat.zero_le _, Nat.zero_le _⟩

/-- Settles O36: a cycle of the running core, one of a core that stands, and the order in which packets leave. -/
theorem coreCycleCountsCycleAndTime : Obligations.CoreCycleCountsCycleAndTime := by
  refine ⟨coreCycle_gives, coreCycle_stands, fun x a l => ?_, Tx.send_run⟩
  exact ⟨Tx.send_c1, Tx.send_c3_after_eight, Tx.send_c3, Tx.send_c5, fun hc hd => hc ▸ firstFree_head x a l hd,
    free_reports_nothing_waiting⟩

end Sys2Proof.Machine
end

section
/-! The maintenance slot (R442, R466): one that admits Retention ends PPSOUT's pulse, which is a change of the time base. -/
namespace Sys2Proof.Machine
open Sys2Proof

/-! ### Entering Retention -/

theorem keepsClock_mclkFollow (m : Mach) (g : Nat) : KeepsClock m (m.mclkFollow g) := by
  unfold Mach.mclkFollow
  extract_lets on m₁
  have shown : KeepsClock m m₁ :=
    (keepsClock_wr_above m LOG_MG_STAT_RUNNING [g] _ (by decide)).trans (quiet_pin _ _ _).keepsClock
  exact .ite (.refl m) (.ite (shown.trans (.of_eq rfl rfl rfl)) shown)

theorem keepsClock_resetUnit (m : Mach) (u k : Nat) : KeepsClock m (m.resetUnit u k) := by
  refine .ite (.trans ?_ (keepsClock_setUnit _ u {})) (.refl m)
  refine .trans (.trans ?_ (keepsClock_unitStat _ u false)) (keepsClock_wr_above _ TRG_UNIT_STAT_RUNNING [u] _ (by decide))
  exact .of_eq rfl rfl rfl

theorem keepsClock_stopUnit (m : Mach) (u k : Nat) : KeepsClock m (m.stopUnit u k) := by
  unfold Mach.stopUnit
  extract_lets mine trg m₁
  have dropped : KeepsClock m m₁ := .of_eq rfl rfl rfl
  exact (dropped.trans (KeepsClock.each (fun m x _ => keepsClock_finishCross m x true) m₁)).trans (keepsClock_resetUnit _ u k)

theorem keepsClock_chanOff (m : Mach) (n st : Nat) (hn : n < 64) : KeepsClock m (m.chanOff n st) :=
  (keepsClock_wr m TIL_CH_STAT_STATE [n] st (tbsKey_below _ 64 n rfl (by decide) (by decide) (by omega))).trans
    (.of_eq rfl rfl rfl)

theorem keepsClock_refout (m : Mach) : KeepsClock m m.refout := (quiet_pin m _ _).keepsClock

/-- R90, R466: PPSOUT is low from the entry into Retention on. -/
theorem retBegin_ppsLeft (m : Mach) : m.retBegin.tb.ppsLeft = none := by
  unfold Mach.retBegin
  extract_lets m₁ boot m₂ m₃ m₄ m₅
  have low : KeepsClock m₄.ppsDone m₅ :=
    (((keepsClock_ppsLow m₄).trans (keepsClock_refout _)).trans
      (KeepsClock.each (fun m g _ => keepsClock_mclkFollow m g) _)).trans (KeepsClock.each (fun m g _ => keepsClock_emit m _) _)
  have off : KeepsClock m₅ (each (allCh.filter fun n => m₅.chState n == chOn || m₅.chState n == chSettling)
      (fun m n => (m.stopUnits n m.stitch).chanOff n chOff) m₅) := KeepsClock.each (fun m n hn =>
    ((keepsClock_stopUnit m _ _).trans (keepsClock_stopUnit _ _ _)).trans
      (keepsClock_chanOff _ n chOff (List.mem_range.mp (List.mem_filter.mp hn).1))) m₅
  rw [(low.trans off).tb]
  rfl

/-! ### The work of the slot after its admissions -/

theorem keepsClock_maintRegs (m : Mach) : KeepsClock m m.maintRegs :=
  keepsClock_wrs_above m _ (by simp [FLT_MAINT_STAT_RUN, FLT_MAINT_STAT_DEFER])

theorem keepsClock_flt (m : Mach) (f : Flt) : KeepsClock m { m with flt := f } := .of_eq rfl rfl rfl

theorem keepsClock_runMaint (m : Mach) (r : MReq) : KeepsClock m (m.runMaint r) :=
  (keepsClock_flt m _).trans (keepsClock_maintRegs _)

/-- A request that the device makes of itself. -/
theorem keepsClock_maint (m : Mach) (a i : Nat) (args : List Nat) : KeepsClock m (m.maint a i args none).1 := by
  unfold Mach.maint
  split
  · exact .refl m
  · dsimp only
    split
    · exact (((keepsClock_flt m _).trans (keepsClock_maintRegs _)).trans
        (keepsClock_inc_above _ FLT_MAINT_DEFER_COUNT [a] (by decide))).trans (keepsClock_raise _ 11 _ _ _ _ (by decide))
    · exact keepsClock_runMaint m _

theorem keepsClock_stepDue (m : Mach) (a : Nat) : KeepsClock m (m.stepDue a) := .ite (.refl m) (keepsClock_maint m a 0 [])

theorem keepsClock_twinAsk (m : Mach) (lo hi : Nat) : KeepsClock m (m.twinAsk lo hi none) := by
  refine (keepsClock_maint m actTwin 0 []).trans ?_
  unfold Mach.twinAsk
  dsimp only
  split <;> exact .of_eq rfl rfl rfl

theorem keepsClock_slotRequests (m : Mach) : KeepsClock m m.slotRequests := by
  unfold Mach.slotRequests
  extract_lets m₁ per
  have scrub : KeepsClock m m₁ := .ite (keepsClock_stepDue m actSramScrub) (.refl m)
  exact scrub.trans (.ite (keepsClock_stepDue m₁ actTwin) (.ite (keepsClock_twinAsk m₁ _ _) (.refl m₁)))

theorem keepsClock_slotStart (m : Mach) : KeepsClock m m.slotStart := by
  unfold Mach.slotStart
  dsimp only
  split
  · split <;> exact .of_eq rfl rfl rfl
  · exact .of_eq rfl rfl rfl
  · exact .of_eq rfl rfl rfl
  · exact .refl m

theorem keepsClock_maintAges (m : Mach) : KeepsClock m m.maintAges :=
  KeepsClock.each (fun m a _ => keepsClock_wr_above m FLT_MAINT_DEFER_OLDEST [a] _ (by decide)) m

/-- A slot in which no step ends and Retention alone is admitted: PPSOUT's pulse is over. -/
theorem maintSlot_admits_retention {m : Mach} {r : MReq} (he : m.sramStepEnd.twinStepEnd = m) (ha : m.admitReqs.1 = [r])
    (hr : r.act = actRetention) : (m.maintSlot []).tb.ppsLeft = none := by
  have began : m.admitAll = (m.admitted r).retBegin := by
    unfold Mach.admitAll
    rw [ha]
    show (m.admitted r).startAdmitted r = _
    unfold Mach.startAdmitted
    rw [hr]
    rfl
  have work := (((keepsClock_slotRequests m.admitAll).trans (keepsClock_slotStart _)).trans (keepsClock_maintRegs _)).trans
    (keepsClock_maintAges _)
  show ((m.sramStepEnd.twinStepEnd.admitAll.slotRequests.slotStart.maintRegs).maintAges).tb.ppsLeft = none
  rw [he, work.tb, began, retBegin_ppsLeft]

/-! ### A slot that admits Retention while PPSOUT is high -/

/-- In full service, in the cycles of the maintenance slot: DEVICE_STATE's request to enter Retention was deferred, and the
pulse of the last whole second is still high. -/
def retentionWaits : State where
  pending := []
  hoopSeal := ⟨false, .opened, 0, false, 0⟩
  dram := ⟨[], []⟩
  m := { regs := [(HIF_DEV_STAGE.key [], 7)]
         tb := { running := true, slot := 5, cyc := 224, ppsLeft := some (msDt * 2 ^ 40) }
         flt := { deferred := [{ act := actRetention, inst := 0, since := 0, cmd := some {}, was := true }] } }

/-- Refutes O37: its last part has the maintenance slot change nothing of the time base but the turn, yet a slot that admits
Retention while PPSOUT is high ends the pulse (R466, R90), and PPSOUT's time is part of the time base. -/
theorem not_stitchBoundaryOpensTheNextStitch : ¬ Obligations.StitchBoundaryOpensTheNextStitch := by
  rintro ⟨-, -, -, -, -, -, slot⟩
  have gives := slot [] retentionWaits
  rw [if_pos (by decide)] at gives
  obtain ⟨t, he, -, same, -⟩ := gives
  cases he
  have low : (doMaintenanceSlot [] retentionWaits).m.tb.ppsLeft = none := by
    show (retentionWaits.m.inSlot 5 fun m => m.maintSlot []).tb.ppsLeft = none
    unfold Mach.inSlot
    rw [if_pos (by decide)]
    exact maintSlot_admits_retention rfl rfl rfl
  rw [same] at low
  cases low

end Sys2Proof.Machine
end

section
/-! Trigger commands at their boundary (R134, Table 4.8): each writes fields of its payload, at different places, and TRG_TIMER
moves its timer as well. -/
namespace Sys2Proof.Machine
open Sys2Proof

/-! ### Fields of a payload -/

/-- The writes of fields at one index, each with the payload word and the lowest bit that its value comes from. -/
def payloadFlds (h : HostCmd) (ix : List Nat) (l : List (Fld × Nat × Nat)) : List (Fld × List Nat × Nat) :=
  l.map fun p => (p.1, ix, h.f p.2.1 p.2.2 p.1.width)

theorem payloadFlds_fit (h : HostCmd) (ix : List Nat) (l : List (Fld × Nat × Nat)) :
    ∀ p ∈ payloadFlds h ix l, p.2.2 < 2 ^ p.1.width := by
  intro p hp
  obtain ⟨q, -, rfl⟩ := List.mem_map.mp hp
  exact HostCmd_f_lt ..

/-- The place of a field at index `t` lies `t` strides after that at index 0. -/
theorem Fld.key_shift {F : Fld} {d : Nat} (hd : F.dims.map Prod.fst = [d]) (t : Nat) :
    F.key [t] = F.key [0] + d * t * 32 := by
  obtain ⟨⟨s, n⟩, hF, rfl⟩ := List.map_eq_singleton_iff.mp hd
  simp only [Fld.key, hF, dimOffset]
  omega

/-- Different places moved by one distance stay different. -/
theorem nodup_map_add {l : List Nat} (hl : l.Nodup) (c : Nat) : (l.map (· + c)).Nodup :=
  List.Pairwise.map _ (fun _ _ hne he => hne (Nat.add_right_cancel he)) hl

/-- Fields of one stride that stand at different places at index 0 do so at every index. -/
theorem payloadFlds_keys_nodup (h : HostCmd) (t : Nat) {d : Nat} {l : List (Fld × Nat × Nat)}
    (hd : ∀ p ∈ l, p.1.dims.map Prod.fst = [d]) (h0 : (l.map fun p => p.1.key [0]).Nodup) :
    ((payloadFlds h [t] l).map fun p => p.1.key p.2.1).Nodup := by
  have shift : ((payloadFlds h [t] l).map fun p => p.1.key p.2.1) = (l.map fun p => p.1.key [0]).map (· + d * t * 32) := by
    rw [payloadFlds, List.map_map, List.map_map]
    exact List.map_congr_left fun p hp => Fld.key_shift (hd p hp) t
  rw [shift]
  exact nodup_map_add h0 _

/-- A payload taken into the registers of one index sets exactly its fields. -/
theorem sets_payload (m : Mach) (h : HostCmd) (t : Nat) {d : Nat} {l : List (Fld × Nat × Nat)}
    (hd : ∀ p ∈ l, p.1.dims.map Prod.fst = [d]) (h0 : (l.map fun p => p.1.key [0]).Nodup) :
    Sets m (m.wrs (payloadFlds h [t] l)) (payloadFlds h [t] l) :=
  sets_wrs m _ (payloadFlds_keys_nodup h t hd h0) (payloadFlds_fit h [t] l)

/-- Lists of fields written one after the other are one list. -/
theorem each_wrs {α : Type} (m : Mach) (l : List α) (g : α → List (Fld × List Nat × Nat)) :
    each l (fun m x => m.wrs (g x)) m = m.wrs (l.flatMap g) :=
  (List.foldl_flatMap ..).symm

/-! ### TRG_PROGRAM, TRG_QSEG and TRG_OUT -/

/-- TRG_PROGRAM's payload (Table 4.8). -/
def programLayout : List (Fld × Nat × Nat) :=
  [(TRG_SET_CFG_MODE, 1, 0), (TRG_SET_CFG_HO_MODE, 1, 2), (TRG_SET_CFG_A_QUAL, 1, 4), (TRG_SET_CFG_B_QUAL, 1, 6),
   (TRG_SET_CFG_PAT_OP, 1, 8), (TRG_SET_A01_SID_LOW, 2, 0), (TRG_SET_A01_SID_HIGH, 2, 16), (TRG_SET_A23_SID_LOW, 2, 32),
   (TRG_SET_A23_SID_HIGH, 2, 48), (TRG_SET_B01_SID_LOW, 3, 0), (TRG_SET_B01_SID_HIGH, 3, 16), (TRG_SET_B23_SID_LOW, 3, 32),
   (TRG_SET_B23_SID_HIGH, 3, 48), (TRG_SET_RSTN_RESET_SID, 4, 0), (TRG_SET_RSTN_N, 4, 16), (TRG_SET_DMIN, 5, 0),
   (TRG_SET_DMAX, 6, 0), (TRG_SET_HO, 7, 0)]

theorem applyProgram_sets (m : Mach) (h : HostCmd) :
    Sets m (applyProgram h m) (payloadFlds h [h.tgt] programLayout) :=
  sets_payload m h h.tgt (l := programLayout) (d := 256) (by decide) (by decide)

theorem applyQseg_sets (m : Mach) (h : HostCmd) :
    Sets m (applyQseg h m) (payloadFlds h [h.tgt] [(TRG_QSEG_MASK, 1, 0)]) :=
  sets_payload m h h.tgt (l := [(TRG_QSEG_MASK, 1, 0)]) (d := 4) (by decide) (by decide)

theorem applyOut_sets (m : Mach) (h : HostCmd) :
    Sets m (applyOut h m) (payloadFlds h [h.tgt] [(TRG_SET_OUT_WIDTH, 1, 0), (TRG_SET_OUT_EN, 1, 16)]) :=
  sets_payload m h h.tgt (l := [(TRG_SET_OUT_WIDTH, 1, 0), (TRG_SET_OUT_EN, 1, 16)]) (d := 256) (by decide) (by decide)

/-! ### TRG_TIMER (R132) -/

/-- Beside the timer itself the command sets its two registers. -/
theorem applyTimer_sets (m : Mach) (h : HostCmd) :
    Sets { m with trg := (applyTimer h m).trg } (applyTimer h m)
      (payloadFlds h [h.tgt] [(TRG_TMR_PER_PERIOD, 1, 0), (TRG_TMR_CTL_EN, 1, 32)]) :=
  sets_payload { m with trg := (applyTimer h m).trg } h h.tgt
    (l := [(TRG_TMR_PER_PERIOD, 1, 0), (TRG_TMR_CTL_EN, 1, 32)]) (d := 16) (by decide) (by decide)

/-- With EN the timer fires next at the START stitch, without EN it is gone. -/
theorem applyTimer_timer (m : Mach) (h : HostCmd) :
    tfind (applyTimer h m).trg.timers h.tgt = if h.b 1 32 then some (h.f 2 0 64 * 256) else none := by
  show tfind (if h.b 1 32 then tins m.trg.timers h.tgt (h.f 2 0 64 * 256) else tdel m.trg.timers h.tgt) h.tgt = _
  split
  · rw [tfind_tins, if_pos rfl]
  · rw [tfind_tdel, if_pos rfl]

/-! ### TRG_PATTERN -/

/-- Term `i` of TRG_PATTERN in the layout of TRG_PAT, two per word (Table 4.8). -/
def termFlds (h : HostCmd) (i : Nat) : List (Fld × List Nat × Nat) :=
  payloadFlds h [h.tgt, h.f 1 0 6 + i] [(TRG_PAT_SID, 2 + i / 2, 32 * (i % 2)), (TRG_PAT_COND, 2 + i / 2, 32 * (i % 2) + 10)]

/-- The operator and the eight terms from FIRST on. -/
def patternFlds (h : HostCmd) : List (Fld × List Nat × Nat) :=
  payloadFlds h [h.tgt] [(TRG_SET_CFG_PAT_OP, 1, 8)] ++ (List.range 8).flatMap (termFlds h)

theorem applyPattern_eq (h : HostCmd) (m : Mach) : applyPattern h m = m.wrs (patternFlds h) := by
  rw [patternFlds, wrs_append, ← each_wrs]
  rfl

theorem patternFlds_fit (h : HostCmd) : ∀ p ∈ patternFlds h, p.2.2 < 2 ^ p.1.width := by
  intro p hp
  rcases List.mem_append.mp hp with hp | hp
  · exact payloadFlds_fit _ _ _ p hp
  · obtain ⟨i, -, hi⟩ := List.mem_flatMap.mp hp
    exact payloadFlds_fit _ _ _ p hi

/-- The places of the eight terms are those of the first eight terms of set 0, moved by the set and by FIRST. -/
theorem termFlds_keys (h : HostCmd) :
    (((List.range 8).flatMap (termFlds h)).map fun p => p.1.key p.2.1) =
      ((List.range 8).flatMap fun i => [TRG_PAT_SID.key [0, i], TRG_PAT_COND.key [0, i]]).map
        (· + (256 * h.tgt + 4 * h.f 1 0 6) * 32) := by
  rw [List.map_flatMap, List.map_flatMap]
  congr 1
  funext i
  simp only [termFlds, payloadFlds, List.map, Fld.key, TRG_PAT_SID, TRG_PAT_COND, dimOffset, List.cons.injEq, and_true]
  omega

/-- The registers of the sets end below the terms. -/
theorem patOp_key_lt {t : Nat} (ht : t < 16) : TRG_SET_CFG_PAT_OP.key [t] < 0x508000 * 32 := by
  simp only [Fld.key, TRG_SET_CFG_PAT_OP, dimOffset]
  omega

theorem patternFlds_keys_nodup {h : HostCmd} (ht : h.tgt < 16) :
    ((patternFlds h).map fun p => p.1.key p.2.1).Nodup := by
  have terms : ((List.range 8).flatMap fun i => [TRG_PAT_SID.key [0, i], TRG_PAT_COND.key [0, i]]).Nodup := by decide
  have above : ∀ k ∈ (List.range 8).flatMap fun i => [TRG_PAT_SID.key [0, i], TRG_PAT_COND.key [0, i]],
      0x508000 * 32 ≤ k := by decide
  rw [patternFlds, List.map_append, termFlds_keys]
  refine List.nodup_cons.mpr ⟨fun hm => ?_, nodup_map_add terms _⟩
  obtain ⟨k, hk, he⟩ := List.mem_map.mp hm
  have he : k + (256 * h.tgt + 4 * h.f 1 0 6) * 32 = TRG_SET_CFG_PAT_OP.key [h.tgt] := he
  have low := patOp_key_lt ht
  have high := above k hk
  omega

theorem applyPattern_holds {h : HostCmd} (m : Mach) (ht : h.tgt < 16) : Holds (applyPattern h m) (patternFlds h) := by
  rw [applyPattern_eq]
  exact (sets_wrs m _ (patternFlds_keys_nodup ht) (patternFlds_fit h)).2

/-- Settles O32: TRG_PROGRAM, TRG_QSEG, TRG_OUT and TRG_TIMER set exactly the registers of their payloads, a timer starts or
goes, and the operator and terms of TRG_PATTERN are held. -/
theorem triggerSettingsApply : Obligations.TriggerSettingsApply :=
  ⟨applyProgram_sets, applyQseg_sets, applyOut_sets, applyTimer_sets, applyTimer_timer, fun m _ => applyPattern_holds m⟩

end Sys2Proof.Machine
end

section
/-! Set commands at their boundary (R201, R217): the accumulation that becomes INVALID takes the folds that wait with it, so more
changes than the registers of the payload. -/
namespace Sys2Proof.Machine
open Sys2Proof

/-! ### Folds that wait when an accumulation becomes INVALID -/

/-- When all folds of a set are over, none of its closed records still waits and FOLDING is 0 (assumption 146). -/
theorem foldsOver_all_folding (m : Mach) (t : Nat) : (m.foldsOver t fun _ => true).rd ACC_SET_STAT_FOLDING [t] = 0 := by
  unfold Mach.foldsOver Mach.wb
  rw [Mach.rd_wr_same, List.any_map, List.any_eq_false.mpr]
  · rfl
  · intro c _
    by_cases hc : c.set = t <;> simp [hc]

theorem accInvalid_folding (m : Mach) (t : Nat) : (m.accInvalid t).rd ACC_SET_STAT_FOLDING [t] = 0 := foldsOver_all_folding _ t

/-- SET_MEMBERS ends the folds of its set. -/
theorem setMembers_folding (m : Mach) (h : HostCmd) : (Applies 0x18 h m).rd ACC_SET_STAT_FOLDING [h.tgt] = 0 :=
  accInvalid_folding _ h.tgt

/-! ### A set with a fold that waits -/

/-- In full service: set 0 accumulates channel 0 and was stopped by a loss of SPLL in the middle of a record; the samples
from before the loss are still to fold (R203). -/
def foldWaits : State where
  pending := []
  hoopSeal := ⟨false, .opened, 0, false, 0⟩
  dram := ⟨[], []⟩
  m := { ({} : Mach).wrs [(HIF_DEV_STAGE, [], 7), (CAP_SET_MEMB, [0], 1), (CAP_SET_CFG_MODE, [0], 2), (CAP_SET_POST, [0], 4096),
           (CAP_SET_STAT_STATE, [0], siStopped), (ACC_SET_STAT_FOLDING, [0], 1)] with
         tb := { running := true, stitch := 6 }
         cap := { closed := [{ set := 0, flags := fTruncated ||| fClkLost, arr := 5, meas := 0xFFFFFFFF, prk := 0, foldEnd := 4096,
                               truncated := true, measured := true,
                               rec_ := { seg := 0, slot := 0, entry := 0, t := 0, epoch := 0, trig := 2048, pre := 0, post := 4096,
                                         dead := 0, missed := 0, got := 2048, smp := [List.replicate 2048 0],
                                         cut := some (.stitch 5) } }] } }

/-- SET_MEMBERS of set 0 with channel 1. -/
def takeChannel1 : HostCmd := { w1 := 2 }

/-- The command passes its checks: a set in STOPPED is not active (R164). -/
theorem takeChannel1_admitted : Admitted ciSetMembers ownSetMembers takeChannel1 foldWaits :=
  ⟨by decide, by decide, by decide⟩

/-- Refutes O31: its first part has SET_MEMBERS change nothing but MEMB and the state of the accumulation, yet where a record
waits to fold the command drops that fold, and FOLDING goes from 1 to 0 with it. -/
theorem not_setSettingsApply : ¬ Obligations.SetSettingsApply := by
  rintro ⟨members, -⟩
  obtain ⟨quiet, -⟩ := members foldWaits.m takeChannel1
  have kept : (Applies 0x18 takeChannel1 foldWaits.m).rd ACC_SET_STAT_FOLDING [0] = foldWaits.m.rd ACC_SET_STAT_FOLDING [0] :=
    quiet.rd ACC_SET_STAT_FOLDING [0] (by decide) (by decide)
  have waited : foldWaits.m.rd ACC_SET_STAT_FOLDING [0] = 1 := by decide
  have gone : (Applies 0x18 takeChannel1 foldWaits.m).rd ACC_SET_STAT_FOLDING [0] = 0 := setMembers_folding _ takeChannel1
  rw [gone, waited] at kept
  cases kept

end Sys2Proof.Machine
end

section
/-! Supply watch (R284): the end of a watch conversion, and what starts after it. -/
namespace Sys2Proof.Machine
open Sys2Proof

/-! ### State of a converter -/

@[simp] theorem hkst_setHk_same (m : Mach) (c : Nat) (v : HkSt) : (m.setHk c v).hkst c = v := by
  unfold Mach.setHk Mach.hkst
  rw [tget_tput, if_pos rfl]

@[simp] theorem hkst_modHk_same (m : Mach) (c : Nat) (f : HkSt → HkSt) : (m.modHk c f).hkst c = f (m.hkst c) :=
  hkst_setHk_same m c _

@[simp] theorem hkst_wr (m : Mach) (F : Fld) (ix : List Nat) (v c : Nat) : (m.wr F ix v).hkst c = m.hkst c := rfl

theorem hkst_raise (m : Mach) (cls code src : Nat) (w sh : List Nat) (c : Nat) (h : cls < 13) :
    (m.raise cls code src w sh).hkst c = m.hkst c := by
  unfold Mach.hkst
  rw [(quiet_raise m cls code src w sh h).hk]

/-! ### Conversions of the watch -/

/-- To keep the least codes of warned rails changes nothing else of HKB. -/
theorem hkst_watchKeep (m : Mach) (src code : Nat) :
    ∃ l, (m.watchKeep src code).hkst 1 = { m.hkst 1 with least := l } := by
  refine List.foldlRecOn (motive := fun t : Mach => ∃ l, t.hkst 1 = { m.hkst 1 with least := l }) _ _ ⟨_, rfl⟩ ?_
  rintro t ⟨l, hl⟩ r -
  rw [hkst_modHk_same, hl]
  exact ⟨_, rfl⟩

/-- As HKB enters WATCH, the count of watch conversions starts at 0. -/
theorem watchStart_watchN (m : Mach) (src : Nat) (hw : (m.hkst 1).watch = false) :
    ((m.watchStart src).hkst 1).watchN = 0 := by
  unfold Mach.watchStart
  simp [hw, hkst_raise]

/-- Outside WATCH, the conversion that a supply monitor asked for lets HKB enter it. -/
theorem hkNext_monitor_watchN (m : Mach) (src : Nat) (cmd : Option HostCmd) (hu : (m.hkst 1).urg = some (src, cmd))
    (hm : (m.hkst 1).mon = true) (hw : (m.hkst 1).watch = false) : ((m.hkNext 1).hkst 1).watchN = 0 := by
  unfold Mach.hkNext
  simp only [hu, hm, if_true]
  exact watchStart_watchN _ src (by simpa using hw)

/-- A watch conversion that ends outside WATCH, with a supply monitor's request queued, leaves the count at 0. -/
theorem hkEnd_watch_watchN (m : Mach) (raw src x : Nat) (cmd : Option HostCmd) (hc : (m.hkst 1).cur = some (.watch src))
    (hu : (m.hkst 1).urg = some (x, cmd)) (hm : (m.hkst 1).mon = true) (hw : (m.hkst 1).watch = false) :
    ((m.hkEnd 1 raw).hkst 1).watchN = 0 := by
  obtain ⟨l, hl⟩ := hkst_watchKeep m src (m.hkSrcCode 1 src raw)
  unfold Mach.hkEnd
  simp only [hc]
  apply hkNext_monitor_watchN _ x cmd <;> rw [hkst_modHk_same] <;> simp only [Mach.hkConvSrc, hl] <;> assumption

/-- In full service, rail 3 below its warning level: HKB makes a watch conversion of source 28 although it is not in WATCH, and
the request of the rail's monitor is queued. -/
def watchOutsideWatch : State where
  pending := []
  hoopSeal := ⟨false, .opened, 0, false, 0⟩
  dram := ⟨[], []⟩
  m := { ({} : Mach).wrs [(HIF_DEV_STAGE, [], 7), (PWR_RAIL_STAT_WARN, [], 8), (HKC_STAT_URG_PEND, [1], 1)] with
         tb := { running := true }
         hk := { c := [(1, { cur := some (.watch 28), urg := some (28, none), mon := true })] }
         boot := { warn := [(3, (0, 0))] } }

/-- Refutes O26: its fourth part has every watch conversion count once more, in any state, and does not ask that HKB is in
WATCH.  Where HKB is not, a monitor's request in the queue starts with the end of the conversion and HKB enters WATCH, with the
count at 0. -/
theorem not_housekeepingCommands : ¬ Obligations.HousekeepingCommands := by
  rintro ⟨-, -, -, watchCounts, -⟩
  obtain ⟨t, he, -, counted, -⟩ := watchCounts 0 watchOutsideWatch 28 rfl
  cases he
  have fresh : ((watchOutsideWatch.m.hkEnd 1 0).hkst 1).watchN = 0 := hkEnd_watch_watchN _ 0 28 28 none rfl rfl rfl rfl
  exact Nat.succ_ne_zero _ (counted.symm.trans fresh)

end Sys2Proof.Machine
end
